-- ==== Sys2Proof/Word.lean ====
section
/-! DEFINITION. The words the part exchanges and the unit of its clock (00_scope.md, Conventions). -/

namespace Sys2Proof

/-- A byte of the Control Link or of the identity store. -/
abbrev Byte := BitVec 8

/-- A two-byte field of the Control Link, sent most significant byte first (section 10.7). -/
abbrev Word16 := BitVec 16

/-- A five-unit code, 0 to 31: unit 1 is bit 0, unit 5 is bit 4 (Five-unit code). -/
abbrev Code := BitVec 5

/-- The two line levels; mark stands for 1 and space for 0 (Five-unit code). -/
inductive Level where
  | space
  | mark
  deriving DecidableEq, Repr

/-- A two-byte field from its bytes, most significant first (section 10.7). -/
def word16 (hi lo : Byte) : Word16 := hi ++ lo

end Sys2Proof
end

