-- ==== Sys2Proof/Config.lean ====
section
/-! DEFINITION. What the part fixes: sizes, shares, fixed times, and the free values of the model. -/

namespace Sys2Proof.Config

/-- R1: the store holds 384 blocks. -/
def blocks : Nat := 384
/-- R1: a block has 16 cell positions. -/
def blockCells : Nat := 16
/-- R14: the file reserve is 24 blocks. -/
def fileReserve : Nat := 24
/-- R4: no chain holds more than 2048 cells. -/
def chainCells : Nat := 2048
/-- R93: the file holds at most 24 records. -/
def fileRecords : Nat := 24
/-- R178: the notice queue holds at most 16 notices. -/
def noticeSlots : Nat := 16
/-- R79: the capture window takes at most 20 cells. -/
def callerCells : Nat := 20
/-- The largest value of a two-byte count; counts saturate there (Counts and arithmetic). -/
def countMax : Nat := 65535
/-- R148: the keyboard has 64 positions. -/
def keyPositions : Nat := 64
/-- Section 10.1: a frame's body holds at most 48 bytes. -/
def bodyMax : Nat := 48

/-- Ticks of 10 us in a millisecond. -/
def ms : Nat := 100
/-- Ticks in 10 ms. -/
def tenMs : Nat := 1000
/-- Ticks in 100 ms. -/
def hundredMs : Nat := 10000
/-- Ticks in a second. -/
def second : Nat := 100000
/-- R148: a pass is eight column steps of a millisecond. -/
def columns : Nat := 8
/-- 00_scope.md: a byte on the Control Link takes ten bit times, its start bit, 8 data bits and 1 stop bit. -/
def byteBits : Nat := 10
/-- R172: the inter-byte time, 20 ms. -/
def interByte : Nat := 20 * ms
/-- R39: three consecutive samples are taken two ticks apart, first to last. -/
def filterTicks : Nat := 2
/-- R124, R142: paper and tape inputs are sampled every 10 ms, so three samples span 20 ms. -/
def inputFilterTicks : Nat := 2 * tenMs
/-- R73: a caller has withdrawn after 100 ms of space. -/
def withdrawal : Nat := hundredMs
/-- R85: the clearing timer, 5 s. -/
def clearing : Nat := 5 * second
/-- R88: RELEASING asks for 1 s of space. -/
def releasing : Nat := second
/-- R124, R142: paper and tape count as restored 2 s after the change. -/
def restore : Nat := 2 * second
/-- R171: a bell pulse lasts 100 ms. -/
def bell : Nat := hundredMs
/-- R169: the fault limit, 1000 ms beyond the programmed time. -/
def extensionLimit : Nat := 1000

/-- FREE VALUE (log 29). How many ticks before the end of its millisecond a column output is released: R148 has all
the outputs released between steps and gives no time for it. -/
opaque columnRelease : Nat

/-- FREE VALUE (log 11). The cells-copied field of a GET MESSAGE reply for a record that is not being
replayed: R102 gives the field a value only for a record that is REPLAYING. -/
opaque cellsCopied : Nat → Word16

/-- FREE VALUE (log 11). The level a PRINTER STATE or PUNCH STATE notice shows for an input whose
filter holds no level yet: R127 and R142 report "the filtered levels" and R124 says there is none. -/
opaque unknownLevel : Nat → Bool

end Sys2Proof.Config
end

