-- ==== Sys2Proof/Syntax.lean ====
section
/-! DEFINITION. The commands and events the block takes: one constructor for each row of
spec/opcode_table.json. A command of the host stands for its whole frame (log 3); its operands are
the fields of its body, as bytes (section 10.7). The other operands are what comes from outside. -/

namespace Sys2Proof

/-- The two mechanisms that share the motor and have a mechanism timing each (R167). -/
inductive Mechanism where
  | printer
  | punch
  deriving DecidableEq, Repr

/-- The four filtered paper and tape inputs (R124, R142). -/
inductive InputPin where
  | paperOut
  | paperLow
  | tapeOut
  | tapeLow
  deriving DecidableEq, Repr

/-- The rows of the table. -/
inductive Instr where
  /-- R184. Power is applied; the rate straps are read (R183). -/
  | powerOn (straps : BitVec 2)
  /-- R187. The RESET pin; the rate straps are read (R183). -/
  | resetPin (straps : BitVec 2)
  /-- R184, R187. A load finishes. `image` holds the bytes the store acknowledged, from offset 1 on;
  a byte the load calls for that lies beyond its end was not acknowledged. -/
  | loadEnd (image : List Byte)
  /-- R172. A byte arrives on the link with its stop bit; a stop bit at space is a framing error. -/
  | inboundByte (b : Byte) (stop : Level)
  /-- R172. The inter-byte timer expires. -/
  | interByteTimeout
  /-- R172. More than 20 ms have passed without a byte in DISCARDING. -/
  | discardQuietTimeout
  /-- R173. A complete frame whose kind byte is no command kind. -/
  | unknownCommandKind (kind : Byte) (body : List Byte)
  /-- R176. The outbound arbiter starts the next frame. -/
  | outboundFrameStart
  /-- R174. The last byte of the outbound frame has been sent. -/
  | outboundFrameEnd
  /-- R177. HOLD-OFF is asserted. -/
  | holdOffAssert
  /-- R177. HOLD-OFF is deasserted. -/
  | holdOffDeassert
  /-- R180. -/
  | getStatus
  /-- R69. -/
  | startService
  /-- R70. -/
  | stopService
  /-- R189. -/
  | setOption (offset : Byte) (value : Word16)
  /-- R189. -/
  | getOption (offset : Byte)
  /-- R34, R35. -/
  | setRoute (route destinations printStandIn punchStandIn : Byte) (reload : Word16) (action : Byte)
  /-- R36. -/
  | getRoute (route clear : Byte)
  /-- R37. -/
  | rearmRoute (route : Byte)
  /-- R181. -/
  | submitText (target : Byte) (cells : List Byte)
  /-- R182. -/
  | clearSpool (spool : Byte)
  /-- R73. -/
  | acceptCall
  /-- R73. -/
  | declineCall
  /-- R74. -/
  | placeCall
  /-- R84. -/
  | clearCall
  /-- R82. -/
  | sendAnswerback
  /-- R78. -/
  | sendEnquiry
  /-- R83. -/
  | sendBreak
  /-- R83. -/
  | resumeSend
  /-- R90. -/
  | getCall
  /-- R54. -/
  | getLineQuality (clear : Byte)
  /-- R101. -/
  | listMessages (start : Byte)
  /-- R102. -/
  | getMessage (number : Byte)
  /-- R103. -/
  | fetchMessage (number : Byte) (offset : Word16) (count : Byte)
  /-- R104. -/
  | deleteMessage (number : Byte)
  /-- R105. -/
  | replayMessage (number target : Byte)
  /-- R107. -/
  | cancelReplay
  /-- R129. -/
  | printerHold
  /-- R129. -/
  | printerRelease
  /-- R130. -/
  | printerReset
  /-- R144. -/
  | punchOn
  /-- R144. -/
  | punchOff
  /-- R141. -/
  | punchFeed (count : Byte)
  /-- R137. -/
  | punchRelease
  /-- R145. -/
  | punchReset
  /-- R159. -/
  | setKeyboardMode (mode : Byte)
  /-- R190. -/
  | storeRead (offset count : Byte)
  /-- R190. -/
  | storeWrite (offset : Byte) (bytes : List Byte)
  /-- R190. The store operation ends: every byte and address acknowledged or not, and the bytes read. -/
  | storeOperationEnd (acknowledged : Bool) (bytes : List Byte)
  /-- R190. 20 ms have passed since the page write without an acknowledge. -/
  | storeWritePollTimeout
  /-- R191. -/
  | reload
  /-- R192. -/
  | restart
  /-- R39. Three samples agree on `level`; `te` is the tick of the first of them. -/
  | rxFilteredChange (level : Level) (te : Nat)
  /-- R41. The start element's sample time is read. -/
  | startSample
  /-- R41. The next data unit's sample time is read. -/
  | unitSample
  /-- R42. The stop sample is read. -/
  | stopSample
  /-- R47. The break threshold is judged. -/
  | breakThreshold
  /-- R48. The clear threshold is judged. -/
  | clearThreshold
  /-- R57. The turnaround guard timer expires. -/
  | turnaroundGuardExpiry
  /-- R56. The stop element of the character being keyed ends. -/
  | characterSent
  /-- R60. BREAK LENGTH ends. -/
  | breakKeyingEnd
  /-- R71. A mark has lasted CALL RECOGNITION in IDLE. -/
  | callRecognition
  /-- R73. The space has lasted 100 ms in OFFERED or ANSWERING. -/
  | withdrawal
  /-- R73. The offer timer expires. -/
  | offerTimeout
  /-- R75. A mark has lasted CALL RECOGNITION in CALLING. -/
  | confirmation
  /-- R75. The confirmation timer expires. -/
  | confirmTimeout
  /-- R77. The idle timer expires. -/
  | idleTimeout
  /-- R78. The enquiry delay timer expires. -/
  | enquiryDelayExpiry
  /-- R79. The capture window timer expires. -/
  | captureWindowExpiry
  /-- R86. The space has lasted CLEAR RECOGNITION in CLEARING. -/
  | clearingEnd
  /-- R86. The clearing timer expires. -/
  | clearingTimeout
  /-- R88. The space has lasted 1 s in RELEASING. -/
  | releasingEnd
  /-- R163. The run-up timer expires. -/
  | runUpExpiry
  /-- R163. The run-on timer expires. -/
  | runOnExpiry
  /-- R118. SELECT DELAY ends. -/
  | selectEnd
  /-- R118. STRIKE PULSE ends. -/
  | strikeEnd
  /-- R139. PUNCH PULSE ends. -/
  | punchPulseEnd
  /-- R139. FEED PULSE ends. -/
  | feedPulseEnd
  /-- R168. The programmed time is reached in FIXED mode. -/
  | settleFixedEnd (mechanism : Mechanism)
  /-- R168. MECH-BUSY is read at the programmed time in SAMPLED mode. -/
  | settleSampledReading (mechanism : Mechanism) (busy : Bool)
  /-- R168. The programmed time plus the extra is reached. -/
  | settleAddEnd (mechanism : Mechanism)
  /-- R169. MECH-BUSY is read at a millisecond of EXTENDED mode. -/
  | extendedReading (mechanism : Mechanism) (busy : Bool)
  /-- R171. The bell timer expires. -/
  | bellTimerExpiry
  /-- R124. Three samples of paper-out agree; `te` is the tick of the first. -/
  | paperOutChange (asserted : Bool) (te : Nat)
  /-- R126. The paper restore timer expires. -/
  | paperRestoreExpiry
  /-- R127. Three samples of paper-low agree; `te` is the tick of the first. -/
  | paperLowChange (asserted : Bool) (te : Nat)
  /-- R124, R142. The first three samples of an input that agree give its filter a level. -/
  | inputFilterStart (input : InputPin) (asserted : Bool)
  /-- R114. The hold-wait timer expires. -/
  | holdWaitExpiry
  /-- R142. Three samples of tape-out agree; `te` is the tick of the first. -/
  | tapeOutChange (asserted : Bool) (te : Nat)
  /-- R142. The tape restore timer expires. -/
  | tapeRestoreExpiry
  /-- R142. Three samples of tape-low agree; `te` is the tick of the first. -/
  | tapeLowChange (asserted : Bool) (te : Nat)
  /-- R137. The punch release timer expires. -/
  | releaseTimerExpiry
  /-- R149, R151. The third agreeing reading confirms a press of a position. -/
  | confirmedPress (position : Fin 64)
  /-- R149, R151. The third agreeing reading confirms a release of a position. -/
  | confirmedRelease (position : Fin 64)
  /-- R106. The replay copies its next cell when its target can take it. -/
  | replayCopy
  /-- R184. The read of byte 0 of the identity store completes, or is not acknowledged (`none`). -/
  | storeByte0Read (byte : Option Byte)
  deriving DecidableEq, Repr

end Sys2Proof
end

