-- ==== Sys2Proof/WellFormed.lean ====
section
/-! DEFINITION. What a row of the queue must satisfy to be one that can come from outside. The
meanings are total: an ill-formed command is answered as the link answers such a frame. -/

namespace Sys2Proof

/-- The command kinds of section 10.7 are 0x01 to 0x27. -/
def isCommandKind (kind : Byte) : Bool := 0x01 ≤ kind.toNat && kind.toNat ≤ 0x27

/-- Lengths of variable operands, as the row's rule gives them. -/
def Instr.wellFormed : Instr → Bool
  | .loadEnd image => image.length ≤ 0xBF
  | .unknownCommandKind kind body => !isCommandKind kind && body.length ≤ Config.bodyMax
  | .submitText _ cells => 1 ≤ cells.length && cells.length ≤ 40
  | .storeWrite _ bytes => 1 ≤ bytes.length && bytes.length ≤ 16
  | .storeOperationEnd _ bytes => bytes.length ≤ 40
  | _ => true

end Sys2Proof
end

