-- ==== Sys2Proof/Decode.lean ====
section
/-! DEFINITION. The decoder over the rows of spec/opcode_table.json that give bits. No row of this
table gives bits ("fields" is empty in all 96), so no word spells a command. The bytes of a command
frame are read by the Control Link, in Machine/Link.lean. -/

namespace Sys2Proof

/-- The command that a word spells by the table's bits: none, because no row of the table gives any. -/
def decodeTableWord (_nbits _w : Nat) : Option Instr := none

end Sys2Proof
end

