-- ==== Sys2Proof/Machine/State.lean ====
section
/-! DEFINITION. The state of the part, block by block (00_scope.md, Blocks), and its value at power-on.
LOCAL is written `loc` wherever the spec uses the word, for `local` is a word of Lean. -/

namespace Sys2Proof.Machine

/-! ## Cells -/

/-- The case in which a cell's code is to be read (Cells). -/
inductive Case where
  | letters
  | figures
  deriving DecidableEq, Repr

/-- The case of a sink: the line, the printer's mechanism, the tape (Sink case). -/
inductive SinkCase where
  | letters
  | figures
  | unknown
  deriving DecidableEq, Repr

/-- Where a cell came from (Cells). -/
inductive Origin where
  | received
  | sent
  | loc
  | submitted
  deriving DecidableEq, Repr

/-- The receive quality of a cell (Cells). -/
inductive Quality where
  | clean
  | doubtful
  | substituted
  deriving DecidableEq, Repr

/-- The unit of stored traffic (Cells). -/
structure Cell where
  code : Code
  case : Case
  origin : Origin
  quality : Quality
  deriving DecidableEq, Repr

/-- The three streams that share the punch (Streams). -/
inductive Stream where
  | line
  | loc
  | submitted
  deriving DecidableEq, Repr

/-- A three-sample filter: the confirmed level (`none` until one is taken), the number of consecutive
samples so far that ask for another, and the level they ask for (R39, R124, R142, R149). -/
structure Filter where
  level : Option Bool
  run : Nat
  asked : Bool
  deriving DecidableEq, Repr

/-! ## Character Store -/

/-- A cell as a spool holds it: PUNCH keeps the stream beside each cell (R3). -/
structure Entry where
  cell : Cell
  stream : Option Stream
  deriving DecidableEq, Repr

/-- A spool record (R5). `chain` lists its blocks from head to tail, `cells` its cells, oldest first. -/
structure Spool where
  chain : List Nat
  headOffset : Nat
  cells : List Entry
  deriving DecidableEq, Repr

/-- The five spools (R1). -/
inductive SpoolName where
  | pLine
  | pLocal
  | pSubmit
  | punch
  | send
  deriving DecidableEq, Repr

/-- The overflow episode (R15). -/
inductive Episode where
  | closed
  | opened
  deriving DecidableEq, Repr

/-- Why the store refuses space (section 1.5). -/
inductive SpaceReason where
  | atShare
  | noBlock
  | reserve
  deriving DecidableEq, Repr

/-- What a space loss names (R16). -/
inductive SpaceTarget where
  | pLine
  | pLocal
  | punch
  | file
  deriving DecidableEq, Repr

/-- The Character Store: the free list, front first, the spools and the episode (R1, R2, R15). -/
structure Store where
  free : List Nat
  pLine : Spool
  pLocal : Spool
  pSubmit : Spool
  punch : Spool
  send : Spool
  episode : Episode
  deriving DecidableEq, Repr

/-! ## Route Table -/

/-- The three routes (R20). -/
inductive RouteName where
  | received
  | sentCopy
  | keyedLocal
  deriving DecidableEq, Repr

/-- The three destinations (R20). -/
inductive Place where
  | print
  | punch
  | file
  deriving DecidableEq, Repr

/-- A destination set (R20). -/
structure Destinations where
  print : Bool
  punch : Bool
  file : Bool
  deriving DecidableEq, Repr

/-- R32. -/
inductive QuotaAction where
  | notify
  | divert
  | suspend
  deriving DecidableEq, Repr

/-- R20. -/
inductive RouteState where
  | active
  | diverted
  | suspended
  deriving DecidableEq, Repr

/-- A route record (R20). A stand-in NONE is `none`. -/
structure Route where
  destinations : Destinations
  printStandIn : Option Place
  punchStandIn : Option Place
  reload : Nat
  counter : Nat
  action : QuotaAction
  state : RouteState
  placed : Nat
  lost : Nat
  deriving DecidableEq, Repr

/-- The Route Table (R20). -/
structure Routes where
  received : Route
  sentCopy : Route
  keyedLocal : Route
  deriving DecidableEq, Repr

/-- Why a copy could not be placed (R24 to R28). -/
inductive Cause where
  | diverted
  | printer
  | puncher
  | owned
  | notConnected
  | fileFull
  | suspended
  | space (target : SpaceTarget) (reason : SpaceReason)
  deriving DecidableEq, Repr

/-! ## The line -/

/-- The line timing values in effect (R66), in the units of their options (R188). -/
structure LineTiming where
  unit : Nat
  stop : Nat
  limit : Nat
  guard : Nat
  breakRec : Nat
  breakLen : Nat
  clearRec : Nat
  deriving DecidableEq, Repr

/-- The line quality record (R52). -/
structure LineQuality where
  last : Nat
  peak : Nat
  received : Nat
  doubtful : Nat
  substituted : Nat
  falseStarts : Nat
  collisions : Nat
  breaks : Nat
  deriving DecidableEq, Repr

/-- A character in assembly (R41, R42): the start edge, the sample to be read next (0 start, 1 to 5
units, 6 stop), the code so far and the filtered changes so far, oldest first. -/
structure Assembly where
  t0 : Nat
  next : Nat
  code : Code
  changes : List (Nat × Level)
  deriving DecidableEq, Repr

/-- A pending character (R45). -/
structure PendingCharacter where
  code : Code
  distortion : Nat
  deriving DecidableEq, Repr

/-- A space run (R45): its start, its two thresholds, the pending character, and whether the run has
reached the break threshold. -/
structure SpaceRun where
  t0 : Nat
  breakAt : Nat
  clearAt : Nat
  char : Option PendingCharacter
  broken : Bool
  deriving DecidableEq, Repr

/-- The four states of the Line Receiver (R40). -/
inductive LrxState where
  | disabled
  | markRest
  | character (a : Assembly)
  | spaceRun (r : SpaceRun)
  deriving DecidableEq, Repr

/-- The Line Receiver. The filter's level `true` is mark; `since` is the time of its latest change;
`guard` is the turnaround guard timer. -/
structure Lrx where
  filter : Filter
  since : Nat
  state : LrxState
  guard : Option Nat
  quality : LineQuality
  poorRun : Nat
  deriving DecidableEq, Repr

/-- What a keyed character is (R57, R58). -/
inductive KeyingSource where
  | shift
  | answerback
  | enquiry
  | send
  deriving DecidableEq, Repr

/-- A character being keyed (R56): the cell of its sent copy, its source, and its timing. -/
structure Keying where
  cell : Cell
  source : KeyingSource
  startedAt : Nat
  unitTicks : Nat
  stopTicks : Nat
  deriving DecidableEq, Repr

/-- What the Line Sender is doing (R55); REST and HELD are `idle` without and with the hold. -/
inductive LtxActivity where
  | idle
  | sending (k : Keying)
  | breaking (due : Nat)
  deriving DecidableEq, Repr

/-- The Line Sender (R55, R60 to R63). -/
structure Ltx where
  activity : LtxActivity
  hold : Bool
  breakRequest : Bool
  answerback : Option Nat
  enquiryRequest : Bool
  deriving DecidableEq, Repr

/-! ## Call Controller -/

/-- R68. -/
inductive CallState where
  | outOfService
  | idle
  | offered
  | answering
  | calling
  | connected
  | clearing
  | releasing
  deriving DecidableEq, Repr

/-- R89. -/
inductive CallKind where
  | none
  | incoming
  | placed
  deriving DecidableEq, Repr

/-- R89. -/
inductive CallRecordState where
  | offered
  | answering
  | calling
  | connected
  | clearing
  | ended
  deriving DecidableEq, Repr

/-- R87. -/
inductive CallOutcome where
  | farEnd
  | station
  | idle
  | stopService
  | withdrawn
  | noConfirm
  | declined
  | restart
  deriving DecidableEq, Repr

/-- The call record (R89). `elapsed` is the elapsed seconds of an ended record; an open one's are
counted from `openedAt`. -/
structure CallRecord where
  kind : CallKind
  state : CallRecordState
  outcome : Option CallOutcome
  openedAt : Nat
  elapsed : Nat
  received : Nat
  sent : Nat
  breaks : Nat
  lineCase : SinkCase
  caller : Option (List Cell)
  deriving DecidableEq, Repr

/-- An open capture window (R79). -/
structure CaptureWindow where
  due : Nat
  count : Nat
  deriving DecidableEq, Repr

/-- The Call Controller. Each timer is `none` when it is not running, else the tick at which it falls
due: recognition (R71), withdrawal (R73), offer (R73), confirm (R75), markTiming, the mark of R75,
idle (R77), enquiryDelay (R78), clearing and clearSpace (R86), releasing (R88). `enteredAt` is the tick at
which the state was entered (R88). -/
structure Call where
  state : CallState
  stopPending : Bool
  record : CallRecord
  recognition : Option Nat
  withdrawal : Option Nat
  offer : Option Nat
  confirm : Option Nat
  markTiming : Option Nat
  idle : Option Nat
  enquiryDelay : Option Nat
  capture : Option CaptureWindow
  clearing : Option Nat
  clearSpace : Option Nat
  releasing : Option Nat
  clearCause : Option CallOutcome
  sendDiscarded : Nat
  enteredAt : Nat
  deriving DecidableEq, Repr

/-! ## Message File -/

/-- R93. -/
inductive MessageState where
  | receiving
  | filed
  | replaying
  deriving DecidableEq, Repr

/-- A message record (R93). `duration` is set when the record closes. -/
structure Message where
  number : Nat
  state : MessageState
  kind : CallKind
  part : Nat
  continued : Bool
  cells : List Cell
  chain : List Nat
  doubtful : Nat
  substituted : Nat
  lost : Nat
  openedAt : Nat
  duration : Option Nat
  caller : Option (List Cell)
  deriving DecidableEq, Repr

/-- R105. -/
inductive ReplayTarget where
  | print
  | punch
  deriving DecidableEq, Repr

/-- A replay in progress (R105). -/
structure Replay where
  number : Nat
  target : ReplayTarget
  position : Nat
  deriving DecidableEq, Repr

/-- The Message File (R93 to R95, R105). -/
structure File where
  records : List Message
  lastNumber : Nat
  lastPart : Nat
  replay : Option Replay
  deriving DecidableEq, Repr

/-! ## Mechanisms -/

/-- R167. -/
inductive TimingMode where
  | fixed
  | extended
  | sampled
  deriving DecidableEq, Repr

/-- What a code does at a sink, in the function map in effect and the case it is read in (Case and the
function map; log 8). -/
inductive CodeClass where
  | lettersShift
  | figuresShift
  | carriageReturn
  | lineFeed
  | space
  | blank
  | enquiry
  | bell
  | printing
  deriving DecidableEq, Repr

/-- R110. -/
inductive PrinterState where
  | idle
  | cycle
  | noPaper
  | held
  | fault
  deriving DecidableEq, Repr

/-- The three print spools (R111). -/
inductive PrintSpool where
  | pLine
  | pLocal
  | pSubmit
  deriving DecidableEq, Repr

/-- R111. -/
inductive NewlineOwed where
  | none
  | crAndLf
  | lfOnly
  deriving DecidableEq, Repr

/-- R111, R114. -/
inductive HoldWait where
  | notWaiting
  | waiting (due : Nat)
  | expired
  deriving DecidableEq, Repr

/-- Why a print cycle is made (R117): the cell's own, an owed carriage return or line feed, a recovery
carriage return, or an inserted shift. -/
inductive PrintCycleKind where
  | own
  | owedCr
  | owedLf
  | recoveryCr
  | shift
  deriving DecidableEq, Repr

/-- The phases of a print cycle (R118). -/
inductive PrintPhase where
  | select (due : Nat)
  | strike (due : Nat)
  | settle
  deriving DecidableEq, Repr

/-- A print cycle with the options it read at its start (R118). -/
structure PrintCycle where
  code : Code
  reading : CodeClass
  kind : PrintCycleKind
  phase : PrintPhase
  strikePulse : Nat
  programmed : Nat
  mode : TimingMode
  extra : Nat
  deriving DecidableEq, Repr

/-- The Print Controller (R110, R111, R121, R124, R130). -/
structure Printer where
  fault : Bool
  paper : Bool
  hold : Bool
  paperOut : Filter
  paperLow : Filter
  restore : Option Nat
  cycle : Option PrintCycle
  current : Option PrintSpool
  lineOpen : Bool
  pointer : PrintSpool
  interruptedLine : Bool
  interruptedLocal : Bool
  interruptedSubmit : Bool
  committed : Bool
  newlineOwed : NewlineOwed
  holdWait : HoldWait
  column : Option Nat
  width : Nat
  mechCase : SinkCase
  resetPending : Bool
  deriving DecidableEq, Repr

/-- R133. -/
inductive PunchState where
  | off
  | onIdle
  | cycle
  | tapeOut
  | fault
  deriving DecidableEq, Repr

/-- The LINE release state (R136). -/
inductive LineRelease where
  | none
  | marked
  | due
  | trailer (count : Nat)
  deriving DecidableEq, Repr

/-- The phases of a punch cycle (R139). -/
inductive PunchPhase where
  | punch (due : Nat)
  | feed (due : Nat)
  | settle
  deriving DecidableEq, Repr

/-- A punch cycle with the options it read at its start (R139). `shift` is the case a shift code names;
a muted cycle ends without setting the tape case (R140, R145). -/
structure PunchCycle where
  code : Code
  shift : Option Case
  phase : PunchPhase
  feedPulse : Nat
  programmed : Nat
  mode : TimingMode
  extra : Nat
  muted : Bool
  deriving DecidableEq, Repr

/-- A PUNCH FEED request (R141). -/
structure FeedRequest where
  blanks : Nat
  ahead : Nat
  deriving DecidableEq, Repr

/-- The Punch Controller (R133, R134, R136, R137, R141, R142, R145). `switch` is ON, `tape` PRESENT. -/
structure Punch where
  fault : Bool
  switch : Bool
  tape : Bool
  tapeOut : Filter
  tapeLow : Filter
  restore : Option Nat
  cycle : Option PunchCycle
  owner : Option Stream
  tapeCase : SinkCase
  committed : Bool
  leader : Nat
  lineRelease : LineRelease
  localRelease : Bool
  submittedRelease : Bool
  clearRelease : Bool
  releaseTimer : Option Nat
  feedRequest : Option FeedRequest
  feedHeld : Bool
  deriving DecidableEq, Repr

/-! ## Keyboard -/

/-- R155. -/
inductive FunctionKey where
  | hereIs
  | brk
  | mode
  | feed
  deriving DecidableEq, Repr

/-- A key map entry (R150); a case requirement EITHER is `none`. -/
inductive KeyEntry where
  | none
  | code (c : Code) (requirement : Option Case)
  | function (f : FunctionKey)
  deriving DecidableEq, Repr

/-- R151. -/
inductive KeyboardMode where
  | loc
  | line
  | raw
  | locked
  deriving DecidableEq, Repr

/-- The Keyboard Scanner (R148, R149, R151, R152). A position's filter level `true` is DOWN. `thirdFrom` gives for each
position the first pass in which three readings can have agreed since its latest change or the start of scanning, and
`nextReading` is the first reading after the one acted on last, the reading of position p in pass k being reading
64k + p of the scan (R149, log 29). -/
structure Keyboard where
  positions : List Filter
  thirdFrom : List Nat
  nextReading : Nat
  mode : KeyboardMode
  kbdCase : Case
  scanStart : Option Nat
  deriving DecidableEq, Repr

/-! ## Motor -/

/-- The demand set (R162). -/
structure Demand where
  call : Bool
  print : Bool
  punch : Bool
  deriving DecidableEq, Repr

/-- R163. -/
inductive MotorState where
  | off
  | runUp (due : Nat)
  | running
  | runOn (due : Nat)
  deriving DecidableEq, Repr

/-- R167. -/
inductive SettlePhase where
  | idle
  | settling
  | extending
  | adding
  deriving DecidableEq, Repr

/-- A settle record (R167). The elapsed milliseconds run with the clock from `startedAt` (Settle.elapsed);
`reached` is their value when the timing last acted: at the settle's beginning, a reading, or its report. -/
structure Settle where
  phase : SettlePhase
  mode : TimingMode
  programmed : Nat
  extra : Nat
  reached : Nat
  startedAt : Nat
  deriving DecidableEq, Repr

/-- The Motor Controller (R162, R163, R165, R167, R171). The bell output is on while its timer runs. `printWithdrawn`:
PRINT was in the set during this run-up and has been removed, so RUNNING is not reported to the printer, which has not
chosen since (log 36). -/
structure Motor where
  demand : Demand
  state : MotorState
  printWithdrawn : Bool
  printTiming : Settle
  punchTiming : Settle
  bell : Option Nat
  deriving DecidableEq, Repr

/-! ## Identity store -/

/-- The 43 options of R188, in the order of its table. -/
inductive OptionName where
  | unitTime | stopLength | distortionLimit | poorLineRun | turnaroundGuard | breakRecognition
  | breakLength | clearRecognition | substitute | callRecognition | answerPolicy | offerTime
  | offerDefault | enquiryHandling | autoEnquiry | captureWindow | idleClear | confirmTime
  | breakOnOverflow | startInService | lineWidth | autoNewline | printCycle | crBase | crStep
  | lfTime | selectDelay | strikePulse | printTimingMode | printExtra | arbiterHold | punchEnabled
  | punchCycle | punchPulse | feedPulse | punchTimingMode | punchExtra | leaderCount | trailerCount
  | punchReleaseIdle | keyboardMode | runUpTime | runOnTime
  deriving DecidableEq, Repr

/-- The function map (Case and the function map). -/
structure FunctionMap where
  lettersShift : Code
  figuresShift : Code
  carriageReturn : Code
  lineFeed : Code
  space : Code
  blank : Code
  enquiry : Code
  bell : Code
  deriving DecidableEq, Repr

/-- R184. -/
inductive Presence where
  | notYetKnown
  | absent
  | present
  deriving DecidableEq, Repr

/-- R184. -/
inductive LoadKind where
  | none
  | basic
  | full
  deriving DecidableEq, Repr

/-- R187. -/
inductive LoadOccasion where
  | powerOn
  | resetPin
  | reload
  | restart
  deriving DecidableEq, Repr

/-- A load in progress: its occasion, whether byte 0 has been read, and the keyboard mode held before it
(R184, R160). -/
structure Loading where
  occasion : LoadOccasion
  byte0Read : Bool
  modeBefore : KeyboardMode
  deriving DecidableEq, Repr

/-- R184. -/
inductive LoaderState where
  | ready
  | loading (l : Loading)
  deriving DecidableEq, Repr

/-- A store command in progress (R190), with the bytes a page write sends. -/
inductive StoreOp where
  | read (offset count : Byte)
  | write (offset : Byte) (bytes : List Byte)
  deriving DecidableEq, Repr

/-- The Identity Store Loader (R184, R188). `options` lists the set values in the order of OptionName. -/
structure Isl where
  loader : LoaderState
  presence : Presence
  loadKind : LoadKind
  defaulted : Nat
  options : List Nat
  functionMap : FunctionMap
  answerback : List (Code × Case)
  keyMap : Option (List KeyEntry)
  storeOp : Option StoreOp
  deriving DecidableEq, Repr

/-! ## Control Link -/

/-- The refusal reasons of R175. -/
inductive Reason where
  | unknownKind
  | badLength
  | badValue
  | conflict
  | notReady
  | wrongState
  | busy
  | full (capacity : Nat)
  | noSuch
  | punchBusy
  | absent
  | outOfTurn
  | incomplete
  | storeFailed
  deriving DecidableEq, Repr

/-- The targets of SUBMIT TEXT (R181). -/
inductive SubmitTarget where
  | send
  | print
  | punch
  deriving DecidableEq, Repr

/-- The results of SEND ANSWERBACK (R82). -/
inductive AnswerbackResult where
  | started
  | inProgress
  | empty
  deriving DecidableEq, Repr

/-- The results of PUNCH RELEASE (R137). -/
inductive ReleaseResult where
  | notOwned
  | released
  | pending
  deriving DecidableEq, Repr

/-- What GET STATUS reports (R180). -/
structure StatusReport where
  ready : Bool
  presence : Presence
  call : CallState
  motor : MotorState
  printer : PrinterState
  column : Option Nat
  punch : PunchState
  owner : Option Stream
  mode : KeyboardMode
  free : Nat
  messages : Nat
  lost : Bool
  deriving DecidableEq, Repr

/-- What GET CALL reports of the call record (R90). -/
structure CallReport where
  state : CallState
  kind : CallKind
  recordState : CallRecordState
  outcome : Option CallOutcome
  elapsed : Nat
  received : Nat
  sent : Nat
  breaks : Nat
  lineCase : SinkCase
  caller : Option (List Cell)
  deriving DecidableEq, Repr

/-- A message summary (R101, section 10.7). -/
structure Summary where
  number : Nat
  state : MessageState
  kind : CallKind
  part : Nat
  continued : Bool
  cells : Nat
  doubtful : Nat
  substituted : Nat
  lost : Nat
  duration : Nat
  deriving DecidableEq, Repr

/-- The accepted results of section 10.7. -/
inductive Result where
  | done
  | status (r : StatusReport)
  | stopService (stillPending : Bool)
  | optionTaken (offset : Byte) (value : Nat)
  | optionValue (offset : Byte) (set inEffect : Nat)
  | routeSet (route : RouteName) (counter : Nat) (state : RouteState) (busy : Bool)
  | routeReport (route : RouteName) (record : Route) (busy : Bool)
  | routeRearmed (route : RouteName) (counter : Nat) (state : RouteState)
  | submitted (target : SubmitTarget) (capacity : Nat)
  | spoolCleared (spool : SpoolName) (discarded free : Nat)
  | answerback (r : AnswerbackResult)
  | resumed (wasHeld : Bool)
  | call (r : CallReport)
  | lineQuality (q : LineQuality) (poorRun : Nat)
  | messageList (count : Nat) (summaries : List Summary)
  | message (summary : Summary) (caller : Option (List Cell)) (replay : Option ReplayTarget)
      (copied : Word16)
  | messageCells (number : Nat) (state : MessageState) (total : Nat) (offset : Word16)
      (cells : List Cell)
  | messageDeleted (free records : Nat)
  | replayStarted (number cells : Nat)
  | replayCancelled (number copied : Nat)
  | printerHold (state : PrinterState) (before : Bool)
  | printerReset (fault : Bool)
  | punchSwitch (state : PunchState) (already : Bool)
  | feedAhead (cells : Nat)
  | punchRelease (r : ReleaseResult)
  | punchReset (discarded : Nat) (owner : Option Stream) (fault : Bool)
  | keyboardMode (before after : KeyboardMode)
  | storeRead (offset : Byte) (bytes : List Byte)
  | storeWritten (offset : Byte) (count : Nat)
  | reloaded (kind : LoadKind) (presence : Presence) (defaulted : Nat)
  deriving DecidableEq, Repr

/-- A reply (R175): the kind of the command answered, and its result or the reason. -/
inductive Reply where
  | accepted (kind : Byte) (result : Result)
  | refused (kind : Byte) (reason : Reason)
  deriving DecidableEq, Repr

/-- The causes of a PRINTER STATE notice (R127). -/
inductive PrinterCause where
  | paperOut
  | paperRestored
  | paperLow
  | paperLowCleared
  | fault
  deriving DecidableEq, Repr

/-- The causes of a PUNCH STATE notice (R142). -/
inductive PunchCause where
  | tapeOut
  | tapeRestored
  | tapeLow
  | tapeLowCleared
  | fault
  deriving DecidableEq, Repr

/-- R100. -/
inductive FilingCause where
  | length
  | clear
  | restart
  deriving DecidableEq, Repr

/-- The body of a PRINTER STATE notice (R127). -/
structure PrinterReport where
  cause : PrinterCause
  state : PrinterState
  column : Option Nat
  mechCase : SinkCase
  paperOut : Bool
  paperLow : Bool
  hold : Bool
  pLine : Nat
  pLocal : Nat
  pSubmit : Nat
  deriving DecidableEq, Repr

/-- The body of a PUNCH STATE notice (R142). -/
structure PunchReport where
  cause : PunchCause
  state : PunchState
  owner : Option Stream
  tapeCase : SinkCase
  tapeOut : Bool
  tapeLow : Bool
  cells : Nat
  deriving DecidableEq, Repr

/-- The sixteen notices and what each carries (section 10.4, section 10.7). -/
inductive NoticeBody where
  | loadDone (occasion : LoadOccasion) (kind : LoadKind) (presence : Presence) (defaulted : Nat)
  | callOffered (seconds : Nat)
  | callWithdrawn
  | connected (kind : CallKind)
  | cleared (cause : CallOutcome) (sent received discarded duration : Nat)
  | enquiry (received : Nat)
  | breakReceived (breaks : Nat)
  | poorLine (last peak doubtful substituted : Nat)
  | overflow (target : SpaceTarget) (reason : SpaceReason) (free : Nat)
  | quota (route : RouteName) (action : QuotaAction) (reload placed : Nat)
  | messageFiled (summary : Summary) (cause : FilingCause)
  | fileFull (records filed : Nat)
  | replayDone (number : Nat) (complete : Bool) (copied : Nat)
  | printerState (r : PrinterReport)
  | punchState (r : PunchReport)
  | key (position : Fin 64) (press : Bool)
  deriving DecidableEq, Repr

/-- A queued notice with its LOST flag (R179). -/
structure Notice where
  body : NoticeBody
  lost : Bool
  deriving DecidableEq, Repr

/-- Whether a frame is in turn, out of turn with an answer owed, or discarded without one (R174). -/
inductive Turn where
  | inTurn
  | outOfTurn
  | silent
  deriving DecidableEq, Repr

/-- The inbound assembly (R172), with the frame's turn and the tick at which its timer falls due. -/
inductive Inbound where
  | empty
  | kindReceived (kind : Byte) (turn : Turn) (due : Nat)
  | inBody (kind : Byte) (turn : Turn) (toCome : Nat) (got : List Byte) (due : Nat)
  | discarding (due : Nat)
  deriving DecidableEq, Repr

/-- The pending reply (R174); AWAITED holds the reply once it is ready. -/
inductive PendingReply where
  | none
  | awaited (reply : Option Reply)
  | sending
  deriving DecidableEq, Repr

/-- The one OUT OF TURN answer the link may owe (R174): its frame has not ended, it is ready or waits for
the pending reply, or it is being sent. -/
inductive OutOfTurn where
  | none
  | framing (kind : Byte)
  | owed (kind : Byte)
  | sending
  deriving DecidableEq, Repr

/-- An outbound frame (R176). -/
inductive OutFrame where
  | reply (r : Reply)
  | outOfTurn (r : Reply)
  | notice (n : Notice)
  deriving DecidableEq, Repr

/-- The Control Link (R172, R174, R176 to R179, R183). Of the frame being sent, `sent` bytes have been sent by
`boundary`, the tick of the byte boundary from which its sending goes on or at which it is held (R177). -/
structure Link where
  straps : BitVec 2
  inbound : Inbound
  pendingReply : PendingReply
  outOfTurn : OutOfTurn
  sending : Option OutFrame
  sent : Nat
  boundary : Nat
  holdOff : Bool
  notices : List Notice
  lostMark : Bool
  deriving DecidableEq, Repr

/-! ## The whole part -/

/-- The state of the part: its twelve blocks, the line timing values in effect (R66), the clock in ticks of
10 us, the count of free values drawn (the model's own, log 11) and the rows that wait. -/
structure State where
  store : Store
  routes : Routes
  timing : LineTiming
  lrx : Lrx
  ltx : Ltx
  call : Call
  file : File
  printer : Printer
  punch : Punch
  keyboard : Keyboard
  motor : Motor
  link : Link
  isl : Isl
  now : Nat
  freeIndex : Nat
  pending : List Instr
  deriving DecidableEq, Repr

/-- Why the machine stops with a fault. The spec gives the part nothing that stops it: a command that cannot
be taken is answered REFUSED and a mechanism fault is a setting (R110, R133, R175). So there is no fault. -/
inductive Fault where
  deriving DecidableEq, Repr

/-- Why a row has no meaning. -/
inductive Refusal where
  /-- A row whose meaning has not been written; raised by Machine/Dispatch.lean only, and by no arm of it
  now. Safe: nothing is claimed of such a row. -/
  | notModelled (mnemonic : String)
  deriving DecidableEq, Repr

/-! ## Power-on values -/

/-- R5: the empty spool. DESIGN CHOICE (log 39): its head offset, which R5 says has no meaning, is 0. -/
def Spool.empty : Spool := { chain := [], headOffset := 0, cells := [] }

/-- A filter that holds no level (R124, R142). -/
def Filter.unset : Filter := { level := none, run := 0, asked := false }

/-- A filter that holds a level. -/
def Filter.at (b : Bool) : Filter := { level := some b, run := 0, asked := b }

/-- R2, R5, R15, R18. The order of the free list is log 5. -/
def Store.reset : Store :=
  { free := List.range Config.blocks, pLine := Spool.empty, pLocal := Spool.empty,
    pSubmit := Spool.empty, punch := Spool.empty, send := Spool.empty, episode := .closed }

/-- R22: a route as its defaults give it. -/
def Route.default (standIn : Option Place) : Route :=
  { destinations := { print := true, punch := false, file := false }, printStandIn := standIn,
    punchStandIn := none, reload := 0, counter := 0, action := .notify, state := .active,
    placed := 0, lost := 0 }

/-- R22: the defaults of the three routes. -/
def Routes.default : Routes :=
  { received := Route.default (some .file), sentCopy := Route.default none,
    keyedLocal := Route.default none }

/-- R188: the defaults of the line timing options. -/
def LineTiming.default : LineTiming :=
  { unit := 2000, stop := 24, limit := 35, guard := 30, breakRec := 30, breakLen := 40,
    clearRec := 200 }

/-- R52: the cleared quality record. -/
def LineQuality.zero : LineQuality :=
  { last := 0, peak := 0, received := 0, doubtful := 0, substituted := 0, falseStarts := 0,
    collisions := 0, breaks := 0 }

/-- R39, R67. -/
def Lrx.reset (now : Nat) : Lrx :=
  { filter := Filter.at false, since := now, state := .disabled, guard := none,
    quality := LineQuality.zero, poorRun := 0 }

/-- R55, R65, R67. -/
def Ltx.reset : Ltx :=
  { activity := .idle, hold := false, breakRequest := false, answerback := none,
    enquiryRequest := false }

/-- R89: the record before the first call. DESIGN CHOICE (log 42): its elapsed seconds, which R89 does not name there, are
0. -/
def CallRecord.reset (now : Nat) : CallRecord :=
  { kind := .none, state := .ended, outcome := none, openedAt := now, elapsed := 0, received := 0,
    sent := 0, breaks := 0, lineCase := .unknown, caller := none }

/-- R68, R89. DESIGN CHOICE (log 38): the count kept of SEND cells discarded, for which R11 and R85 give no value before
the first CLEARING, is 0. -/
def Call.reset (now : Nat) : Call :=
  { state := .outOfService, stopPending := false, record := CallRecord.reset now,
    recognition := none, withdrawal := none, offer := none, confirm := none, markTiming := none,
    idle := none, enquiryDelay := none, capture := none, clearing := none, clearSpace := none,
    releasing := none, clearCause := none, sendDiscarded := 0, enteredAt := now }

/-- R109. -/
def File.reset : File := { records := [], lastNumber := 0, lastPart := 0, replay := none }

/-- R124, R132. -/
def Printer.reset : Printer :=
  { fault := false, paper := false, hold := false, paperOut := Filter.unset,
    paperLow := Filter.unset, restore := none, cycle := none, current := none, lineOpen := false,
    pointer := .pSubmit, interruptedLine := false, interruptedLocal := false,
    interruptedSubmit := false, committed := false, newlineOwed := .none, holdWait := .notWaiting,
    column := none, width := 72, mechCase := .unknown, resetPending := false }

/-- R142, R147. -/
def Punch.reset : Punch :=
  { fault := false, switch := true, tape := false, tapeOut := Filter.unset, tapeLow := Filter.unset,
    restore := none, cycle := none, owner := none, tapeCase := .unknown, committed := false,
    leader := 0, lineRelease := .none, localRelease := false, submittedRelease := false,
    clearRelease := false, releaseTimer := none, feedRequest := none, feedHeld := false }

/-- R148: every position UP with its run count at 0. -/
def Keyboard.allUp : List Filter := List.replicate Config.keyPositions (Filter.at false)

/-- R149: from the start of scanning in pass 0 no third reading is made before pass 2. -/
def Keyboard.firstThirds : List Nat := List.replicate Config.keyPositions 2

/-- R160. -/
def Keyboard.reset : Keyboard :=
  { positions := Keyboard.allUp, thirdFrom := Keyboard.firstThirds, nextReading := 0, mode := .locked,
    kbdCase := .letters, scanStart := none }

/-- R170: an idle settle record. -/
def Settle.reset : Settle :=
  { phase := .idle, mode := .fixed, programmed := 1, extra := 0, reached := 0, startedAt := 0 }

/-- R162, R166, R170, R171. -/
def Motor.reset : Motor :=
  { demand := { call := false, print := false, punch := false }, state := .off,
    printWithdrawn := false, printTiming := Settle.reset, punchTiming := Settle.reset, bell := none }

/-- R183. -/
def Link.reset (straps : BitVec 2) (holdOff : Bool) : Link :=
  { straps := straps, inbound := .empty, pendingReply := .none, outOfTurn := .none,
    sending := none, sent := 0, boundary := 0, holdOff := holdOff, notices := [], lostMark := false }

/-- The default function map (Case and the function map). -/
def FunctionMap.default : FunctionMap :=
  { lettersShift := 31, figuresShift := 27, carriageReturn := 8, lineFeed := 2, space := 4,
    blank := 0, enquiry := 9, bell := 11 }

/-- R188: the defaults, in the order of OptionName. -/
def Isl.defaultOptions : List Nat :=
  [2000, 24, 35, 4, 30, 30, 40, 200, 4, 20, 0, 10, 0, 0, 0, 30, 120, 5, 0, 0] ++
  [72, 1, 100, 40, 2, 100, 4, 12, 0, 20, 20] ++
  [1, 60, 8, 8, 0, 20, 20, 20, 30, 0, 5, 20]

/-- R184: the loader as a power-on or the RESET pin leaves it. The loaded items are log 6. -/
def Isl.reset (occasion : LoadOccasion) : Isl :=
  { loader := .loading { occasion := occasion, byte0Read := false, modeBefore := .locked },
    presence := .notYetKnown, loadKind := .none, defaulted := 0, options := Isl.defaultOptions,
    functionMap := FunctionMap.default, answerback := [], keyMap := none, storeOp := none }

/-- R184: every block at its power-on values. The clock, the free values drawn, the level of the HOLD-OFF
input and the queue are not the part's to reset. -/
def State.powerOnValues (occasion : LoadOccasion) (straps : BitVec 2) (holdOff : Bool)
    (now freeIndex : Nat) (pending : List Instr) : State :=
  { store := Store.reset, routes := Routes.default, timing := LineTiming.default,
    lrx := Lrx.reset now, ltx := Ltx.reset, call := Call.reset now, file := File.reset,
    printer := Printer.reset, punch := Punch.reset, keyboard := Keyboard.reset,
    motor := Motor.reset, link := Link.reset straps holdOff, isl := Isl.reset occasion,
    now := now, freeIndex := freeIndex, pending := pending }

/-- The part right after power is applied (R184): loading, byte 0 not yet read, nothing queued. -/
def State.reset : State := State.powerOnValues .powerOn 0 false 0 0 []

end Sys2Proof.Machine
end

