-- ==== Sys2Proof/Machine/Options.lean ====
section
/-! DEFINITION. The options of R188 as a table, their set values, and the reading of the identity store's
sections (R185, R186, section 10.7). -/

namespace Sys2Proof.Machine

/-! ## The table -/

/-- How an option's value is checked (R185, R189): a range, a number of codes from 0 (a flag has two), or a
cell byte with mark 00. -/
inductive OptionKind where
  | numeric (lo hi : Nat)
  | codes (count : Nat)
  | cellByte
  deriving DecidableEq, Repr

/-- A row of the table of R188. -/
structure OptionSpec where
  offset : Nat
  bytes : Nat
  kind : OptionKind
  default : Nat
  deriving DecidableEq, Repr

/-- R188. -/
def OptionName.spec : OptionName → OptionSpec
  | .unitTime => ⟨0x01, 2, .numeric 400 2500, 2000⟩
  | .stopLength => ⟨0x03, 1, .numeric 16 32, 24⟩
  | .distortionLimit => ⟨0x04, 1, .numeric 5 45, 35⟩
  | .poorLineRun => ⟨0x05, 1, .numeric 1 15, 4⟩
  | .turnaroundGuard => ⟨0x06, 1, .numeric 0 200, 30⟩
  | .breakRecognition => ⟨0x07, 1, .numeric 10 100, 30⟩
  | .breakLength => ⟨0x08, 1, .numeric 10 150, 40⟩
  | .clearRecognition => ⟨0x09, 2, .numeric 50 500, 200⟩
  | .substitute => ⟨0x0B, 1, .cellByte, 4⟩
  | .callRecognition => ⟨0x10, 1, .numeric 5 100, 20⟩
  | .answerPolicy => ⟨0x11, 1, .codes 3, 0⟩
  | .offerTime => ⟨0x12, 1, .numeric 1 60, 10⟩
  | .offerDefault => ⟨0x13, 1, .codes 2, 0⟩
  | .enquiryHandling => ⟨0x14, 1, .codes 2, 0⟩
  | .autoEnquiry => ⟨0x15, 1, .numeric 0 50, 0⟩
  | .captureWindow => ⟨0x16, 1, .numeric 5 100, 30⟩
  | .idleClear => ⟨0x17, 2, .numeric 0 1800, 120⟩
  | .confirmTime => ⟨0x19, 1, .numeric 1 30, 5⟩
  | .breakOnOverflow => ⟨0x1A, 1, .codes 2, 0⟩
  | .startInService => ⟨0x1B, 1, .codes 2, 0⟩
  | .lineWidth => ⟨0x20, 1, .numeric 40 80, 72⟩
  | .autoNewline => ⟨0x21, 1, .codes 2, 1⟩
  | .printCycle => ⟨0x22, 1, .numeric 20 250, 100⟩
  | .crBase => ⟨0x23, 1, .numeric 0 250, 40⟩
  | .crStep => ⟨0x24, 1, .numeric 0 10, 2⟩
  | .lfTime => ⟨0x25, 1, .numeric 20 250, 100⟩
  | .selectDelay => ⟨0x26, 1, .numeric 1 20, 4⟩
  | .strikePulse => ⟨0x27, 1, .numeric 1 40, 12⟩
  | .printTimingMode => ⟨0x28, 1, .codes 3, 0⟩
  | .printExtra => ⟨0x29, 1, .numeric 0 250, 20⟩
  | .arbiterHold => ⟨0x2A, 1, .numeric 5 100, 20⟩
  | .punchEnabled => ⟨0x30, 1, .codes 2, 1⟩
  | .punchCycle => ⟨0x31, 1, .numeric 10 200, 60⟩
  | .punchPulse => ⟨0x32, 1, .numeric 1 40, 8⟩
  | .feedPulse => ⟨0x33, 1, .numeric 1 40, 8⟩
  | .punchTimingMode => ⟨0x34, 1, .codes 3, 0⟩
  | .punchExtra => ⟨0x35, 1, .numeric 0 250, 20⟩
  | .leaderCount => ⟨0x36, 1, .numeric 0 120, 20⟩
  | .trailerCount => ⟨0x37, 1, .numeric 0 120, 20⟩
  | .punchReleaseIdle => ⟨0x38, 1, .numeric 1 120, 30⟩
  | .keyboardMode => ⟨0x3C, 1, .codes 4, 0⟩
  | .runUpTime => ⟨0x3D, 1, .numeric 1 30, 5⟩
  | .runOnTime => ⟨0x3E, 1, .numeric 1 255, 20⟩

/-- The options in the order of the table of R188, which is the order of OptionName. -/
def OptionName.all : List OptionName :=
  [.unitTime, .stopLength, .distortionLimit, .poorLineRun, .turnaroundGuard, .breakRecognition,
   .breakLength, .clearRecognition, .substitute, .callRecognition, .answerPolicy, .offerTime,
   .offerDefault, .enquiryHandling, .autoEnquiry, .captureWindow, .idleClear, .confirmTime,
   .breakOnOverflow, .startInService] ++
  [.lineWidth, .autoNewline, .printCycle, .crBase, .crStep, .lfTime, .selectDelay, .strikePulse,
   .printTimingMode, .printExtra, .arbiterHold] ++
  [.punchEnabled, .punchCycle, .punchPulse, .feedPulse, .punchTimingMode, .punchExtra,
   .leaderCount, .trailerCount, .punchReleaseIdle, .keyboardMode, .runUpTime, .runOnTime]

/-- The option whose first byte stands at an offset (R189). -/
def OptionName.ofOffset (offset : Nat) : Option OptionName :=
  OptionName.all.find? (fun n => n.spec.offset == offset)

/-- The set value of an option; a missing entry reads as the default. -/
def optionGet (options : List Nat) (n : OptionName) : Nat :=
  options.getD n.ctorIdx n.spec.default

/-- Writes the set value of an option. -/
def optionSet (options : List Nat) (n : OptionName) (v : Nat) : List Nat :=
  options.set n.ctorIdx v

/-- The set value of an option as it stands (R188). -/
def State.opt (s : State) (n : OptionName) : Nat := optionGet s.isl.options n

/-- Whether a flag option is on. -/
def State.flag (s : State) (n : OptionName) : Bool := s.opt n == 1

/-- Whether a value is one of an option's (R185). -/
def OptionKind.admits : OptionKind → Nat → Bool
  | .numeric lo hi, v => lo ≤ v && v ≤ hi
  | .codes n, v => v < n
  | .cellByte, v => v < 64

/-- R185: span < BREAK RECOGNITION < BREAK LENGTH < CLEAR RECOGNITION, in ticks. -/
def timingOrdered (unit stop breakRec breakLen clearRec : Nat) : Bool :=
  6 * unit + stop * unit / 16 < breakRec * Config.tenMs && breakRec < breakLen &&
    breakLen < clearRec

/-- R185: the five options of the ordering. -/
def OptionName.inOrdering : OptionName → Bool
  | .unitTime | .stopLength | .breakRecognition | .breakLength | .clearRecognition => true
  | _ => false

/-- The ordering of R185 over set values. -/
def optionsOrdered (options : List Nat) : Bool :=
  timingOrdered (optionGet options .unitTime) (optionGet options .stopLength)
    (optionGet options .breakRecognition) (optionGet options .breakLength)
    (optionGet options .clearRecognition)

/-- R66: the values in effect as copies of the set values. -/
def timingOf (options : List Nat) : LineTiming :=
  { unit := optionGet options .unitTime, stop := optionGet options .stopLength,
    limit := optionGet options .distortionLimit, guard := optionGet options .turnaroundGuard,
    breakRec := optionGet options .breakRecognition, breakLen := optionGet options .breakLength,
    clearRec := optionGet options .clearRecognition }

/-! ## Typed readings of enumerated options -/

/-- PRINT TIMING MODE and PUNCH TIMING MODE (R188). -/
def timingModeOf : Nat → TimingMode
  | 1 => .extended
  | 2 => .sampled
  | _ => .fixed

/-- KEYBOARD MODE (section 10.7, keyboard mode). -/
def keyboardModeOf : Nat → KeyboardMode
  | 0 => .loc
  | 1 => .line
  | 2 => .raw
  | _ => .locked

/-! ## Reading the store's sections -/

/-- The byte at an offset as a load reads it: `none` when it was not acknowledged (R184). -/
def storeByte (image : List Byte) (offset : Nat) : Option Byte := image[offset - 1]?

/-- R185: an option's raw value, two bytes most significant first. -/
def rawOption (image : List Byte) (n : OptionName) : Option Nat :=
  match storeByte image n.spec.offset with
  | none => none
  | some b =>
    if n.spec.bytes = 2 then (storeByte image (n.spec.offset + 1)).map (fun c => (word16 b c).toNat)
    else some b.toNat

/-- R185: an option's value as validated, and whether it took its default. -/
def loadOption (image : List Byte) (n : OptionName) : Option (Nat × Bool) :=
  (rawOption image n).map fun v => if n.spec.kind.admits v then (v, false) else (n.spec.default, true)

/-- R185: the five options of the ordering take their defaults unless the ordering holds. -/
def enforceOrdering (items : List (Nat × Bool)) : List (Nat × Bool) :=
  if optionsOrdered (items.map Prod.fst) then items
  else (OptionName.all.zip items).map fun p => if p.1.inOrdering then (p.1.spec.default, true) else p.2

/-- R185: the options of a BASIC or FULL load and how many took their default; `none` when a read was not
acknowledged. -/
def loadOptions (image : List Byte) : Option (List Nat × Nat) :=
  (OptionName.all.mapM (loadOption image)).map fun items =>
    let items := enforceOrdering items
    (items.map Prod.fst, items.countP Prod.snd)

/-- Section 10.7: a destinations byte, bits 3-7 clear. -/
def destinationsOf (b : Byte) : Option Destinations :=
  if b.toNat < 8 then
    some { print := b.getLsbD 0, punch := b.getLsbD 1, file := b.getLsbD 2 }
  else none

/-- Section 10.7: a print stand-in byte. -/
def printStandInOf (b : Byte) : Option (Option Place) :=
  match b.toNat with
  | 0 => some none
  | 1 => some (some .punch)
  | 2 => some (some .file)
  | _ => none

/-- Section 10.7: a punch stand-in byte. -/
def punchStandInOf (b : Byte) : Option (Option Place) :=
  match b.toNat with
  | 0 => some none
  | 1 => some (some .print)
  | 2 => some (some .file)
  | _ => none

/-- Section 10.7: a quota action byte. -/
def quotaActionOf (b : Byte) : Option QuotaAction :=
  match b.toNat with
  | 0 => some .notify
  | 1 => some .divert
  | 2 => some .suspend
  | _ => none

/-- R34, R185: KEYED LOCAL may not name FILE among its destinations. -/
def destinationsFor (r : RouteName) (b : Byte) : Option Destinations :=
  (destinationsOf b).filter fun d => !(r == .keyedLocal && d.file)

/-- R34, R185: KEYED LOCAL may not have the stand-in FILE. -/
def standInFor (r : RouteName) (p : Option (Option Place)) : Option (Option Place) :=
  p.filter fun q => !(r == .keyedLocal && q == some .file)

/-- R22: a route's default record. -/
def Routes.defaultOf : RouteName → Route
  | .received => Routes.default.received
  | .sentCopy => Routes.default.sentCopy
  | .keyedLocal => Routes.default.keyedLocal

/-- A validated field and 1 when it took its default. -/
def orDefault {α : Type} (field : Option α) (d : α) : α × Nat :=
  match field with
  | some v => (v, 0)
  | none => (d, 1)

/-- R22, R185: a route's record from the six bytes at its offset, and how many fields took their default. -/
def loadRoute (image : List Byte) (r : RouteName) (offset : Nat) : Option (Route × Nat) :=
  match storeByte image offset, storeByte image (offset + 1), storeByte image (offset + 2),
    storeByte image (offset + 3), storeByte image (offset + 4), storeByte image (offset + 5) with
  | some d, some p, some q, some hi, some lo, some a =>
    let base := Routes.defaultOf r
    let dest := orDefault (destinationsFor r d) base.destinations
    let print := orDefault (standInFor r (printStandInOf p)) base.printStandIn
    let punch := orDefault (standInFor r (punchStandInOf q)) base.punchStandIn
    let action := orDefault (quotaActionOf a) base.action
    let reload := (word16 hi lo).toNat
    some ({ base with destinations := dest.1, printStandIn := print.1, punchStandIn := punch.1,
                      reload := reload, counter := reload, action := action.1 },
          dest.2 + print.2 + punch.2 + action.2)
  | _, _, _, _, _, _ => none

/-- R22, R188: the three routes at 0x40, 0x48 and 0x50. -/
def loadRoutes (image : List Byte) : Option (Routes × Nat) :=
  match loadRoute image .received 0x40, loadRoute image .sentCopy 0x48,
    loadRoute image .keyedLocal 0x50 with
  | some a, some b, some c =>
    some ({ received := a.1, sentCopy := b.1, keyedLocal := c.1 }, a.2 + b.2 + c.2)
  | _, _, _ => none

/-- R186: six different codes, and neither ENQUIRY nor BELL among them. -/
def FunctionMap.valid (m : FunctionMap) : Bool :=
  let six := [m.lettersShift, m.figuresShift, m.carriageReturn, m.lineFeed, m.space, m.blank]
  six.Nodup && !six.contains m.enquiry && !six.contains m.bell

/-- R186: the function map at 0x60-0x67, bits 0-4 of each byte, and 1 when it was replaced. -/
def loadFunctionMap (image : List Byte) : Option (FunctionMap × Nat) :=
  match (List.range 8).mapM (fun k => (storeByte image (0x60 + k)).map (BitVec.setWidth 5)) with
  | some [a, b, c, d, e, f, g, h] =>
    let m : FunctionMap :=
      { lettersShift := a, figuresShift := b, carriageReturn := c, lineFeed := d, space := e,
        blank := f, enquiry := g, bell := h }
    some (if m.valid then (m, 0) else (FunctionMap.default, 1))
  | _ => none

/-- R62: the cases of the answerback, walked in order from LETTERS. -/
def resolveCases (m : FunctionMap) : Case → List Code → List (Code × Case)
  | _, [] => []
  | k, c :: rest =>
    let k' := if c = m.lettersShift then Case.letters
              else if c = m.figuresShift then Case.figures else k
    (c, k') :: resolveCases m k' rest

/-- R186: the answerback at 0x68-0x7C; bytes beyond its length are not read. -/
def loadAnswerback (image : List Byte) (m : FunctionMap) : Option (List (Code × Case) × Nat) :=
  match storeByte image 0x68 with
  | none => none
  | some len =>
    if len.toNat ≤ 20 then
      ((List.range len.toNat).mapM
        (fun k => (storeByte image (0x69 + k)).map (BitVec.setWidth 5))).map
          (fun codes => (resolveCases m .letters codes, 0))
    else some ([], 1)

/-- R186, section 10.7: a key map byte, and 1 when it loads as NONE for an invalid kind or function. -/
def keyEntryOf (b : Byte) : KeyEntry × Nat :=
  let c : Code := b.setWidth 5
  match b.toNat / 32 with
  | 0 => (.none, 0)
  | 1 => (.code c none, 0)
  | 2 => (.code c (some .letters), 0)
  | 3 => (.code c (some .figures), 0)
  | 4 =>
    match c.toNat with
    | 0 => (.function .hereIs, 0)
    | 1 => (.function .brk, 0)
    | 2 => (.function .mode, 0)
    | 3 => (.function .feed, 0)
    | _ => (.none, 1)
  | _ => (.none, 1)

/-- R186: the key map at 0x80-0xBF. -/
def loadKeyMap (image : List Byte) : Option (List KeyEntry × Nat) :=
  ((List.range Config.keyPositions).mapM
    (fun k => (storeByte image (0x80 + k)).map keyEntryOf)).map
      (fun items => (items.map Prod.fst, (items.map Prod.snd).sum))

/-- What a load takes from the store (R184). -/
structure Loaded where
  presence : Presence
  kind : LoadKind
  defaulted : Nat
  options : List Nat
  routes : Routes
  functionMap : FunctionMap
  answerback : List (Code × Case)
  keyMap : Option (List KeyEntry)
  deriving DecidableEq, Repr

/-- R184: what a load that reads nothing beyond byte 0 takes. -/
def Loaded.defaults (presence : Presence) : Loaded :=
  { presence := presence, kind := .none, defaulted := 0, options := Isl.defaultOptions,
    routes := Routes.default, functionMap := FunctionMap.default, answerback := [], keyMap := none }

/-- Defaulted items saturate at 255 (R184). -/
def defaultedItems (n : Nat) : Nat := min 255 n

/-- R184 to R186: a BASIC load, `none` when a read was not acknowledged. -/
def loadBasic (image : List Byte) : Option Loaded :=
  match loadOptions image, loadRoutes image with
  | some o, some r =>
    some { Loaded.defaults .present with
      kind := .basic, defaulted := defaultedItems (o.2 + r.2), options := o.1, routes := r.1 }
  | _, _ => none

/-- R184 to R186: a FULL load, `none` when a read was not acknowledged. -/
def loadFull (image : List Byte) : Option Loaded :=
  match loadOptions image, loadRoutes image, loadFunctionMap image, loadKeyMap image with
  | some o, some r, some m, some k =>
    (loadAnswerback image m.1).map fun a =>
      { presence := .present, kind := .full,
        defaulted := defaultedItems (o.2 + r.2 + m.2 + a.2 + k.2), options := o.1, routes := r.1,
        functionMap := m.1, answerback := a.1, keyMap := some k.1 }
  | _, _, _, _ => none

/-- R184: what the load takes, from the presence and load kind that byte 0 gave and the bytes read after it. An
unacknowledged read ends the load as an unacknowledged byte 0 does. -/
def loadImage (presence : Presence) (kind : LoadKind) (image : List Byte) : Loaded :=
  match kind with
  | .none => Loaded.defaults presence
  | .basic => (loadBasic image).getD (Loaded.defaults .absent)
  | .full => (loadFull image).getD (Loaded.defaults .absent)

/-- R192: a RESTART load reads the options section only, whatever the load kind; the rest of what it gives is not
taken. -/
def loadOptionsSection (presence : Presence) (kind : LoadKind) (image : List Byte) : Loaded :=
  match kind with
  | .none => Loaded.defaults presence
  | _ =>
    match loadBasic image with
    | some l => { l with kind := kind }
    | none => Loaded.defaults .absent

end Sys2Proof.Machine
end

