-- ==== Sys2Proof/Machine/Ops.lean ====
section
/-! DEFINITION. The operations that several blocks share: counts, the clock, the three-sample filter, the
Character Store (chapter 1), the notice queue (R178, R179) and the pending reply (R174). -/

namespace Sys2Proof.Machine

/-! ## Counts and the clock -/

/-- A count that rises and saturates at 65535 (Counts and arithmetic). -/
def satAdd (n k : Nat) : Nat := min Config.countMax (n + k)

/-- Whole seconds between two ticks, saturating (R89, R93). -/
def secondsBetween (start finish : Nat) : Nat :=
  min Config.countMax ((finish - start) / Config.second)

/-- The clock stands at `t` or later: a row that falls due at `t` happens then (log 2). -/
def State.advance (s : State) (t : Nat) : State := { s with now := max s.now t }

/-- Runs `act` at the moment a timer falls due; a timer that is not running is found stopped, and nothing
happens (log 1). -/
def State.onTimer (s : State) (timer : Option Nat) (act : State → State) : State :=
  match timer with
  | some due => act (s.advance due)
  | none => s

/-! ## The three-sample filter (R39, R124, R142, R149) -/

/-- One sample. A filter with a level changes it on the third consecutive sample that disagrees; one without
takes the level of the first three consecutive samples that agree. -/
def Filter.sample (f : Filter) (x : Bool) : Filter :=
  match f.level with
  | some l =>
    if x = l then { f with run := 0 }
    else if f.run < 2 then { f with run := f.run + 1, asked := x }
    else { level := some x, run := 0, asked := x }
  | none =>
    if f.run = 0 ∨ x ≠ f.asked then { f with run := 1, asked := x }
    else if f.run < 2 then { f with run := f.run + 1 }
    else { level := some x, run := 0, asked := x }

/-- Three consecutive samples that agree on `x`: what a row that confirms a change stands for. -/
def Filter.threeSamples (f : Filter) (x : Bool) : Filter := ((f.sample x).sample x).sample x

/-! ## The Character Store -/

/-- R5: blocks held. -/
def Spool.blocksHeld (p : Spool) : Nat := p.chain.length

/-- R5: the cell count. -/
def Spool.cellCount (p : Spool) : Nat := p.cells.length

/-- R5: positions of the tail block written so far; it has no meaning for an empty spool. -/
def Spool.tailFill (p : Spool) : Nat :=
  p.headOffset + p.cells.length - Config.blockCells * (p.chain.length - 1)

/-- Whether a spool holds no cell. -/
def Spool.isEmpty (p : Spool) : Bool := p.cells.isEmpty

/-- R4: the shares. -/
def SpoolName.share : SpoolName → Nat
  | .pLine => 96
  | .pLocal => 16
  | .pSubmit => 48
  | .punch => 96
  | .send => 32

/-- The spool of a name. -/
def Store.spool (st : Store) : SpoolName → Spool
  | .pLine => st.pLine
  | .pLocal => st.pLocal
  | .pSubmit => st.pSubmit
  | .punch => st.punch
  | .send => st.send

/-- Replaces the spool of a name. -/
def Store.withSpool (st : Store) (n : SpoolName) (p : Spool) : Store :=
  match n with
  | .pLine => { st with pLine := p }
  | .pLocal => { st with pLocal := p }
  | .pSubmit => { st with pSubmit := p }
  | .punch => { st with punch := p }
  | .send => { st with send := p }

/-- R2: the free count. -/
def Store.freeCount (st : Store) : Nat := st.free.length

/-- R2: blocks given up go to the front one at a time, oldest first. -/
def returnBlocks (blocks free : List Nat) : List Nat := blocks.foldl (fun f b => b :: f) free

/-- R6: whether the spool's tail block has room. -/
def Spool.tailRoom (p : Spool) : Bool := !p.isEmpty && p.tailFill < Config.blockCells

/-- R6: the reason an append would be refused with, `none` when the spool can take a cell. -/
def Store.spoolRefusal (st : Store) (n : SpoolName) : Option SpaceReason :=
  if (st.spool n).tailRoom then none
  else if n.share ≤ (st.spool n).blocksHeld then some .atShare
  else if st.free.isEmpty then some .noBlock
  else none

/-- R6: one cell at the tail of a spool. A refused append leaves the store as it is. -/
def Store.append (st : Store) (n : SpoolName) (e : Entry) : Store :=
  let p := st.spool n
  if p.tailRoom then st.withSpool n { p with cells := p.cells ++ [e] }
  else if n.share ≤ p.blocksHeld then st
  else
    match st.free with
    | [] => st
    | b :: rest =>
      { st with free := rest }.withSpool n
        { chain := p.chain ++ [b], headOffset := if p.isEmpty then 0 else p.headOffset,
          cells := p.cells ++ [e] }

/-- R8: the cells a spool could take by successive appends. -/
def Store.capacity (st : Store) (n : SpoolName) : Nat :=
  let p := st.spool n
  (if p.isEmpty then 0 else Config.blockCells - p.tailFill) +
    Config.blockCells * min (n.share - p.blocksHeld) st.freeCount

/-- Cells appended one after another (R7). -/
def Store.appendAll (st : Store) (n : SpoolName) (es : List Entry) : Store :=
  es.foldl (fun st e => st.append n e) st

/-- R7: a batch is taken whole when the capacity covers it, else refused with the capacity. -/
def Store.batch (st : Store) (n : SpoolName) (es : List Entry) : Except Nat Store :=
  if es.length ≤ st.capacity n then .ok (st.appendAll n es) else .error (st.capacity n)

/-- R9: the head cell, and the store without it. -/
def Store.removeHead (st : Store) (n : SpoolName) : Option Entry × Store :=
  let p := st.spool n
  match p.cells with
  | [] => (none, st)
  | [e] => (some e, { st with free := returnBlocks p.chain st.free }.withSpool n Spool.empty)
  | e :: rest =>
    if p.headOffset + 1 < Config.blockCells then
      (some e, st.withSpool n { p with cells := rest, headOffset := p.headOffset + 1 })
    else
      (some e, { st with free := returnBlocks (p.chain.take 1) st.free }.withSpool n
        { chain := p.chain.drop 1, headOffset := 0, cells := rest })

/-- R11: a spool emptied, and the number of cells discarded. -/
def Store.emptySpool (st : Store) (n : SpoolName) : Nat × Store :=
  let p := st.spool n
  (p.cellCount, { st with free := returnBlocks p.chain st.free }.withSpool n Spool.empty)

/-- R12: the reason a chain of `cells` cells would be refused an append with. -/
def Store.chainRefusal (st : Store) (cells : Nat) : Option SpaceReason :=
  if cells % Config.blockCells ≠ 0 then none
  else if Config.fileReserve < st.freeCount then none
  else some .reserve

/-- R12: the chain and the free list after one more cell, when the append is not refused. -/
def Store.chainAppend (st : Store) (chain : List Nat) (cells : Nat) : List Nat × Store :=
  if cells % Config.blockCells ≠ 0 then (chain, st)
  else
    match st.free with
    | [] => (chain, st)
    | b :: rest => (chain ++ [b], { st with free := rest })

/-! ## Notices (R178, R179) -/

/-- R178: the coalescable kinds, each with a number of its own. -/
def NoticeBody.coalesce : NoticeBody → Option Nat
  | .printerState _ => some 0
  | .punchState _ => some 1
  | .poorLine _ _ _ _ => some 2
  | .overflow _ _ _ => some 3
  | .fileFull _ _ => some 4
  | _ => none

/-- R178: two notices of the same coalescable kind. -/
def NoticeBody.coalesces (a b : NoticeBody) : Bool := a.coalesce.isSome && a.coalesce == b.coalesce

/-- R178, R179: the new notice in the place of the queued one of its kind, with the LOST flag of either. -/
def replaceNotice (body : NoticeBody) (lost : Bool) : List Notice → List Notice
  | [] => []
  | n :: rest =>
    if body.coalesces n.body then { body := body, lost := n.lost || lost } :: rest
    else n :: replaceNotice body lost rest

/-- R178, R179: a notice made by a block. -/
def Link.queueNotice (l : Link) (body : NoticeBody) : Link :=
  if l.notices.any (fun n => body.coalesces n.body) then
    { l with notices := replaceNotice body l.lostMark l.notices, lostMark := false }
  else if l.notices.length < Config.noticeSlots then
    { l with notices := l.notices ++ [{ body := body, lost := l.lostMark }], lostMark := false }
  else { l with lostMark := true }

/-- A block makes a notice (R178). Notices made together join the queue in the order in which their row makes them; where
the spec gives that row no order it is log 41. -/
def State.notice (s : State) (body : NoticeBody) : State :=
  { s with link := s.link.queueNotice body }

/-! ## Replies (R174, R175) -/

/-- The reply of the command in hand is ready (R174). -/
def State.reply (s : State) (r : Reply) : State :=
  { s with link := { s.link with pendingReply := .awaited (some r) } }

/-- ACCEPTED with a result. -/
def State.accept (s : State) (kind : Byte) (r : Result) : State := s.reply (.accepted kind r)

/-- REFUSED with a reason. -/
def State.refuse (s : State) (kind : Byte) (r : Reason) : State := s.reply (.refused kind r)

end Sys2Proof.Machine
end

