-- ==== Sys2Proof/Machine/Operands.lean ====
section
/-! DEFINITION. The readings of codes in the function map, and the enumerated fields and cell bytes of a
command's body (section 10.7). -/

namespace Sys2Proof.Machine

/-! ## Codes -/

/-- The case a sink case stands for. -/
def Case.toSink : Case → SinkCase
  | .letters => .letters
  | .figures => .figures

/-- The case a shift code names (Case and the function map). -/
def FunctionMap.shiftCase (m : FunctionMap) (c : Code) : Option Case :=
  if c = m.lettersShift then some .letters
  else if c = m.figuresShift then some .figures
  else none

/-- CARRIAGE RETURN, LINE FEED, SPACE and BLANK are case-free (Case and the function map). -/
def FunctionMap.caseFree (m : FunctionMap) (c : Code) : Bool :=
  c = m.carriageReturn || c = m.lineFeed || c = m.space || c = m.blank

/-- The shift code of a case. -/
def FunctionMap.shiftCode (m : FunctionMap) : Case → Code
  | .letters => m.lettersShift
  | .figures => m.figuresShift

/-- What a code read in a case does. ENQUIRY and BELL are the figures-case readings of their codes (log 8);
where both name one code it is read as BELL here, and R51 compares with ENQUIRY's own entry (R186). -/
def FunctionMap.reading (m : FunctionMap) (c : Code) (k : Case) : CodeClass :=
  if c = m.lettersShift then .lettersShift
  else if c = m.figuresShift then .figuresShift
  else if c = m.carriageReturn then .carriageReturn
  else if c = m.lineFeed then .lineFeed
  else if c = m.space then .space
  else if c = m.blank then .blank
  else if c = m.bell ∧ k = .figures then .bell
  else if c = m.enquiry ∧ k = .figures then .enquiry
  else .printing

/-- R58, R117, R140: whether a sink in case `k` needs the matching shift before a code of a cell. The code is
case-dependent, is no shift code, and its case differs from the sink's; UNKNOWN always differs. -/
def FunctionMap.needsShift (m : FunctionMap) (c : Code) (cellCase : Case) (k : SinkCase) : Bool :=
  !m.caseFree c && (m.shiftCase c).isNone && k != cellCase.toSink

/-- The sink case after a code: a shift code sets it (R50, R58, R120, R140). -/
def FunctionMap.caseAfter (m : FunctionMap) (c : Code) (k : SinkCase) : SinkCase :=
  match m.shiftCase c with
  | some c => c.toSink
  | none => k

/-- The function map in effect. -/
def State.fmap (s : State) : FunctionMap := s.isl.functionMap

/-! ## Cell bytes (section 10.7) -/

/-- The case bit of a cell byte. -/
def caseOfBit (b : Bool) : Case := if b then .figures else .letters

/-- R181: a cell byte with mark 00 as a cell of SUBMIT TEXT. -/
def submittedCell (b : Byte) : Option Cell :=
  if b.toNat < 64 then
    some { code := b.setWidth 5, case := caseOfBit (b.getLsbD 5), origin := .submitted,
           quality := .clean }
  else none

/-! ## Enumerated fields (section 10.7) -/

/-- A flag field: 0 off, 1 on (R173). -/
def flagOf (b : Byte) : Option Bool :=
  match b.toNat with
  | 0 => some false
  | 1 => some true
  | _ => none

/-- A route field. -/
def routeOf (b : Byte) : Option RouteName :=
  match b.toNat with
  | 0 => some .received
  | 1 => some .sentCopy
  | 2 => some .keyedLocal
  | _ => none

/-- A spool field. -/
def spoolOf (b : Byte) : Option SpoolName :=
  match b.toNat with
  | 0 => some .pLine
  | 1 => some .pLocal
  | 2 => some .pSubmit
  | 3 => some .punch
  | 4 => some .send
  | _ => none

/-- A SUBMIT TEXT target field. -/
def submitTargetOf (b : Byte) : Option SubmitTarget :=
  match b.toNat with
  | 0 => some .send
  | 1 => some .print
  | 2 => some .punch
  | _ => none

/-- A replay target field. -/
def replayTargetOf (b : Byte) : Option ReplayTarget :=
  match b.toNat with
  | 0 => some .print
  | 1 => some .punch
  | _ => none

/-- A keyboard mode field. -/
def modeOf (b : Byte) : Option KeyboardMode :=
  match b.toNat with
  | 0 => some .loc
  | 1 => some .line
  | 2 => some .raw
  | 3 => some .locked
  | _ => none

end Sys2Proof.Machine
end

