-- ==== Sys2Proof/Machine/Motor.lean ====
section
/-! DEFINITION. The Motor Controller: the demand set and the motor (R162, R163, R166), the settle records
(R167, R170) and the bell (R171). -/

namespace Sys2Proof.Machine

/-! ## The demand set and the motor -/

/-- The loader is READY (R184). -/
def State.ready (s : State) : Bool := s.isl.loader == .ready

/-- Whether no member stands in the demand set. -/
def Demand.isEmpty (d : Demand) : Bool := !d.call && !d.print && !d.punch

/-- R163: the motor output. -/
def State.motorOutput (s : State) : Bool := s.motor.state != .off

/-- The run-up time in ticks as the option stands (R163). -/
def State.runUpTicks (s : State) : Nat := s.opt .runUpTime * Config.hundredMs

/-- The run-on time in ticks as the option stands (R163). -/
def State.runOnTicks (s : State) : Nat := s.opt .runOnTime * Config.second

/-- R163: the motor after the demand set becomes non-empty. -/
def State.motorOnDemand (s : State) : MotorState :=
  match s.motor.state with
  | .off => .runUp (s.now + s.runUpTicks)
  | .runOn _ => .running
  | m => m

/-- R163: the motor after the demand set becomes empty. -/
def State.motorOnNoDemand (s : State) : MotorState :=
  match s.motor.state with
  | .running => .runOn (s.now + s.runOnTicks)
  | m => m

/-- R165: whether PRINT stands withdrawn in a run-up when the set becomes `d` and the motor `m`: it was in the set during
the run-up, now or before, and is not in `d`. It stays withdrawn in RUNNING until PRINT is placed. -/
def Motor.withdrawnAfter (r : Motor) (d : Demand) (m : MotorState) : Bool :=
  match m with
  | .runUp _ => (r.printWithdrawn || r.demand.print) && !d.print
  | .running => r.printWithdrawn && !d.print
  | _ => false

/-- R162, R163, R165: the demand set takes a new value, the members placed before those removed (log 7), and the
motor takes the event that the set becomes non-empty or empty. -/
def State.setDemand (s : State) (d : Demand) : State :=
  let motor :=
    if s.motor.demand.isEmpty && !d.isEmpty then s.motorOnDemand
    else if !s.motor.demand.isEmpty && d.isEmpty then s.motorOnNoDemand
    else s.motor.state
  { s with motor := { s.motor with
      demand := d, state := motor, printWithdrawn := s.motor.withdrawnAfter d motor } }

/-- The Call Controller places or removes CALL (R162). -/
def State.demandCall (s : State) (on : Bool) : State :=
  s.setDemand { s.motor.demand with call := on }

/-- Whether the motor is RUNNING (R164). -/
def State.motorRunning (s : State) : Bool := s.motor.state == .running

/-- R112, R165: while the motor is RUNNING, an event of the printer's own lets it choose although RUNNING was not reported
to it. -/
def State.tellPrinter (s : State) : State :=
  if s.motorRunning then { s with motor := { s.motor with printWithdrawn := false } } else s

/-- R166: the motor at RESTART. DESIGN CHOICE (log 30): the settle records return to IDLE with the other fields kept. -/
def State.restartMotor (s : State) : State :=
  { s with motor :=
    { demand := { call := false, print := false, punch := false }
      state :=
        match s.motor.state with
        | .off => .off
        | .runOn due => .runOn due
        | _ => .runOn (s.now + s.runOnTicks)
      printWithdrawn := false
      printTiming := { s.motor.printTiming with phase := .idle }
      punchTiming := { s.motor.punchTiming with phase := .idle }
      bell := none } }

/-! ## Settle records -/

/-- The settle record of a mechanism. -/
def State.settle (s : State) : Mechanism → Settle
  | .printer => s.motor.printTiming
  | .punch => s.motor.punchTiming

/-- Replaces the settle record of a mechanism. -/
def State.withSettle (s : State) (m : Mechanism) (r : Settle) : State :=
  match m with
  | .printer => { s with motor := { s.motor with printTiming := r } }
  | .punch => { s with motor := { s.motor with punchTiming := r } }

/-- R167: the elapsed field: the milliseconds since the settle began, as the clock stands. In IDLE it holds the elapsed
at the last report (log 30). -/
def Settle.elapsed (r : Settle) (now : Nat) : Nat :=
  if r.phase = .idle then r.reached else min 2000 ((now - r.startedAt) / Config.ms)

/-- R167: a settle begins. -/
def State.beginSettle (s : State) (m : Mechanism) (mode : TimingMode) (programmed extra : Nat) :
    State :=
  s.withSettle m
    { phase := .settling, mode := mode, programmed := programmed, extra := extra, reached := 0,
      startedAt := s.now }

/-- R167: the settle stands at `elapsed` milliseconds in a phase, and the clock with it. DESIGN CHOICE (log 30): a record
that returns to IDLE keeps the mode, programmed time and extra of its settle. -/
def State.settleAt (s : State) (m : Mechanism) (elapsed : Nat) (phase : SettlePhase) : State :=
  (s.advance ((s.settle m).startedAt + elapsed * Config.ms)).withSettle m
    { s.settle m with reached := elapsed, phase := phase }

/-! ## The bell (R171) -/

/-- A bell pulse is asked for: the output is on for 100 ms from now. -/
def State.ringBell (s : State) : State :=
  { s with motor := { s.motor with bell := some (s.now + Config.bell) } }

/-- R171: the bell output. -/
def State.bellOutput (s : State) : Bool := s.motor.bell.isSome

/-- R171. The bell timer expires and the output goes off. -/
def bellTimerExpiry (s : State) : State :=
  s.onTimer s.motor.bell fun s => { s with motor := { s.motor with bell := none } }

/-- R163. The run-on timer expires and the motor goes OFF. -/
def runOnExpiry (s : State) : State :=
  match s.motor.state with
  | .runOn due =>
    let s := s.advance due
    { s with motor := { s.motor with state := .off } }
  | _ => s

end Sys2Proof.Machine
end

