-- ==== Sys2Proof/Machine/Mechanisms.lean ====
section
/-! DEFINITION. The states of the printer and the punch as their settings give them (R110, R133), the
notices that report them (R127, R142), and the outputs (R118, R139). -/

namespace Sys2Proof.Machine

/-! ## Printer -/

/-- R110: the first row whose condition holds. -/
def Printer.status (p : Printer) : PrinterState :=
  if p.fault then .fault
  else if p.cycle.isSome then .cycle
  else if !p.paper then .noPaper
  else if p.hold then .held
  else .idle

/-- The printer state. -/
def State.printerState (s : State) : PrinterState := s.printer.status

/-- R24, R106: the printer is not NO PAPER, HELD or FAULT. -/
def State.printerTakes (s : State) : Bool :=
  s.printerState == .idle || s.printerState == .cycle

/-- The spool a print spool is (R111). -/
def PrintSpool.toSpool : PrintSpool → SpoolName
  | .pLine => .pLine
  | .pLocal => .pLocal
  | .pSubmit => .pSubmit

/-- Whether a print spool is empty. -/
def State.printSpoolEmpty (s : State) (n : PrintSpool) : Bool :=
  (s.store.spool n.toSpool).isEmpty

/-- Whether at least one print spool is non-empty. -/
def State.printWork (s : State) : Bool :=
  !s.printSpoolEmpty .pLine || !s.printSpoolEmpty .pLocal || !s.printSpoolEmpty .pSubmit

/-- A filtered level as a notice reports it; where the filter holds none the level is a free value (log 11). -/
def Filter.reported (f : Filter) (index : Nat) : Bool := f.level.getD (Config.unknownLevel index)

/-- R127: the fields of a PRINTER STATE notice. -/
def State.printerReport (s : State) (cause : PrinterCause) : PrinterReport :=
  { cause := cause, state := s.printerState, column := s.printer.column,
    mechCase := s.printer.mechCase, paperOut := s.printer.paperOut.reported s.freeIndex,
    paperLow := s.printer.paperLow.reported (s.freeIndex + 1), hold := s.printer.hold,
    pLine := s.store.pLine.cellCount, pLocal := s.store.pLocal.cellCount,
    pSubmit := s.store.pSubmit.cellCount }

/-- R127: a PRINTER STATE notice. -/
def State.printerNotice (s : State) (cause : PrinterCause) : State :=
  { s.notice (.printerState (s.printerReport cause)) with freeIndex := s.freeIndex + 2 }

/-- R125: a PRINTER STATE notice with cause PAPER OUT at entry to NO PAPER from another state (log 10); none is
queued while the paper-out filter holds no level (R124). -/
def State.noticeNoPaper (s : State) (before : PrinterState) : State :=
  if before ≠ .noPaper ∧ s.printerState = .noPaper ∧ s.printer.paperOut.level.isSome then
    s.printerNotice .paperOut
  else s

/-- R118: the five selector outputs, or none driven. -/
def State.selectorOutputs (s : State) : Option Code :=
  match s.printer.cycle with
  | some c => (match c.phase with
    | .settle => none
    | _ => some c.code)
  | none => none

/-- R118: the strike output. -/
def State.strikeOutput (s : State) : Bool :=
  match s.printer.cycle with
  | some c => (match c.phase with
    | .strike _ => true
    | _ => false)
  | none => false

/-! ## Punch -/

/-- R133: the first row whose condition holds. -/
def Punch.status (p : Punch) : PunchState :=
  if p.fault then .fault
  else if p.cycle.isSome then .cycle
  else if !p.switch then .off
  else if !p.tape then .tapeOut
  else .onIdle

/-- The punch state. -/
def State.punchState (s : State) : PunchState := s.punch.status

/-- R25, R106, R141: the punch is ON-IDLE or CYCLE. -/
def State.punchTakes (s : State) : Bool := s.punchState == .onIdle || s.punchState == .cycle

/-- R142: the fields of a PUNCH STATE notice. -/
def State.punchReport (s : State) (cause : PunchCause) : PunchReport :=
  { cause := cause, state := s.punchState, owner := s.punch.owner, tapeCase := s.punch.tapeCase,
    tapeOut := s.punch.tapeOut.reported s.freeIndex,
    tapeLow := s.punch.tapeLow.reported (s.freeIndex + 1), cells := s.store.punch.cellCount }

/-- R142: a PUNCH STATE notice. -/
def State.punchNotice (s : State) (cause : PunchCause) : State :=
  { s.notice (.punchState (s.punchReport cause)) with freeIndex := s.freeIndex + 2 }

/-- R142: a PUNCH STATE notice with cause TAPE OUT at entry to TAPE OUT from another state (log 10); none is
queued while the tape-out filter holds no level. -/
def State.noticeTapeOut (s : State) (before : PunchState) : State :=
  if before ≠ .tapeOut ∧ s.punchState = .tapeOut ∧ s.punch.tapeOut.level.isSome then
    s.punchNotice .tapeOut
  else s

/-- R141: feed held is cleared when the punch leaves ON-IDLE and CYCLE. -/
def State.dropFeedHeld (s : State) : State :=
  if s.punchTakes then s else { s with punch := { s.punch with feedHeld := false } }

/-- R139: the code magnets and the punch drive, or none driven. -/
def State.magnetOutputs (s : State) : Option Code :=
  match s.punch.cycle with
  | some c => (match c.phase with
    | .punch _ => some c.code
    | _ => none)
  | none => none

/-- R139: the feed drive. -/
def State.feedDrive (s : State) : Bool :=
  match s.punch.cycle with
  | some c => (match c.phase with
    | .feed _ => true
    | _ => false)
  | none => false

end Sys2Proof.Machine
end

