-- ==== Sys2Proof/Machine/PrintControl.lean ====
section
/-! DEFINITION. The Print Controller's operations: the arbiter (R111 to R116), the cycle (R117 to R120), the
column and the mechanism case (R121 to R123), and PRINTER RESET (R130). -/

namespace Sys2Proof.Machine

/-! ## The cycle -/

/-- R119: the programmed time of a carriage return from a column, UNKNOWN timed for the last position. -/
def State.carriageReturnTime (s : State) : Nat :=
  max 1 (min 1000 (s.opt .crBase + s.opt .crStep * s.printer.column.getD (s.printer.width - 1)))

/-- R119: the programmed time by the code's reading. -/
def State.printTime (s : State) (r : CodeClass) : Nat :=
  match r with
  | .carriageReturn => s.carriageReturnTime
  | .lineFeed => s.opt .lfTime
  | _ => s.opt .printCycle

/-- R118: a cycle of a code starts with the options as they stand. -/
def State.startPrintCycle (s : State) (code : Code) (r : CodeClass) (k : PrintCycleKind) : State :=
  let c : PrintCycle :=
    { code := code, reading := r, kind := k,
      phase := .select (s.now + s.opt .selectDelay * Config.ms),
      strikePulse := s.opt .strikePulse, programmed := s.printTime r,
      mode := timingModeOf (s.opt .printTimingMode), extra := s.opt .printExtra }
  { s with printer := { s.printer with cycle := some c } }

/-- R117: an inserted carriage return. -/
def State.insertCr (s : State) (k : PrintCycleKind) : State :=
  s.startPrintCycle s.fmap.carriageReturn .carriageReturn k

/-- R117: an inserted line feed. -/
def State.insertLf (s : State) : State :=
  s.startPrintCycle s.fmap.lineFeed .lineFeed .owedLf

/-- R117: the inserted shift that matches a case. -/
def State.insertShift (s : State) (k : Case) : State :=
  s.startPrintCycle (s.fmap.shiftCode k)
    (match k with
      | .letters => .lettersShift
      | .figures => .figuresShift) .shift

/-- R117: the cell's own cycle starts; the cell leaves its spool and the commitment ends. -/
def State.printOwn (s : State) (n : PrintSpool) (c : Cell) : State :=
  let s := { s with
    store := (s.store.removeHead n.toSpool).2
    printer := { s.printer with committed := false } }
  s.startPrintCycle c.code (s.fmap.reading c.code c.case) .own

/-- R121: the readings that move the carriage by one. -/
def CodeClass.advances (r : CodeClass) : Bool := r == .printing || r == .space

/-- R117, R122: whether the carriage stands at the last position. -/
def Printer.atLast (p : Printer) : Bool :=
  match p.column with
  | some c => p.width ≤ c + 1
  | none => false

/-- R117: the next cycle of the head cell of a print spool. -/
def State.printCell (s : State) (n : PrintSpool) (c : Cell) : State :=
  let s := { s with printer := { s.printer with committed := true } }
  match s.printer.newlineOwed with
  | .crAndLf => s.insertCr .owedCr
  | .lfOnly => s.insertLf
  | .none =>
    if s.printer.column = none ∧ c.code ≠ s.fmap.carriageReturn then s.insertCr .recoveryCr
    else if (s.fmap.reading c.code c.case).advances && s.printer.atLast && s.flag .autoNewline then
      { s with printer := { s.printer with newlineOwed := .crAndLf } }.insertCr .owedCr
    else if s.fmap.needsShift c.code c.case s.printer.mechCase then s.insertShift c.case
    else s.printOwn n c

/-! ## The arbiter -/

/-- R113: the spool re-arbitration yields. -/
def State.arbitrate (s : State) : Option PrintSpool :=
  let order :=
    match s.printer.pointer with
    | .pLocal => [PrintSpool.pLine, .pSubmit, .pLocal]
    | _ => [PrintSpool.pLine, .pLocal, .pSubmit]
  order.find? fun n => !s.printSpoolEmpty n

/-- The interrupted mark of a print spool (R111). -/
def Printer.interrupted (p : Printer) : PrintSpool → Bool
  | .pLine => p.interruptedLine
  | .pLocal => p.interruptedLocal
  | .pSubmit => p.interruptedSubmit

/-- Sets or clears the interrupted mark of a print spool. -/
def Printer.markInterrupted (p : Printer) (n : PrintSpool) (b : Bool) : Printer :=
  match n with
  | .pLine => { p with interruptedLine := b }
  | .pLocal => { p with interruptedLocal := b }
  | .pSubmit => { p with interruptedSubmit := b }

/-- R111, R113: a spool is granted in place of another or of none; a spool that is current continues. -/
def Printer.grant (p : Printer) (n : PrintSpool) : Printer :=
  if p.current = some n then p
  else
    let p := { p with
      current := some n, lineOpen := false,
      pointer := if n = PrintSpool.pLine then p.pointer else n }
    if p.interrupted n then { p.markInterrupted n false with newlineOwed := .crAndLf } else p

/-- The head cell of a print spool. -/
def State.printHead (s : State) (n : PrintSpool) : Option Cell :=
  ((s.store.spool n.toSpool).cells.head?).map Entry.cell

/-- The printer commits to the head cell of a spool and starts the cycle it needs (R112, R117). -/
def State.printFrom (s : State) (n : PrintSpool) : State :=
  match s.printHead n with
  | some c => s.printCell n c
  | none => s

/-- R112: the first of the items that applies. -/
def State.printChoiceItem (s : State) : State :=
  match s.printer.current with
  | some n =>
    if s.printer.committed then s.printFrom n
    else if s.printer.newlineOwed ≠ .none ∧ s.printWork then
      (if s.printer.newlineOwed = .crAndLf then s.insertCr .owedCr else s.insertLf)
    else if !s.printer.lineOpen then
      match s.arbitrate with
      | some n => { s with printer := s.printer.grant n }.printFrom n
      | none => s
    else if !s.printSpoolEmpty n then s.printFrom n
    else if s.printer.holdWait = .notWaiting then
      { s with printer := { s.printer with
          holdWait := .waiting (s.now + s.opt .arbiterHold * Config.hundredMs) } }
    else s
  | none =>
    if s.printer.newlineOwed ≠ .none ∧ s.printWork then
      (if s.printer.newlineOwed = .crAndLf then s.insertCr .owedCr else s.insertLf)
    else
      match s.arbitrate with
      | some n => { s with printer := s.printer.grant n }.printFrom n
      | none => s

/-- Whether the hold-wait is WAITING (R112). -/
def HoldWait.isWaiting : HoldWait → Bool
  | .waiting _ => true
  | _ => false

/-- R112, R165: whether the printer makes a choice: it is IDLE, the motor is RUNNING, hold-wait is not WAITING, and no
RUNNING was withheld from it. -/
def State.printerChooses (s : State) : Bool :=
  s.printerState == .idle && s.motorRunning && !s.printer.holdWait.isWaiting && !s.motor.printWithdrawn

/-- R112: the printer makes a choice. DEDUCED (log 44): a cycle starts only with PRINT in the demand set, for R164 has the
printer hold it while a cycle is in flight; a choice that would start one without it is made when PRINT is placed. -/
def State.printChoice (s : State) : State :=
  let t := s.printChoiceItem
  if s.printerChooses && (s.motor.demand.print || t.printer.cycle.isNone) then t else s

/-- R112, R165: a printer that has left IDLE will choose when it enters IDLE, whether or not RUNNING was reported to it. -/
def State.reviewWithdrawn (s : State) : State := if s.printerState = .idle then s else s.tellPrinter

/-- R115: the steps of a cut-in but for the choice that follows. -/
def Printer.cutIn (p : Printer) : Printer :=
  let p := match p.current with
    | some n => p.markInterrupted n true
    | none => p
  { p with current := none, lineOpen := false, newlineOwed := .crAndLf, holdWait := .notWaiting }

/-- R114: whether a print spool other than the current one is non-empty. -/
def State.rivalWaits (s : State) : Bool :=
  [PrintSpool.pLine, .pLocal, .pSubmit].any fun n =>
    s.printer.current != some n && !s.printSpoolEmpty n

/-- R114: whether the current spool holds a cell. -/
def State.currentHolds (s : State) : Bool :=
  match s.printer.current with
  | some n => !s.printSpoolEmpty n
  | none => false

/-- R114: what ends a hold-wait other than its timer: the printer leaves IDLE, a cell reaches the current
spool, or, once EXPIRED, a cell reaches another. -/
def State.reviewHoldWait (s : State) : State :=
  if s.printer.holdWait = .notWaiting then s
  else if s.printerState ≠ .idle ∨ s.currentHolds then
    { s with printer := { s.printer with holdWait := .notWaiting } }
  else if s.printer.holdWait = .expired ∧ s.rivalWaits then
    { s with printer := s.printer.cutIn }
  else s

/-- R131: whether the printer has work for which PRINT stands. -/
def State.printDemand (s : State) : Bool :=
  s.printer.cycle.isSome || (s.printerState == .idle && s.printWork)

/-! ## The end of a cycle -/

/-- R121: the column after a cycle. -/
def Printer.columnAfter (p : Printer) (r : CodeClass) : Option Nat :=
  match r with
  | .carriageReturn => some 0
  | .printing | .space => p.column.map fun c => if c + 1 < p.width then c + 1 else c
  | _ => p.column

/-- R120, R123: the mechanism case after a cycle. -/
def Printer.mechCaseAfter (p : Printer) (r : CodeClass) : SinkCase :=
  match r with
  | .lettersShift => .letters
  | .figuresShift => .figures
  | _ => p.mechCase

/-- R120, R121: the effects of a cycle on the column, the width in effect and the mechanism case. -/
def State.printEffects (s : State) (c : PrintCycle) : State :=
  { s with printer := { s.printer with
      column := s.printer.columnAfter c.reading
      width := if c.reading = .carriageReturn then s.opt .lineWidth else s.printer.width
      mechCase := s.printer.mechCaseAfter c.reading } }

/-- R117, R120: newline owed after a cycle. -/
def NewlineOwed.after (o : NewlineOwed) (k : PrintCycleKind) : NewlineOwed :=
  match k with
  | .owedCr => .lfOnly
  | .owedLf => .none
  | _ => o

/-- R130: the steps of PRINTER RESET. DESIGN CHOICE (log 33): an EXPIRED hold-wait ends with them as one in progress
does. -/
def Printer.resetSteps (p : Printer) : Printer :=
  { p with fault := false, column := none, mechCase := .unknown, holdWait := .notWaiting,
           resetPending := false }

/-- R120, R128, R130: the cycle ends at its report with its effects; a fault report sets the fault; a PRINTER
RESET taken during the cycle acts after them. The FAULT notice shows the state before that reset (log 34), and comes
before a PAPER OUT of the same step (log 41). -/
def State.finishPrintCycle (s : State) (c : PrintCycle) (fault : Bool) : State :=
  let s := s.printEffects c
  let s := { s with printer := { s.printer with
    lineOpen := if c.kind = PrintCycleKind.own then c.reading != CodeClass.lineFeed else s.printer.lineOpen
    newlineOwed := s.printer.newlineOwed.after c.kind
    cycle := none
    fault := s.printer.fault || fault } }
  let s := if fault then s.printerNotice .fault else s
  let s := if s.printer.resetPending then { s with printer := s.printer.resetSteps } else s
  s.noticeNoPaper .cycle

/-- R121: the width in effect is taken at a load, and a column at or beyond it becomes UNKNOWN. -/
def Printer.takeWidth (p : Printer) (w : Nat) : Printer :=
  { p with width := w, column := p.column.filter fun c => c < w }

end Sys2Proof.Machine
end

