-- ==== Sys2Proof/Machine/PunchControl.lean ====
section
/-! DEFINITION. The Punch Controller's operations: ownership (R134), leader, trailer and release (R136,
R137), the choice (R138) and the cycle (R139, R140). -/

namespace Sys2Proof.Machine

/-! ## Ownership -/

/-- R134: an append is made only when the owner is that stream or none. -/
def State.ownerAdmits (s : State) (st : Stream) : Bool :=
  s.punch.owner == none || s.punch.owner == some st

/-- R134: an append that finds the punch unowned claims it. -/
def State.claimPunch (s : State) (st : Stream) : State :=
  if s.punch.owner = none then
    { s with punch := { s.punch with
        owner := some st, tapeCase := .unknown,
        leader := if st = .line then s.opt .leaderCount else 0, lineRelease := .none,
        localRelease := false, submittedRelease := false, clearRelease := false,
        releaseTimer := none } }
  else s

/-- R136: a LINE cell placed returns the LINE release state to NONE. -/
def State.lineCellPlaced (s : State) (st : Stream) : State :=
  if st = .line then { s with punch := { s.punch with lineRelease := .none } } else s

/-- R3, R134: one cell at the tail of PUNCH under a stream, claiming an unowned punch. -/
def State.appendPunch (s : State) (st : Stream) (c : Cell) : State :=
  let s := (s.claimPunch st).lineCellPlaced st
  { s with store := s.store.append .punch { cell := c, stream := some st } }

/-- R134, R136, R137: the punch is released; the tape case becomes UNKNOWN (R140, log 9). -/
def State.releasePunch (s : State) : State :=
  { s with punch := { s.punch with
      owner := none, tapeCase := .unknown, lineRelease := .none, localRelease := false,
      submittedRelease := false, clearRelease := false, releaseTimer := none } }

/-- The PUNCH spool is empty, no cycle is in flight and no cell is committed (R136, R137). -/
def State.punchQuiet (s : State) : Bool :=
  s.store.punch.isEmpty && s.punch.cycle.isNone && !s.punch.committed

/-- R137: at rest for its owner. -/
def State.punchAtRest (s : State) : Bool :=
  s.punchQuiet && s.punch.feedRequest.isNone && !s.punch.feedHeld

/-- R136: a DUE release becomes TRAILER, with the count loaded, once the LINE work is done. -/
def State.startTrailer (s : State) : State :=
  if s.punch.lineRelease = .due ∧ s.punchQuiet ∧ s.punch.leader = 0 then
    { s with punch := { s.punch with lineRelease := .trailer (s.opt .trailerCount) } }
  else s

/-- R136, R137, R145: whether a release waits only for the punch to be at rest. DESIGN CHOICE (log 40): the LINE release at
TRAILER 0 is made in every punch state, OFF, TAPE OUT and FAULT among them. -/
def State.releaseDue (s : State) : Bool :=
  match s.punch.owner with
  | some .line => s.punch.lineRelease == .trailer 0 && s.punch.cycle.isNone
  | some .loc => (s.punch.localRelease || s.punch.clearRelease) && s.punchAtRest
  | some .submitted => (s.punch.submittedRelease || s.punch.clearRelease) && s.punchAtRest
  | none => false

/-- R136, R137: the releases are tested. -/
def State.testReleases (s : State) : State :=
  let s := s.startTrailer
  if s.releaseDue then s.releasePunch else s

/-- R137: the release timer runs while the owner is LOCAL or SUBMITTED and the punch is at rest. -/
def State.runReleaseTimer (s : State) : State :=
  if (s.punch.owner = some .loc ∨ s.punch.owner = some .submitted) ∧ s.punchAtRest then
    match s.punch.releaseTimer with
    | some _ => s
    | none =>
      { s with punch := { s.punch with
          releaseTimer := some (s.now + s.opt .punchReleaseIdle * Config.second) } }
  else { s with punch := { s.punch with releaseTimer := none } }

/-! ## The cycle and the choice -/

/-- R139: a cycle of a code starts with the options as they stand. -/
def State.startPunchCycle (s : State) (code : Code) : State :=
  let c : PunchCycle :=
    { code := code, shift := s.fmap.shiftCase code,
      phase := .punch (s.now + s.opt .punchPulse * Config.ms), feedPulse := s.opt .feedPulse,
      programmed := s.opt .punchCycle, mode := timingModeOf (s.opt .punchTimingMode),
      extra := s.opt .punchExtra, muted := false }
  { s with punch := { s.punch with cycle := some c } }

/-- R138: a cycle of the BLANK code: leader, trailer or feed. -/
def State.startBlankCycle (s : State) : State := s.startPunchCycle s.fmap.blank

/-- R139, R141: the head cell leaves PUNCH, and the cells ahead of a feed request fall by one. -/
def State.takePunchHead (s : State) : State :=
  { s with
    store := (s.store.removeHead .punch).2
    punch := { s.punch with
      feedRequest := s.punch.feedRequest.map fun r => { r with ahead := r.ahead - 1 } } }

/-- R140: the next cycle of the head cell's sequence: an inserted shift, or its own cycle. -/
def State.punchCell (s : State) (e : Entry) : State :=
  if s.fmap.needsShift e.cell.code e.cell.case s.punch.tapeCase then
    { s with punch := { s.punch with committed := true } }.startPunchCycle
      (s.fmap.shiftCode e.cell.case)
  else
    let s := s.takePunchHead
    { s with punch := { s.punch with committed := false } }.startPunchCycle e.cell.code

/-- R138, R141: PUNCH FEED blanks are pending with no cells ahead of them. -/
def State.feedDue (s : State) : Bool :=
  match s.punch.feedRequest with
  | some r => r.ahead == 0 && r.blanks != 0
  | none => false

/-- R141: a feed cycle of PUNCH FEED lowers blanks by one, and the request ends at 0. -/
def State.startFeedRequestCycle (s : State) : State :=
  { s with punch := { s.punch with
      feedRequest := s.punch.feedRequest.bind fun r =>
        if r.blanks ≤ 1 then none else some { r with blanks := r.blanks - 1 } } }.startBlankCycle

/-- The trailer count still to be punched (R136). -/
def LineRelease.trailerLeft : LineRelease → Nat
  | .trailer n => n
  | _ => 0

/-- R138: the first of the items that applies starts one cycle. -/
def State.punchChoiceItem (s : State) : State :=
  match s.punch.committed, s.store.punch.cells with
  | true, e :: _ => s.punchCell e
  | _, cells =>
    if 0 < s.punch.leader then
      { s with punch := { s.punch with leader := s.punch.leader - 1 } }.startBlankCycle
    else if s.feedDue then s.startFeedRequestCycle
    else
      match cells with
      | e :: _ => s.punchCell e
      | [] =>
        if s.punch.feedHeld then s.startBlankCycle
        else if 0 < s.punch.lineRelease.trailerLeft then
          { s with punch := { s.punch with
              lineRelease := .trailer (s.punch.lineRelease.trailerLeft - 1) } }.startBlankCycle
        else s

/-- R138: the punch makes a choice whenever it is ON-IDLE and the motor is RUNNING. DEDUCED (log 44): a cycle starts only
with PUNCH in the demand set, for R164 has the punch hold it while a cycle is in flight. -/
def State.punchChoice (s : State) : State :=
  if s.punchState = .onIdle ∧ s.motorRunning ∧ s.motor.demand.punch then s.punchChoiceItem else s

/-- R146: whether the punch has work for which PUNCH stands. -/
def State.punchDemand (s : State) : Bool :=
  s.punchTakes &&
    (s.punch.cycle.isSome || !s.store.punch.isEmpty || 0 < s.punch.leader ||
      s.punch.feedRequest.isSome || s.punch.feedHeld || 0 < s.punch.lineRelease.trailerLeft)

/-- R139, R140, R143, R170: the cycle ends at its report; a shift sets the tape case unless the cycle is muted, and a
fault report sets the fault, which the PUNCH RESET that muted the cycle clears after the report (log 37). DESIGN CHOICE
(log 34): a notice of the end shows owner and tape case before a release that the end brings. -/
def State.finishPunchCycle (s : State) (c : PunchCycle) (fault : Bool) : State :=
  let tapeCase :=
    if c.muted then s.punch.tapeCase
    else match c.shift with
      | some k => k.toSink
      | none => s.punch.tapeCase
  let s := { s with punch := { s.punch with
    cycle := none, tapeCase := tapeCase, fault := s.punch.fault || fault } }.dropFeedHeld
  let s := if fault then s.punchNotice .fault else s
  let s := if c.muted then { s with punch := { s.punch with fault := false } } else s
  s.noticeTapeOut .cycle

end Sys2Proof.Machine
end

