-- ==== Sys2Proof/Machine/Drive.lean ====
section
/-! DEFINITION. What the mechanisms do when something has changed: the releases of the punch, the hold-wait,
the demands, and the two choices (R112, R114, R131, R136 to R138, R146). Each of these is stated as
"whenever" or "while", so each is a test of the state as it stands; the order inside one step is log 7. -/

namespace Sys2Proof.Machine

/-- R131, R146, R166: whether PRINT and PUNCH are due. A member stands while there is work for it, and no block places one
while the loader is LOADING (log 44). -/
def State.dueDemand (s : State) : Demand :=
  { s.motor.demand with
    print := s.printDemand && (s.ready || s.motor.demand.print)
    punch := s.punchDemand && (s.ready || s.motor.demand.punch) }

/-- R131, R146: the printer and the punch place the members that are due. -/
def State.placeDemands (s : State) : State :=
  s.setDemand { s.motor.demand with
    print := s.motor.demand.print || s.dueDemand.print, punch := s.motor.demand.punch || s.dueDemand.punch }

/-- R131, R146: the printer and the punch remove their members that are not due. -/
def State.lapseDemands (s : State) : State := s.setDemand s.dueDemand

/-- The mechanisms take up what the state as it stands gives them to do. The choices come between the placing and the
removing of demands, so that a last cell's cycle may end in the choice that starts the hold-wait, and PRINT lapses
after it (R112, R131). -/
def State.drive (s : State) : State :=
  s.testReleases.reviewHoldWait.reviewWithdrawn.placeDemands.printChoice.punchChoice.lapseDemands.runReleaseTimer

end Sys2Proof.Machine
end

