-- ==== Sys2Proof/Machine/MessageFile.lean ====
section
/-! DEFINITION. The Message File's operations: filing (R94 to R99), closing (R98, R100), and the copying of a
replay (R105, R106). -/

namespace Sys2Proof.Machine

/-! ## Records -/

/-- R97: the duration of a record, counted while it is open. -/
def Message.durationAt (m : Message) (now : Nat) : Nat :=
  m.duration.getD (secondsBetween m.openedAt now)

/-- R101: the summary of a record. -/
def Message.summary (m : Message) (now : Nat) : Summary :=
  { number := m.number, state := m.state, kind := m.kind, part := m.part, continued := m.continued,
    cells := m.cells.length, doubtful := m.doubtful, substituted := m.substituted, lost := m.lost,
    duration := m.durationAt now }

/-- The record of a number (section 5.4). -/
def File.find (f : File) (number : Nat) : Option Message :=
  f.records.find? fun m => m.number == number

/-- The RECEIVING record, of which there is at most one (R93). -/
def File.receiving (f : File) : Option Message :=
  f.records.find? fun m => m.state == .receiving

/-- Replaces the record of a number. -/
def File.replace (f : File) (m : Message) : File :=
  { f with records := f.records.map fun r => if r.number = m.number then m else r }

/-- R94: the number after another in the cycle 1, 2, ..., 255, 1. -/
def numberAfter (n : Nat) : Nat := if n < 255 then n + 1 else 1

/-- R94: the first number from a candidate on that no record holds; 255 candidates are tried. -/
def freeNumber (used : List Nat) : Nat → Nat → Nat
  | 0, candidate => candidate
  | fuel + 1, candidate =>
    if used.contains candidate then freeNumber used fuel (numberAfter candidate) else candidate

/-- R94: the number the next record takes. -/
def File.nextNumber (f : File) : Nat :=
  freeNumber (f.records.map Message.number) 255 (numberAfter f.lastNumber)

/-! ## Filing -/

/-- R97: a count that rises by one for a cell of a quality. -/
def qualityCount (n : Nat) (c : Cell) (q : Quality) : Nat := if c.quality = q then n + 1 else n

/-- R97: a cell filed into a record, on the chain the store gave. -/
def Message.fileCell (m : Message) (c : Cell) (chain : List Nat) : Message :=
  { m with cells := m.cells ++ [c], chain := chain,
           doubtful := qualityCount m.doubtful c .doubtful,
           substituted := qualityCount m.substituted c .substituted }

/-- R98, R100: a record closes. -/
def Message.close (m : Message) (continued : Bool) (caller : Option (List Cell)) (now : Nat) :
    Message :=
  { m with state := .filed, continued := continued, caller := caller,
           duration := some (secondsBetween m.openedAt now) }

/-- R98, R100: a record closes, and a MESSAGE FILED notice is queued. -/
def State.closeMessage (s : State) (m : Message) (cause : FilingCause) : State :=
  let m := m.close (cause == .length) s.call.record.caller s.now
  { s with file := s.file.replace m }.notice (.messageFiled (m.summary s.now) cause)

/-- R98: the record closes when the copy brought it to 2048 cells. -/
def State.closeIfFull (s : State) (m : Message) : State :=
  if Config.chainCells ≤ m.cells.length then s.closeMessage m .length else s

/-- R97, R98: a copy is filed into the RECEIVING record. -/
def State.fileInto (s : State) (m : Message) (c : Cell) : State :=
  let grown := s.store.chainAppend m.chain m.cells.length
  let m := m.fileCell c grown.1
  { s with store := grown.2, file := s.file.replace m }.closeIfFull m

/-- R96: the part of a new record. -/
def File.nextPart (f : File) : Nat := min 15 (f.lastPart + 1)

/-- R96: a record opens with its first cell. -/
def State.openMessage (s : State) (c : Cell) : State :=
  let grown := s.store.chainAppend [] 0
  let blank : Message :=
    { number := s.file.nextNumber, state := .receiving, kind := s.call.record.kind,
      part := s.file.nextPart, continued := false, cells := [], chain := [], doubtful := 0,
      substituted := 0, lost := 0, openedAt := s.now, duration := none, caller := none }
  let m := blank.fileCell c grown.1
  { s with
    store := grown.2
    file := { s.file with records := s.file.records ++ [m], lastNumber := s.file.nextNumber,
                          lastPart := s.file.nextPart } }

/-- R99: a FILE FULL notice. -/
def State.fileFullNotice (s : State) : State :=
  s.notice (.fileFull s.file.records.length (s.file.records.countP fun m => m.state == .filed))

/-- R95: a copy offered to FILE: the state after the tests and, when one fails, its cause. -/
def State.offerFile (s : State) (c : Cell) : State × Option Cause :=
  if s.call.state ≠ .connected then (s, some .notConnected)
  else
    match s.file.receiving with
    | some m =>
      match s.store.chainRefusal m.cells.length with
      | some r =>
        ({ s with file := s.file.replace { m with lost := satAdd m.lost 1 } },
          some (.space .file r))
      | none => (s.fileInto m c, none)
    | none =>
      if Config.fileRecords ≤ s.file.records.length then (s.fileFullNotice, some .fileFull)
      else
        match s.store.chainRefusal 0 with
        | some r => (s, some (.space .file r))
        | none => (s.openMessage c, none)

/-- R100: the end of a connection, by entry to CLEARING or by RESTART. -/
def State.endFiling (s : State) (cause : FilingCause) : State :=
  let s := match s.file.receiving with
    | some m => s.closeMessage m cause
    | none => s
  { s with file := { s.file with lastPart := 0 } }

/-! ## Replay -/

/-- A record returns to FILED and the replay state becomes none (R106, R107, R109). -/
def File.endReplay (f : File) : File :=
  match f.replay with
  | some r =>
    { f with
      records := f.records.map fun m => if m.number = r.number then { m with state := .filed } else m
      replay := none }
  | none => f

/-- R106: whether the replay's target can take a cell now. -/
def State.replayTakes (s : State) (t : ReplayTarget) : Bool :=
  match t with
  | .print => s.printerTakes && (s.store.spoolRefusal .pSubmit).isNone
  | .punch =>
    s.punchTakes && s.ownerAdmits .submitted && (s.store.spoolRefusal .punch).isNone

/-- R106: a cell is copied into the target. -/
def State.replayCell (s : State) (t : ReplayTarget) (c : Cell) : State :=
  match t with
  | .print => { s with store := s.store.append .pSubmit { cell := c, stream := none } }
  | .punch => s.appendPunch .submitted c

/-- R106: the position advances, and the replay completes when it reaches the record's cells. -/
def State.advanceReplay (s : State) (r : Replay) (total : Nat) : State :=
  if total ≤ r.position + 1 then
    { s with file := s.file.endReplay }.notice (.replayDone r.number true (r.position + 1))
  else { s with file := { s.file with replay := some { r with position := r.position + 1 } } }

end Sys2Proof.Machine
end

