-- ==== Sys2Proof/Machine/RouteTable.lean ====
section
/-! DEFINITION. The Route Table: availability and placing (R24 to R27), delivery with stand-ins (R28 to R30),
the quota (R31, R32), and re-arming (R33). -/

namespace Sys2Proof.Machine

/-- The record of a route. -/
def Routes.get (r : Routes) : RouteName → Route
  | .received => r.received
  | .sentCopy => r.sentCopy
  | .keyedLocal => r.keyedLocal

/-- Replaces the record of a route. -/
def Routes.put (r : Routes) (n : RouteName) (v : Route) : Routes :=
  match n with
  | .received => { r with received := v }
  | .sentCopy => { r with sentCopy := v }
  | .keyedLocal => { r with keyedLocal := v }

/-! ## Placing one copy -/

/-- R21: the print spool of a route. -/
def RouteName.printSpool : RouteName → SpoolName
  | .keyedLocal => .pLocal
  | _ => .pLine

/-- R21: the stream of a route. -/
def RouteName.stream : RouteName → Stream
  | .keyedLocal => .loc
  | _ => .line

/-- R16, R24: the target a print spool is in a space loss. -/
def RouteName.printTarget : RouteName → SpaceTarget
  | .keyedLocal => .pLocal
  | _ => .pLine

/-- R24: a copy tried at PRINT. -/
def State.tryPrint (s : State) (n : RouteName) (c : Cell) : State × Option Cause :=
  if (s.routes.get n).state = .diverted then (s, some .diverted)
  else if !s.printerTakes then (s, some .printer)
  else
    match s.store.spoolRefusal n.printSpool with
    | some r => (s, some (.space n.printTarget r))
    | none => ({ s with store := s.store.append n.printSpool { cell := c, stream := none } }, none)

/-- R25: a copy tried at PUNCH. -/
def State.tryPunch (s : State) (n : RouteName) (c : Cell) : State × Option Cause :=
  if !s.punchTakes then (s, some .puncher)
  else if !s.ownerAdmits n.stream then (s, some .owned)
  else
    match s.store.spoolRefusal .punch with
    | some r => (s, some (.space .punch r))
    | none => (s.appendPunch n.stream c, none)

/-- R24 to R27: a copy tried at a place, test and placing in one action. -/
def State.tryPlace (s : State) (n : RouteName) (p : Place) (c : Cell) : State × Option Cause :=
  match p with
  | .print => s.tryPrint n c
  | .punch => s.tryPunch n c
  | .file => s.offerFile c

/-! ## Delivery -/

/-- What a delivery has come to: the state, the copies placed and lost, the stand-in places tried, and the first
SPACE failure (R28 to R30). -/
structure Delivery where
  state : State
  placed : Nat
  lost : Nat
  tried : List Place
  loss : Option (SpaceTarget × SpaceReason)

/-- R30: the first SPACE failure in the order of the tries. -/
def firstLoss (loss : Option (SpaceTarget × SpaceReason)) (cause : Option Cause) :
    Option (SpaceTarget × SpaceReason) :=
  match loss, cause with
  | none, some (.space t r) => some (t, r)
  | _, _ => loss

/-- Whether a place is a member of a destination set (R20). -/
def Destinations.has (d : Destinations) : Place → Bool
  | .print => d.print
  | .punch => d.punch
  | .file => d.file

/-- R29: the stand-in of a destination. -/
def Route.standIn (r : Route) : Place → Option Place
  | .print => r.printStandIn
  | .punch => r.punchStandIn
  | .file => none

/-- R29: the stand-in that is tried for a destination found unavailable, if any. -/
def Route.standInToTry (r : Route) (p : Place) (tried : List Place) : Option Place :=
  (r.standIn p).filter fun q => !r.destinations.has q && !tried.contains q

/-- R29: a copy whose destination was unavailable. -/
def Delivery.tryStandIn (d : Delivery) (n : RouteName) (r : Route) (p : Place) (c : Cell) :
    Delivery :=
  match r.standInToTry p d.tried with
  | none => { d with lost := d.lost + 1 }
  | some q =>
    let t := d.state.tryPlace n q c
    match t.2 with
    | none => { d with state := t.1, placed := d.placed + 1, tried := q :: d.tried }
    | some e =>
      { d with state := t.1, lost := d.lost + 1, tried := q :: d.tried,
               loss := firstLoss d.loss (some e) }

/-- R28: one destination of the set. -/
def Delivery.deliverTo (n : RouteName) (r : Route) (c : Cell) (d : Delivery) (p : Place) :
    Delivery :=
  if r.destinations.has p then
    let t := d.state.tryPlace n p c
    match t.2 with
    | none => { d with state := t.1, placed := d.placed + 1 }
    | some e => { d with state := t.1, loss := firstLoss d.loss (some e) }.tryStandIn n r p c
  else d

/-- The number of members of a destination set. -/
def Destinations.count (d : Destinations) : Nat :=
  (if d.print then 1 else 0) + (if d.punch then 1 else 0) + (if d.file then 1 else 0)

/-- R28: delivery in the order PRINT, PUNCH, FILE; a SUSPENDED route tries nothing and loses every copy. -/
def State.deliver (s : State) (n : RouteName) (c : Cell) : Delivery :=
  let r := s.routes.get n
  let start : Delivery := { state := s, placed := 0, lost := 0, tried := [], loss := none }
  if r.state = .suspended then { start with lost := r.destinations.count }
  else [Place.print, .punch, .file].foldl (Delivery.deliverTo n r c) start

/-! ## Counting and the quota -/

/-- R28: the placed and lost counts after a delivery. -/
def Route.count (r : Route) (placed lost : Nat) : Route :=
  { r with placed := if 0 < placed then satAdd r.placed 1 else r.placed,
           lost := satAdd r.lost lost }

/-- R31: whether a character is counted against the quota. -/
def Route.counts (r : Route) : Bool := r.reload != 0 && r.state != .suspended && r.counter != 0

/-- R32: the route after its quota action. -/
def Route.exhaust (r : Route) : Route :=
  match r.action with
  | .notify => { r with counter := r.reload }
  | .divert => { r with counter := 0, state := .diverted }
  | .suspend => { r with counter := 0, state := .suspended }

/-- R31, R32: the quota is counted after the delivery. -/
def State.countQuota (s : State) (n : RouteName) : State :=
  let r := s.routes.get n
  if r.counts then
    if r.counter = 1 then
      { s with routes := s.routes.put n r.exhaust }.notice (.quota n r.action r.reload r.placed)
    else { s with routes := s.routes.put n { r with counter := r.counter - 1 } }
  else s

/-- R23: the presentation of one character to a route, with the copies placed and the space loss. -/
def State.present (s : State) (n : RouteName) (c : Cell) :
    State × Nat × Option (SpaceTarget × SpaceReason) :=
  let d := s.deliver n c
  let s := d.state
  let s := { s with routes := s.routes.put n ((s.routes.get n).count d.placed d.lost) }
  (s.countQuota n, d.placed, d.loss)

/-! ## Re-arming -/

/-- R33: counter to the reload, state ACTIVE. -/
def Route.rearm (r : Route) : Route := { r with counter := r.reload, state := .active }

/-- R33: a route is re-armed. -/
def State.rearm (s : State) (n : RouteName) : State :=
  { s with routes := s.routes.put n (s.routes.get n).rearm }

/-- R35: whether the route's source is busy. -/
def State.sourceBusy (s : State) : RouteName → Bool
  | .keyedLocal => s.keyboard.mode == .loc
  | _ => s.call.state == .connected

end Sys2Proof.Machine
end

