-- ==== Sys2Proof/Machine/Sender.lean ====
section
/-! DEFINITION. The Line Sender: TX (R55, R56), its choice (R57, R58), and the requests it takes (R60 to
R63, R65). -/

namespace Sys2Proof.Machine

/-! ## TX -/

/-- The four send states (R55). -/
inductive SendState where
  | rest
  | sending
  | breaking
  | held
  deriving DecidableEq, Repr

/-- R55: the send state, HELD being rest with the hold set. -/
def Ltx.sendState (l : Ltx) : SendState :=
  match l.activity with
  | .sending _ => .sending
  | .breaking _ => .breaking
  | .idle => if l.hold then .held else .rest

/-- R55: TX at rest. -/
def CallState.restLevel : CallState → Level
  | .calling | .connected => .mark
  | _ => .space

/-- R56: the last tick of a keyed character is the one before this. -/
def Keying.due (k : Keying) : Nat := k.startedAt + 6 * k.unitTicks + k.stopTicks

/-- R56: the level a keyed character puts on TX at a tick. -/
def Keying.levelAt (k : Keying) (t : Nat) : Level :=
  let element := (t - k.startedAt) / k.unitTicks
  if element = 0 then .space
  else if element ≤ 5 then (if k.cell.code.getLsbD (element - 1) then .mark else .space)
  else .mark

/-- R55, R56, R60: the TX output as the clock stands. -/
def State.txLevel (s : State) : Level :=
  match s.call.state, s.ltx.activity with
  | .connected, .sending k => k.levelAt s.now
  | .connected, .breaking _ => .space
  | c, _ => c.restLevel

/-! ## The choice -/

/-- R57: while LTX defers. -/
def State.defers (s : State) : Bool :=
  match s.lrx.state with
  | .character _ | .spaceRun _ => true
  | _ => s.lrx.guard.isSome

/-- R56, R59: a character is keyed; `cell` is the cell of its sent copy. DESIGN CHOICE (log 46): a shift code is a cell of
the case it names, also where a cell of SEND or an answerback code carries it with the other case. -/
def State.startKeying (s : State) (code : Code) (k : Case) (source : KeyingSource) : State :=
  let key : Keying :=
    { cell := { code := code, case := (s.fmap.shiftCase code).getD k, origin := .sent,
                quality := .clean },
      source := source, startedAt := s.now, unitTicks := s.timing.unit,
      stopTicks := s.timing.stop * s.timing.unit / 16 }
  { s with ltx := { s.ltx with activity := .sending key } }

/-- R58: whether a shift must be keyed before a code in a case. -/
def State.lineShift (s : State) (code : Code) (k : Case) : Bool :=
  s.fmap.needsShift code k s.call.record.lineCase

/-- R58: the inserted shift. -/
def State.keyShift (s : State) (k : Case) : State := s.startKeying (s.fmap.shiftCode k) k .shift

/-- R57, item 1, R60: a break is keyed and its request cleared. -/
def State.keyBreak (s : State) : State :=
  { s with ltx := { s.ltx with
      breakRequest := false,
      activity := .breaking (s.now + s.timing.breakLen * Config.tenMs) } }

/-- R57, item 2, R62: the answerback's code at its position, with its shift. -/
def State.keyAnswerback (s : State) (position : Nat) : State :=
  match s.isl.answerback[position]? with
  | some p =>
    if s.lineShift p.1 p.2 then s.keyShift p.2 else s.startKeying p.1 p.2 .answerback
  | none => { s with ltx := { s.ltx with answerback := none } }

/-- R57, item 3, R63: the enquiry, with its shift. -/
def State.keyEnquiry (s : State) : State :=
  if s.call.record.lineCase = .figures then s.startKeying s.fmap.enquiry .figures .enquiry
  else s.keyShift .figures

/-- R57, item 4: the head cell of SEND, with its shift; it leaves SEND when its own keying begins. -/
def State.keySend (s : State) : State :=
  match s.store.send.cells with
  | e :: _ =>
    if s.lineShift e.cell.code e.cell.case then s.keyShift e.cell.case
    else
      { s with store := (s.store.removeHead .send).2 }.startKeying e.cell.code e.cell.case .send
  | [] => s

/-- R57: the first of the four items that is present. -/
def State.sendItem (s : State) : State :=
  if s.ltx.breakRequest then s.keyBreak
  else if s.defers then s
  else
    match s.ltx.answerback with
    | some position => s.keyAnswerback position
    | none =>
      if s.ltx.enquiryRequest then s.keyEnquiry
      else if s.ltx.hold then s
      else s.keySend

/-- R57: LTX chooses while it is REST or HELD and the Call Controller is CONNECTED. -/
def State.sendChoice (s : State) : State :=
  if s.call.state = .connected ∧ s.ltx.activity = .idle then s.sendItem else s

/-! ## Requests -/

/-- R60: a break request; one already pending is merged with it. -/
def State.requestBreak (s : State) : State :=
  { s with ltx := { s.ltx with breakRequest := true } }

/-- R63: an enquiry request; one already pending is merged with it. -/
def State.requestEnquiry (s : State) : State :=
  { s with ltx := { s.ltx with enquiryRequest := true } }

/-- R61: a BREAK event sets the hold. -/
def State.setHold (s : State) : State := { s with ltx := { s.ltx with hold := true } }

/-- R61: the hold ends. -/
def State.endHold (s : State) : State := { s with ltx := { s.ltx with hold := false } }

/-- R62, R82: what a trigger of the answerback comes to. -/
def State.answerbackResult (s : State) : AnswerbackResult :=
  if s.ltx.answerback.isSome then .inProgress
  else if s.isl.answerback.isEmpty then .empty
  else .started

/-- R62: the answerback is triggered. -/
def State.triggerAnswerback (s : State) : State :=
  match s.answerbackResult with
  | .started => { s with ltx := { s.ltx with answerback := some 0 } }
  | _ => s

/-- R65: LTX at entry to CLEARING and at RESTART. -/
def State.resetSender (s : State) : State := { s with ltx := Ltx.reset }

/-! ## The end of a character -/

/-- R62: the position after an answerback code has been sent. -/
def State.nextAnswerback (s : State) : Option Nat :=
  s.ltx.answerback.bind fun p =>
    if p + 1 < s.isl.answerback.length then some (p + 1) else none

/-- R56, R58, R62, R63: what LTX itself takes up when a character has been sent. -/
def State.keyingDone (s : State) (k : Keying) : State :=
  { s with
    ltx := { s.ltx with
      activity := .idle
      answerback := if k.source = .answerback then s.nextAnswerback else s.ltx.answerback
      enquiryRequest := s.ltx.enquiryRequest && k.source != .enquiry }
    call := { s.call with record := { s.call.record with
      lineCase := s.fmap.caseAfter k.cell.code s.call.record.lineCase } } }

end Sys2Proof.Machine
end

