-- ==== Sys2Proof/Machine/CallControl.lean ====
section
/-! DEFINITION. The Call Controller's operations: the call record (R89), the entries to its states (R72, R73,
R76, R85, R86, R88), and the events it takes from the line blocks and the store (R79 to R82). -/

namespace Sys2Proof.Machine

/-! ## The receive level -/

/-- R39: the filtered level. -/
def Lrx.level (l : Lrx) : Level := if l.filter.level = some true then .mark else .space

/-- The tick at which a space of a length will have lasted, when the level is space, counted from the latest
change to space (R86). -/
def State.spaceDue (s : State) (ticks : Nat) : Option Nat :=
  if s.lrx.level = .space then some (s.lrx.since + ticks) else none

/-- The tick at which a mark of CALL RECOGNITION will have lasted, when the level is mark (R75). -/
def State.markDue (s : State) : Option Nat :=
  if s.lrx.level = .mark then some (s.lrx.since + s.opt .callRecognition * Config.tenMs) else none

/-- Whether a timer has fallen due. -/
def State.reached (s : State) (timer : Option Nat) : Bool :=
  match timer with
  | some due => due ≤ s.now
  | none => false

/-! ## The receiver's enabling (R40) -/

/-- R40: LRX DISABLED; what it was assembling or holding is dropped, and the guard stopped. -/
def State.disableReceiver (s : State) : State :=
  { s with lrx := { s.lrx with state := .disabled, guard := none } }

/-- R45: a space run timed from a start, with the thresholds in effect. -/
def State.spaceRunFrom (s : State) (t0 : Nat) (char : Option PendingCharacter) : SpaceRun :=
  { t0 := t0, breakAt := t0 + s.timing.breakRec * Config.tenMs,
    clearAt := t0 + s.timing.clearRec * Config.tenMs, char := char, broken := false }

/-- R40: LRX at entry to CONNECTED. -/
def State.enableReceiver (s : State) : State :=
  { s with lrx := { s.lrx with
      state := if s.lrx.level = .mark then .markRest else .spaceRun (s.spaceRunFrom s.now none)
      guard := none, quality := LineQuality.zero, poorRun := 0 } }

/-! ## The call record (R89) -/

/-- R89: elapsed seconds. -/
def CallRecord.seconds (r : CallRecord) (now : Nat) : Nat :=
  if r.state = .ended then r.elapsed else secondsBetween r.openedAt now

/-- R89: the record opens. -/
def State.openRecord (s : State) (kind : CallKind) (state : CallRecordState) : State :=
  { s with call := { s.call with record :=
    { kind := kind, state := state, outcome := none, openedAt := s.now, elapsed := 0, received := 0,
      sent := 0, breaks := 0, lineCase := .unknown, caller := none } } }

/-- The record's state follows the Call Controller's (R89). -/
def State.recordState (s : State) (state : CallRecordState) : State :=
  { s with call := { s.call with record := { s.call.record with state := state } } }

/-- R89: the record becomes ENDED with an outcome, and elapsed seconds stop. -/
def State.endRecord (s : State) (o : CallOutcome) : State :=
  { s with call := { s.call with record := { s.call.record with
      state := .ended, outcome := some o, elapsed := s.call.record.seconds s.now } } }

/-! ## Timers -/

/-- R77: the idle timer restarts for IDLE CLEAR as it stands; 0 leaves it stopped. -/
def State.restartIdle (s : State) : State :=
  { s with call := { s.call with
      idle := if s.opt .idleClear = 0 then none
              else some (s.now + s.opt .idleClear * Config.second) } }

/-- Every timer of the Call Controller stops (R91). -/
def Call.stopTimers (c : Call) : Call :=
  { c with recognition := none, withdrawal := none, offer := none, confirm := none,
           markTiming := none, idle := none, enquiryDelay := none, capture := none,
           clearing := none, clearSpace := none, releasing := none }

/-- The Call Controller enters a state with every timer stopped; an entry that runs one starts it after. -/
def State.enterCall (s : State) (c : CallState) : State :=
  { s with call := { s.call.stopTimers with state := c, enteredAt := s.now } }

/-! ## Entries -/

/-- R66: the values in effect are copied from the set values. -/
def State.copyTiming (s : State) : State := { s with timing := timingOf s.isl.options }

/-- R76, step 8: the enquiry delay timer starts if AUTO ENQUIRY is on. -/
def State.startEnquiryDelay (s : State) : State :=
  { s with call := { s.call with
      enquiryDelay := if s.opt .autoEnquiry = 0 then none
                      else some (s.now + s.opt .autoEnquiry * Config.hundredMs) } }

/-- R76, step 2: the line case UNKNOWN. -/
def State.clearLineCase (s : State) : State :=
  { s with call := { s.call with record := { s.call.record with lineCase := .unknown } } }

/-- R76: entry to CONNECTED, its nine steps in order. -/
def State.enterConnected (s : State) : State :=
  let s := s.copyTiming.clearLineCase.enableReceiver.resetSender
  let s := ((s.rearm .received).rearm .sentCopy).enterCall .connected
  let s := ((s.recordState .connected).restartIdle).startEnquiryDelay
  s.notice (.connected s.call.record.kind)

/-- R72: ANSWERING ends when the motor is RUNNING, at once if it already is. R75: CALLING ends when the mark has
lasted and the motor is RUNNING. Tested at the events that can make it so (R75, R164). -/
def State.tryConnect (s : State) : State :=
  if s.motorRunning ∧ (s.call.state = .answering ∨
      (s.call.state = .calling ∧ s.reached s.call.markTiming)) then s.enterConnected
  else s

/-- R72, R73: ANSWERING, with the CALL demand placed. Withdrawal timing is carried across. -/
def State.enterAnswering (s : State) : State :=
  let withdrawal := s.call.withdrawal
  let s := (s.enterCall .answering).recordState .answering
  let s := { s with call := { s.call with withdrawal := withdrawal } }
  (s.demandCall true).tryConnect

/-- R72: OFFERED. -/
def State.enterOffered (s : State) : State :=
  let s := (s.enterCall .offered).recordState .offered
  let s := { s with call := { s.call with
    offer := some (s.now + s.opt .offerTime * Config.second) } }
  s.notice (.callOffered (s.opt .offerTime))

/-- R88: RELEASING; its second of space is timed from the later of entry and the latest change to space. -/
def State.enterReleasing (s : State) : State :=
  let s := s.enterCall .releasing
  { s with call := { s.call with
      releasing := if s.lrx.level = .space then some (max s.now s.lrx.since + Config.releasing)
                   else none } }

/-- A CLEARED notice with the record's counts (R86) or, from an attempt that carried nothing, zeros (R73,
R75). -/
def State.clearedNotice (s : State) (cause : CallOutcome) (sent received discarded : Nat) : State :=
  s.notice (.cleared cause sent received discarded s.call.record.elapsed)

/-- R86, step 4, R136: a MARKED LINE release becomes DUE. -/
def State.lineReleaseDue (s : State) : State :=
  if s.punch.lineRelease = .marked then
    { s with punch := { s.punch with lineRelease := .due } }
  else s

/-- R86: the end of CLEARING. -/
def State.endClearing (s : State) : State :=
  match s.call.clearCause with
  | some cause =>
    let s := s.endRecord cause
    let s := s.clearedNotice cause s.call.record.sent s.call.record.received s.call.sendDiscarded
    s.enterReleasing.lineReleaseDue
  | none => s.enterReleasing.lineReleaseDue

/-- R85, step 6, R136: the LINE stream is marked for release. -/
def State.markLineRelease (s : State) : State :=
  if s.punch.owner = some .line then
    { s with punch := { s.punch with lineRelease := .marked } }
  else s

/-- R11, R85, step 3: SEND is emptied and the count kept for CLEARED. -/
def State.emptySend (s : State) : State :=
  { s with store := (s.store.emptySpool .send).2
           call := { s.call with sendDiscarded := (s.store.emptySpool .send).1 } }

/-- R17: the overflow episode closes. -/
def State.closeEpisode (s : State) : State :=
  { s with store := { s.store with episode := .closed } }

/-- R85, steps 1 to 4: the record CLEARING, the sender at rest, SEND emptied and the receiver DISABLED. -/
def State.leaveLine (s : State) (cause : CallOutcome) : State :=
  let s := (s.enterCall .clearing).recordState .clearing
  let s := { s with call := { s.call with clearCause := some cause } }
  s.resetSender.emptySend.disableReceiver

/-- R85, R86: the clearing timer starts, and the space is timed. -/
def State.timeClearing (s : State) : State :=
  { s with call := { s.call with
    clearing := some (s.now + Config.clearing),
    clearSpace := s.spaceDue (s.timing.clearRec * Config.tenMs) } }

/-- R85: the steps of entry to CLEARING with a cause. -/
def State.beginClearing (s : State) (cause : CallOutcome) : State :=
  (((s.leaveLine cause).endFiling .clear).markLineRelease.closeEpisode).timeClearing

/-- R85: entry to CLEARING with a cause. CLEARING ends at once when the space has lasted, and for a far-end clear, whose
space began at the start edge of the run (R86; log 32). -/
def State.enterClearing (s : State) (cause : CallOutcome) : State :=
  let s := s.beginClearing cause
  if cause = .farEnd ∨ s.reached s.call.clearSpace then s.endClearing else s

/-- R73, R84, R75: an attempt in ANSWERING or CALLING ends with a CLEARED notice, without CLEARING. -/
def State.failAttempt (s : State) (o : CallOutcome) : State :=
  let s := s.endRecord o
  (s.clearedNotice o 0 0 0).enterReleasing

/-! ## Events from the line and the store -/

/-- R79: a delivered cell goes into the caller identity while the window is open. -/
def Call.takeCell (c : Call) (cell : Cell) : Call :=
  match c.capture with
  | none => c
  | some w =>
    { c with
      record := { c.record with caller := some (c.record.caller.getD [] ++ [cell]) }
      capture := if Config.callerCells ≤ w.count + 1 then none
                 else some { w with count := w.count + 1 } }

/-- R81, R82: a received enquiry. -/
def State.takeEnquiry (s : State) : State :=
  if s.opt .enquiryHandling = 0 then s.triggerAnswerback
  else s.notice (.enquiry s.call.record.received)

/-- R49, step 4, R80: the Call Controller is told of a delivered cell, which may be an enquiry. -/
def State.tellDelivered (s : State) (cell : Cell) (enquiry : Bool) : State :=
  if s.call.state = .connected then
    let s := { s with call := { s.call with record := { s.call.record with
      received := satAdd s.call.record.received 1 } } }
    let s := { s with call := s.call.takeCell cell }.restartIdle
    if enquiry then s.takeEnquiry else s
  else s

/-- R59, step 2, R80: the Call Controller is told of a sent character. -/
def State.tellSent (s : State) : State :=
  { s with call := { s.call with record := { s.call.record with
      sent := satAdd s.call.record.sent 1 } } }.restartIdle

/-- R79: the report that an enquiry has been sent opens the capture window. -/
def State.openCapture (s : State) : State :=
  { s with call := { s.call with
      record := { s.call.record with caller := none }
      capture := some { due := s.now + s.opt .captureWindow * Config.hundredMs, count := 0 } } }

/-- R80: a BREAK event. -/
def State.takeBreak (s : State) : State :=
  if s.call.state = .connected then
    let breaks := satAdd s.call.record.breaks 1
    let s := { s with call := { s.call with record := { s.call.record with breaks := breaks } } }
    (s.notice (.breakReceived breaks)).setHold.restartIdle
  else s

/-- R80: a BREAK END event. -/
def State.takeBreakEnd (s : State) : State :=
  if s.call.state = .connected then s.restartIdle else s

/-- R80, R84: a CLEAR event. -/
def State.takeClear (s : State) : State :=
  if s.call.state = .connected then s.enterClearing .farEnd else s

/-- R15 to R17: the report of a RECEIVED character to the store, and what the opening of an episode brings. -/
def State.reportLoss (s : State) (loss : Option (SpaceTarget × SpaceReason)) : State :=
  match loss, s.store.episode with
  | some l, .closed =>
    let s := { s with store := { s.store with episode := .opened } }
    let s := s.notice (.overflow l.1 l.2 s.store.freeCount)
    if s.flag .breakOnOverflow ∧ s.call.state = .connected then s.requestBreak else s
  | none, .opened => s.closeEpisode
  | _, _ => s

/-- What a filtered change of the receive level starts and stops in the Call Controller (R71, R73, R75, R86,
R88). -/
def State.callLevelChange (s : State) (level : Level) (te : Nat) : State :=
  let due := fun (wanted : Level) (ticks : Nat) =>
    if level = wanted then some (te + ticks) else none
  match s.call.state with
  | .idle =>
    { s with call := { s.call with
        recognition := due .mark (s.opt .callRecognition * Config.tenMs) } }
  | .offered | .answering =>
    { s with call := { s.call with withdrawal := due .space Config.withdrawal } }
  | .calling =>
    { s with call := { s.call with
        markTiming := due .mark (s.opt .callRecognition * Config.tenMs) } }
  | .clearing =>
    { s with call := { s.call with
        clearSpace := due .space (s.timing.clearRec * Config.tenMs) } }
  | .releasing =>
    { s with call := { s.call with
        releasing := if level = .space then some (max s.call.enteredAt te + Config.releasing)
                     else none } }
  | .outOfService | .connected => s

/-- What the mechanisms and the Line Sender do once a step's own effects stand (log 7). -/
def State.carryOn (s : State) : State := s.drive.sendChoice

end Sys2Proof.Machine
end

