-- ==== Sys2Proof/Machine/Receiver.lean ====
section
/-! DEFINITION. The Line Receiver: the filter's changes (R39), assembly (R41, R42), distortion (R43, R44),
space runs (R45 to R48), delivery (R49 to R51) and the quality record (R52, R53). -/

namespace Sys2Proof.Machine

/-! ## Samples and distortion -/

/-- R41: the time of sample `k` of a character: 0 the start, 1 to 5 the units, 6 the stop. -/
def sampleTime (t0 unit k : Nat) : Nat := t0 + (2 * k + 1) * unit / 2

/-- R41: the level at a sample time: the latest change timed at or before it, or space. The changes are in the
order of their times. -/
def levelAt (changes : List (Nat × Level)) (t : Nat) : Level :=
  changes.foldl (fun l c => if c.1 ≤ t then c.2 else l) .space

/-- R42: a change is a transition when t0 < te and te is at or before the stop sample time. -/
def isTransition (t0 unit te : Nat) : Bool := t0 < te && te ≤ sampleTime t0 unit 6

/-- R43: the number of the nearest ideal boundary, 1 to 6. -/
def boundaryOf (t0 unit te : Nat) : Nat := max 1 (min 6 ((te - t0 + unit / 2) / unit))

/-- R43: the magnitude of the deviation from it, clamped to floor(U/2). -/
def deviation (t0 unit te : Nat) : Nat :=
  let b := t0 + boundaryOf t0 unit te * unit
  min (unit / 2) (if b ≤ te then te - b else b - te)

/-- R43: the largest deviation over a character's transitions. -/
def largestDeviation (a : Assembly) (unit : Nat) : Nat :=
  a.changes.foldl
    (fun m c => if isTransition a.t0 unit c.1 then max m (deviation a.t0 unit c.1) else m) 0

/-- R44: the distortion figure of a largest deviation. -/
def distortionFigure (m unit : Nat) : Nat := (200 * m + unit) / (2 * unit)

/-- R44: the distortion figure of a character. -/
def Assembly.distortion (a : Assembly) (unit : Nat) : Nat :=
  distortionFigure (largestDeviation a unit) unit

/-! ## The quality record and the poor-run count -/

/-- LRX with a quality record. -/
def State.withQuality (s : State) (q : LineQuality) : State :=
  { s with lrx := { s.lrx with quality := q } }

/-- R44, R52: a character reaches its stop sample. -/
def State.recordDistortion (s : State) (p : Nat) : State :=
  s.withQuality { s.lrx.quality with last := p, peak := max s.lrx.quality.peak p }

/-- R52: a character is delivered with a quality. -/
def LineQuality.deliver (q : LineQuality) (k : Quality) : LineQuality :=
  let q := { q with received := satAdd q.received 1 }
  match k with
  | .clean => q
  | .doubtful => { q with doubtful := satAdd q.doubtful 1 }
  | .substituted => { q with substituted := satAdd q.substituted 1 }

/-- R53: a poor character raises the poor-run count, and a POOR LINE notice is queued when it reaches POOR-LINE
RUN. -/
def State.poorCharacter (s : State) : State :=
  let n := s.lrx.poorRun + 1
  if s.opt .poorLineRun ≤ n then
    let q := s.lrx.quality
    { s with lrx := { s.lrx with poorRun := 0 } }.notice
      (.poorLine q.last q.peak q.doubtful q.substituted)
  else { s with lrx := { s.lrx with poorRun := n } }

/-- R53: a CLEAN character sets the poor-run count to 0. -/
def State.cleanCharacter (s : State) : State := { s with lrx := { s.lrx with poorRun := 0 } }

/-- R52, R53: a delivered character of a quality. -/
def State.recordDelivery (s : State) (k : Quality) : State :=
  let s := s.withQuality (s.lrx.quality.deliver k)
  if k = .clean then s.cleanCharacter else s.poorCharacter

/-! ## Delivery -/

/-- R50: the case of a received cell from the line case. -/
def FunctionMap.receivedCase (m : FunctionMap) (c : Code) (line : SinkCase) : Case :=
  match m.shiftCase c with
  | some k => k
  | none => if line = .figures then .figures else .letters

/-- R50, step 2 of R49: the line case after a received code. -/
def State.receiveCase (s : State) (c : Code) : State :=
  { s with call := { s.call with record := { s.call.record with
      lineCase := s.fmap.caseAfter c s.call.record.lineCase } } }

/-- R49, steps 3 and 4: the cell is presented under RECEIVED, the store hears of a space loss, and the Call
Controller is told. DESIGN CHOICE (log 41): the quota is counted, and QUOTA queued, before the store hears of the loss and
queues OVERFLOW. -/
def State.handOn (s : State) (c : Cell) (enquiry : Bool) : State :=
  let p := s.present .received c
  (p.1.reportLoss p.2.2).tellDelivered c enquiry

/-- R49 to R51: a complete character is delivered. -/
def State.deliverReceived (s : State) (code : Code) (k : Quality) : State :=
  let cell : Cell :=
    { code := code, case := s.fmap.receivedCase code s.call.record.lineCase, origin := .received,
      quality := k }
  let s := (s.recordDelivery k).receiveCase code
  s.handOn cell (code = s.fmap.enquiry && cell.case == .figures)

/-- R46: the cell of the option SUBSTITUTE as it stands. -/
def State.substituteCell (s : State) : Cell :=
  let b : Byte := BitVec.ofNat 8 (s.opt .substitute)
  { code := b.setWidth 5, case := caseOfBit (b.getLsbD 5), origin := .received,
    quality := .substituted }

/-- R46, R49, R50, R51: the pending character is delivered as a substituted one; the line case is unchanged and it
is never an enquiry. -/
def State.deliverSubstituted (s : State) : State :=
  (s.recordDelivery .substituted).handOn s.substituteCell false

/-! ## Space runs -/

/-- LRX in a state. -/
def State.receiverState (s : State) (r : LrxState) : State :=
  { s with lrx := { s.lrx with state := r } }

/-- R47: the discarding of the pending character at the break threshold. -/
def State.discardPending (s : State) (char : Option PendingCharacter) : State :=
  match char with
  | some _ =>
    let q := s.lrx.quality
    (s.withQuality { q with substituted := satAdd q.substituted 1 }).poorCharacter
  | none => s

/-- R47: the run reaches the break threshold. DESIGN CHOICE (log 41): where the discarded character completes the poor run,
POOR LINE joins the queue before BREAK RECEIVED; R178 allows either order. -/
def State.reachBreak (s : State) (r : SpaceRun) : State :=
  let s := s.receiverState (.spaceRun { r with char := none, broken := true })
  let s := s.discardPending r.char
  (s.withQuality { s.lrx.quality with breaks := satAdd s.lrx.quality.breaks 1 }).takeBreak

/-- R47, R48: the break threshold is reached unless it has been already. -/
def State.ensureBreak (s : State) (r : SpaceRun) : State :=
  if r.broken then s else s.reachBreak r

/-- R46 to R48: a change to mark in a space run. One timed before the break threshold delivers the pending
character; one timed at or after it comes too late (R45), so the thresholds it has passed are reached first
(log 24). -/
def State.markInRun (s : State) (r : SpaceRun) (te : Nat) : State :=
  if te < r.breakAt ∧ !r.broken then
    let s := s.receiverState .markRest
    match r.char with
    | some _ => s.deliverSubstituted
    | none => s
  else
    let s := s.ensureBreak r
    if r.clearAt ≤ te then s.takeClear
    else (s.receiverState .markRest).takeBreakEnd

/-! ## Filtered changes -/

/-- R64: whether LTX is keying a character. -/
def Ltx.keying (l : Ltx) : Bool :=
  match l.activity with
  | .sending _ => true
  | _ => false

/-- R41, R64: a start edge. -/
def State.startEdge (s : State) (t0 : Nat) : State :=
  let s := s.receiverState (.character { t0 := t0, next := 0, code := 0, changes := [] })
  if s.ltx.keying then
    s.withQuality { s.lrx.quality with collisions := satAdd s.lrx.quality.collisions 1 }
  else s

/-- R40 to R42, R46 to R48: what LRX does with a filtered change. -/
def State.receiverChange (s : State) (level : Level) (te : Nat) : State :=
  match s.lrx.state with
  | .disabled => s
  | .markRest => if level = .space then s.startEdge te else s
  | .character a => s.receiverState (.character { a with changes := a.changes ++ [(te, level)] })
  | .spaceRun r => if level = .mark then s.markInRun r te else s

/-- R39: the filter confirms a change, known two ticks after its time. -/
def State.confirmLevel (s : State) (level : Level) (te : Nat) : State :=
  let s := s.advance (te + Config.filterTicks)
  { s with lrx := { s.lrx with
      filter := s.lrx.filter.threeSamples (level == .mark), since := te } }

/-- R39. Three samples agree on a level: a filtered change when it is opposite to the filtered level. -/
def rxFilteredChange (level : Level) (te : Nat) (s : State) : State :=
  if s.lrx.level = level then s
  else
    let s := s.confirmLevel level te
    ((s.callLevelChange level te).receiverChange level te).carryOn

/-! ## Samples -/

/-- LRX reads the next sample of the character in assembly, two ticks after its time (R41). -/
def State.atSample (s : State) (k : Nat) (act : State → Assembly → State) : State :=
  match s.lrx.state with
  | .character a =>
    if a.next = k then act (s.advance (sampleTime a.t0 s.timing.unit k + Config.filterTicks)) a else s
  | _ => s

/-- R41: the start sample: a false start, or assembly continues. -/
def State.readStart (s : State) (a : Assembly) : State :=
  if levelAt a.changes (sampleTime a.t0 s.timing.unit 0) = .mark then
    let q := s.lrx.quality
    ((s.withQuality { q with falseStarts := satAdd q.falseStarts 1 }).receiverState .markRest).carryOn
  else s.receiverState (.character { a with next := 1 })

/-- R41. The start element sample time is read. -/
def startSample (s : State) : State := s.atSample 0 State.readStart

/-- R41: a data unit's sample: its value is added when it reads mark. -/
def State.readUnit (s : State) (a : Assembly) : State :=
  let unitBit : Code := BitVec.twoPow 5 (a.next - 1)
  let code :=
    if levelAt a.changes (sampleTime a.t0 s.timing.unit a.next) = .mark then a.code ||| unitBit
    else a.code
  s.receiverState (.character { a with next := a.next + 1, code := code })

/-- R41. A data unit sample time is read. -/
def unitSample (s : State) : State :=
  match s.lrx.state with
  | .character a => if 1 ≤ a.next ∧ a.next ≤ 5 then s.atSample a.next State.readUnit else s
  | _ => s

/-- R42, R57: the turnaround guard timer starts or restarts from the stop sample time; 0 gives no guard. -/
def State.startGuard (s : State) (stopTime : Nat) : State :=
  { s with lrx := { s.lrx with
      guard := if s.timing.guard = 0 then none
               else some (stopTime + s.timing.guard * Config.tenMs) } }

/-- R42, R45: the stop sample: the character is complete, or it is held pending in SPACE-RUN. -/
def State.readStop (s : State) (a : Assembly) : State :=
  let stopTime := sampleTime a.t0 s.timing.unit 6
  let p := a.distortion s.timing.unit
  let s := (s.recordDistortion p).startGuard stopTime
  if levelAt a.changes stopTime = .mark then
    let k : Quality := if s.timing.limit < p then .doubtful else .clean
    ((s.receiverState .markRest).deliverReceived a.code k).carryOn
  else
    s.receiverState (.spaceRun (s.spaceRunFrom a.t0 (some { code := a.code, distortion := p })))

/-- R42. The stop sample is read. -/
def stopSample (s : State) : State := s.atSample 6 State.readStop

/-! ## Thresholds and the guard -/

/-- R47. A space run reaches the break threshold, judged two ticks after it. -/
def breakThreshold (s : State) : State :=
  match s.lrx.state with
  | .spaceRun r =>
    if r.broken then s else ((s.advance (r.breakAt + Config.filterTicks)).reachBreak r).carryOn
  | _ => s

/-- R48. A space run reaches the clear threshold; its BREAK event comes first. -/
def clearThreshold (s : State) : State :=
  match s.lrx.state with
  | .spaceRun r =>
    (((s.advance (r.clearAt + Config.filterTicks)).ensureBreak r).takeClear).carryOn
  | _ => s

/-- R57. The turnaround guard timer expires; deferral may end and LTX chooses. -/
def turnaroundGuardExpiry (s : State) : State :=
  s.onTimer s.lrx.guard fun s =>
    { s with lrx := { s.lrx with guard := none } }.sendChoice

end Sys2Proof.Machine
end

