-- ==== Sys2Proof/Machine/LineRows.lean ====
section
/-! DEFINITION. The rows of the line: the receiver's, the sender's, and the meaning of each (chapter 3). -/

namespace Sys2Proof.Machine

/-- What a row answers. -/
abbrev Answer := Host.Outcome State Fault Refusal

/-! ## The sender's rows -/

/-- R56, R58, R59, R63: a character has been sent. -/
def State.characterEnds (s : State) (k : Keying) : State :=
  let s := (s.advance k.due).keyingDone k
  let s := (s.present .sentCopy k.cell).1.tellSent
  (if k.source = .enquiry then s.openCapture else s).carryOn

/-- R56. The stop element of the character being keyed ends. -/
def characterSent (s : State) : State :=
  match s.ltx.activity with
  | .sending k => s.characterEnds k
  | _ => s

/-- R60. BREAK LENGTH ends; TX returns to mark and LTX chooses. -/
def breakKeyingEnd (s : State) : State :=
  match s.ltx.activity with
  | .breaking due =>
    let s := s.advance due
    { s with ltx := { s.ltx with activity := .idle } }.sendChoice
  | _ => s

/-! ## Meanings -/

/-- RX_FILTERED_CHANGE (R39). -/
def execRxFilteredChange (level : Level) (te : Nat) (s : State) : Answer :=
  .next (rxFilteredChange level te s)

/-- START_SAMPLE (R41). -/
def execStartSample (s : State) : Answer := .next (startSample s)

/-- UNIT_SAMPLE (R41). -/
def execUnitSample (s : State) : Answer := .next (unitSample s)

/-- STOP_SAMPLE (R42). -/
def execStopSample (s : State) : Answer := .next (stopSample s)

/-- BREAK_THRESHOLD (R47). -/
def execBreakThreshold (s : State) : Answer := .next (breakThreshold s)

/-- CLEAR_THRESHOLD (R48). -/
def execClearThreshold (s : State) : Answer := .next (clearThreshold s)

/-- TURNAROUND_GUARD_EXPIRY (R57). -/
def execTurnaroundGuardExpiry (s : State) : Answer := .next (turnaroundGuardExpiry s)

/-- CHARACTER_SENT (R56). -/
def execCharacterSent (s : State) : Answer := .next (characterSent s)

/-- BREAK_KEYING_END (R60). -/
def execBreakKeyingEnd (s : State) : Answer := .next (breakKeyingEnd s)

end Sys2Proof.Machine
end

