-- ==== Sys2Proof/Machine/CallRows.lean ====
section
/-! DEFINITION. The rows of the Call Controller's timers and of the motor's run-up, and the meaning of each
(R71 to R88, R163, R164). A row whose timer is not running changes nothing (log 1). -/

namespace Sys2Proof.Machine

/-! ## Recognition, offers and withdrawal -/

/-- R72: what ANSWER POLICY makes of a recognised call. -/
def State.recognise (s : State) : State :=
  match s.opt .answerPolicy with
  | 0 => (s.openRecord .incoming .answering).enterAnswering
  | 1 => (s.openRecord .incoming .offered).enterOffered
  | _ => ((s.openRecord .incoming .offered).endRecord .declined).enterReleasing

/-- R71. A mark has lasted CALL RECOGNITION in IDLE. -/
def callRecognition (s : State) : State :=
  s.onTimer s.call.recognition fun s => s.recognise.carryOn

/-- R73: an offer declined. -/
def State.declineOffer (s : State) : State := (s.endRecord .declined).enterReleasing

/-- R73: a caller has withdrawn. -/
def State.withdrawn (s : State) : State :=
  match s.call.state with
  | .offered => ((s.endRecord .withdrawn).notice .callWithdrawn).enterCall .idle
  | .answering => s.failAttempt .withdrawn
  | _ => s

/-- R73. The space has lasted 100 ms in OFFERED or ANSWERING. -/
def withdrawal (s : State) : State :=
  s.onTimer s.call.withdrawal fun s => s.withdrawn.carryOn

/-- R73. The offer timer expires: OFFER DEFAULT acts. -/
def offerTimeout (s : State) : State :=
  s.onTimer s.call.offer fun s =>
    (if s.opt .offerDefault = 0 then s.enterAnswering else s.declineOffer).carryOn

/-! ## Placed calls -/

/-- R75. The mark has lasted CALL RECOGNITION in CALLING. -/
def confirmation (s : State) : State :=
  s.onTimer s.call.markTiming fun s => s.tryConnect.carryOn

/-- R75. The confirmation timer expires: NO CONFIRM. -/
def confirmTimeout (s : State) : State :=
  s.onTimer s.call.confirm fun s => (s.failAttempt .noConfirm).carryOn

/-! ## The connection -/

/-- R77. The idle timer expires: a station clear with cause IDLE. -/
def idleTimeout (s : State) : State :=
  s.onTimer s.call.idle fun s => (s.enterClearing .idle).carryOn

/-- R78. The enquiry delay timer expires: an enquiry is requested. -/
def enquiryDelayExpiry (s : State) : State :=
  s.onTimer s.call.enquiryDelay fun s =>
    { s with call := { s.call with enquiryDelay := none } }.requestEnquiry.sendChoice

/-- R79. The capture window closes; the caller identity keeps what was collected. -/
def captureWindowExpiry (s : State) : State :=
  match s.call.capture with
  | some w =>
    let s := s.advance w.due
    { s with call := { s.call with capture := none } }
  | none => s

/-! ## Clearing and releasing -/

/-- R86. The space has lasted CLEAR RECOGNITION in CLEARING. -/
def clearingEnd (s : State) : State :=
  s.onTimer s.call.clearSpace fun s => s.endClearing.carryOn

/-- R86. The clearing timer expires. -/
def clearingTimeout (s : State) : State :=
  s.onTimer s.call.clearing fun s => s.endClearing.carryOn

/-- R88: the end of RELEASING. -/
def State.endReleasing (s : State) : State :=
  let s := s.demandCall false
  if s.call.stopPending then
    let s := s.enterCall .outOfService
    { s with call := { s.call with stopPending := false } }
  else s.enterCall .idle

/-- R88. The space has lasted 1 s in RELEASING. -/
def releasingEnd (s : State) : State :=
  s.onTimer s.call.releasing fun s => s.endReleasing.carryOn

/-! ## The motor's run-up -/

/-- R163. The run-up timer expires: RUNNING, reported to the three controllers (R164) but to one whose demand came and went
in the run-up (R165): a printer whose PRINT stands withdrawn makes no choice; the others have nothing to do then
(log 36). -/
def runUpExpiry (s : State) : State :=
  match s.motor.state with
  | .runUp due =>
    let s := s.advance due
    if s.motor.demand.isEmpty then
      { s with motor := { s.motor with state := .runOn (s.now + s.runOnTicks), printWithdrawn := false } }
    else { s with motor := { s.motor with state := .running } }.tryConnect.carryOn
  | _ => s

/-! ## Meanings -/

/-- CALL_RECOGNITION (R71, R72). -/
def execCallRecognition (s : State) : Answer := .next (callRecognition s)

/-- WITHDRAWAL (R73). -/
def execWithdrawal (s : State) : Answer := .next (withdrawal s)

/-- OFFER_TIMEOUT (R73). -/
def execOfferTimeout (s : State) : Answer := .next (offerTimeout s)

/-- CONFIRMATION (R75). -/
def execConfirmation (s : State) : Answer := .next (confirmation s)

/-- CONFIRM_TIMEOUT (R75). -/
def execConfirmTimeout (s : State) : Answer := .next (confirmTimeout s)

/-- IDLE_TIMEOUT (R77). -/
def execIdleTimeout (s : State) : Answer := .next (idleTimeout s)

/-- ENQUIRY_DELAY_EXPIRY (R78). -/
def execEnquiryDelayExpiry (s : State) : Answer := .next (enquiryDelayExpiry s)

/-- CAPTURE_WINDOW_EXPIRY (R79). -/
def execCaptureWindowExpiry (s : State) : Answer := .next (captureWindowExpiry s)

/-- CLEARING_END (R86). -/
def execClearingEnd (s : State) : Answer := .next (clearingEnd s)

/-- CLEARING_TIMEOUT (R86). -/
def execClearingTimeout (s : State) : Answer := .next (clearingTimeout s)

/-- RELEASING_END (R88). -/
def execReleasingEnd (s : State) : Answer := .next (releasingEnd s)

/-- RUN_UP_EXPIRY (R163, R164). -/
def execRunUpExpiry (s : State) : Answer := .next (runUpExpiry s)

/-- RUN_ON_EXPIRY (R163). -/
def execRunOnExpiry (s : State) : Answer := .next (runOnExpiry s)

end Sys2Proof.Machine
end

