-- ==== Sys2Proof/Machine/KeyboardControl.lean ====
section
/-! DEFINITION. The Keyboard Scanner: scanning (R148, R149), the keys by mode (R151 to R157), the change of mode
(R158), its two rows and the meaning of each. -/

namespace Sys2Proof.Machine

/-! ## Scanning -/

/-- R148: the column of a position. -/
def columnOf (p : Fin 64) : Nat := p.val / 8

/-- R148: the row of a position. -/
def rowOf (p : Fin 64) : Nat := p.val % 8

/-- R148: the column whose millisecond it is, `t` ticks after scanning started. -/
def columnStep (t : Nat) : Nat := t / Config.ms % Config.columns

/-- R148: the ticks of a column step in which all outputs are released, at least one and not the whole step (log 29). -/
def columnReleaseTicks : Nat := max 1 (min (Config.ms - 1) Config.columnRelease)

/-- R148: the column output driven as the clock stands: one at a time, and none between two steps or while scanning is
stopped. -/
def State.drivenColumn (s : State) : Option Nat :=
  s.keyboard.scanStart.bind fun t =>
    if (s.now - t) % Config.ms + columnReleaseTicks < Config.ms then some (columnStep (s.now - t))
    else none

/-- R148: the pass, counted from 0, of the step of a column that `t` ticks after the start of scanning is the running or
the next one. -/
def columnPass (column t : Nat) : Nat :=
  (t + (Config.columns - 1) * Config.ms - column * Config.ms) / (Config.columns * Config.ms)

/-- R148: the ticks from the start of scanning to the step of a column in a pass. -/
def stepTicks (pass column : Nat) : Nat := (pass * Config.columns + column) * Config.ms

/-- R149: the pass of the reading that confirms a change of a position, `t` ticks after the start of scanning: its third
agreeing reading, after the reading acted on last, in a step that has not ended. -/
def Keyboard.readingPass (k : Keyboard) (p : Fin 64) (t : Nat) : Nat :=
  max (k.thirdFrom.getD p.val 2) (max (columnPass (columnOf p) t)
    ((k.nextReading + (Config.keyPositions - 1) - p.val) / Config.keyPositions))

/-- R149: a reading has confirmed a change of a position: the next one takes three further readings, and no reading before
this one is acted on any more. -/
def Keyboard.takeReading (k : Keyboard) (p : Fin 64) (pass : Nat) : Keyboard :=
  { k with thirdFrom := k.thirdFrom.set p.val (pass + 3), nextReading := Config.keyPositions * pass + p.val + 1 }

/-- R149: the clock stands in the column step that confirms a change of a position, and that reading is taken (log 29). -/
def State.atReading (s : State) (p : Fin 64) : State :=
  match s.keyboard.scanStart with
  | some t =>
    let pass := s.keyboard.readingPass p (s.now - t)
    { s.advance (t + stepTicks pass (columnOf p)) with keyboard := s.keyboard.takeReading p pass }
  | none => s

/-- R149: the filter of a position. -/
def Keyboard.position (k : Keyboard) (p : Fin 64) : Filter :=
  k.positions.getD p.val (Filter.at false)

/-- R149: three agreeing readings of a position. -/
def State.confirmPosition (s : State) (p : Fin 64) (down : Bool) : State :=
  { s with keyboard := { s.keyboard with
      positions := s.keyboard.positions.set p.val ((s.keyboard.position p).threeSamples down) } }

/-! ## The key map -/

/-- R150: the entry of a position; every position is NONE while the key map is absent. -/
def State.keyEntry (s : State) (p : Fin 64) : KeyEntry :=
  match s.isl.keyMap with
  | some entries => entries.getD p.val .none
  | none => .none

/-- R151: LINE mode with the Call Controller CONNECTED. -/
def State.keysToLine (s : State) : Bool :=
  s.keyboard.mode == .line && s.call.state == .connected

/-! ## Code keys -/

/-- R152: the cell of a code key. -/
def State.keyCell (s : State) (c : Code) (requirement : Option Case) : Cell :=
  { code := c, case := (s.fmap.shiftCase c).getD (requirement.getD s.keyboard.kbdCase),
    origin := .loc, quality := .clean }

/-- R152: an accepted shift key sets the keyboard case. -/
def State.acceptKey (s : State) (c : Code) : State :=
  { s with keyboard := { s.keyboard with
      kbdCase := (s.fmap.shiftCase c).getD s.keyboard.kbdCase } }

/-- R153: a cell into SEND, or the bell. -/
def State.keyToSend (s : State) (cell : Cell) : State :=
  if (s.store.spoolRefusal .send).isNone then
    ({ s with store := s.store.append .send { cell := cell, stream := none } }.acceptKey
      cell.code).endHold
  else s.ringBell

/-- R153: a cell to KEYED LOCAL, or the bell when no copy was placed. -/
def State.keyToLocal (s : State) (cell : Cell) : State :=
  let p := s.present .keyedLocal cell
  if p.2.1 = 0 then p.1.ringBell else p.1.acceptKey cell.code

/-- R153: a press of a code key in LOCAL or LINE mode. -/
def State.pressCode (s : State) (c : Code) (requirement : Option Case) : State :=
  let cell := s.keyCell c requirement
  if s.keysToLine then s.keyToSend cell else s.keyToLocal cell

/-! ## The change of mode (R158) -/

/-- R158: the effects of a change from one mode to a different one. -/
def State.modeEffects (s : State) (before after : KeyboardMode) : State :=
  if before = after then s
  else
    let s := if after = .loc then
        { s.rearm .keyedLocal with punch := { s.punch with localRelease := false } }
      else s
    let s := if before = .loc ∧ s.punch.owner = some .loc then
        { s with punch := { s.punch with localRelease := true } }
      else s
    if (before = .loc ∨ before = .line) ∧ (after = .raw ∨ after = .locked) then
      { s with punch := { s.punch with feedHeld := false } }
    else s

/-- R158: the mode is set, with its effects. -/
def State.changeMode (s : State) (mode : KeyboardMode) : State :=
  let s := s.modeEffects s.keyboard.mode mode
  { s with keyboard := { s.keyboard with mode := mode } }

/-! ## Function keys -/

/-- R154: the answerback's cells as a local copy. -/
def State.answerbackCells (s : State) : List Entry :=
  s.isl.answerback.map fun p =>
    { cell := { code := p.1, case := p.2, origin := .loc, quality := .clean }, stream := none }

/-- R154: HERE-IS. -/
def State.pressHereIs (s : State) : State :=
  if s.keysToLine then s.triggerAnswerback
  else if s.isl.answerback.isEmpty then s
  else
    match s.store.batch .pLocal s.answerbackCells with
    | .ok st => { s with store := st }
    | .error _ => s.ringBell

/-- R155: BREAK. -/
def State.pressBreak (s : State) : State :=
  if s.keysToLine then s.requestBreak else s.ringBell

/-- R155: MODE toggles between LOCAL and LINE. -/
def State.pressMode (s : State) : State :=
  match s.keyboard.mode with
  | .loc => s.changeMode .line
  | .line => s.changeMode .loc
  | _ => s

/-- R141, R156: FEED. -/
def State.pressFeed (s : State) : State :=
  if s.punchTakes && s.ownerAdmits .loc then
    let s := s.claimPunch .loc
    { s with punch := { s.punch with feedHeld := true } }
  else s.ringBell

/-- R141, R156: the end of the feed. -/
def State.endFeed (s : State) : State := { s with punch := { s.punch with feedHeld := false } }

/-! ## Presses and releases -/

/-- R151: a press in LOCAL or LINE mode. -/
def State.pressKey (s : State) : KeyEntry → State
  | .none => s
  | .code c requirement => s.pressCode c requirement
  | .function .hereIs => s.pressHereIs
  | .function .brk => s.pressBreak
  | .function .mode => s.pressMode
  | .function .feed => s.pressFeed

/-- R151, R157: a press by the mode. -/
def State.actOnPress (s : State) (p : Fin 64) : State :=
  match s.keyboard.mode with
  | .raw => s.notice (.key p true)
  | .locked => s
  | _ => if s.keyEntry p = .none then s else (s.pressKey (s.keyEntry p)).carryOn

/-- R151, R156, R157: a release by the mode. -/
def State.actOnRelease (s : State) (p : Fin 64) : State :=
  match s.keyboard.mode with
  | .raw => s.notice (.key p false)
  | .locked => s
  | _ => if s.keyEntry p = .function .feed then s.endFeed.carryOn else s

/-- R148, R149, R151. The third agreeing reading of an UP position confirms a press, at the step of that reading, while the
loader is READY. -/
def confirmedPress (p : Fin 64) (s : State) : State :=
  if s.ready ∧ (s.keyboard.position p).level = some false then
    ((s.atReading p).confirmPosition p true).actOnPress p
  else s

/-- R148, R149, R151. The third agreeing reading of a DOWN position confirms a release, at the step of that reading, while
the loader is READY. -/
def confirmedRelease (p : Fin 64) (s : State) : State :=
  if s.ready ∧ (s.keyboard.position p).level = some true then
    ((s.atReading p).confirmPosition p false).actOnRelease p
  else s

/-! ## Meanings -/

/-- CONFIRMED_PRESS (R151). -/
def execConfirmedPress (p : Fin 64) (s : State) : Answer := .next (confirmedPress p s)

/-- CONFIRMED_RELEASE (R151). -/
def execConfirmedRelease (p : Fin 64) (s : State) : Answer := .next (confirmedRelease p s)

end Sys2Proof.Machine
end

