-- ==== Sys2Proof/Machine/HostCalls.lean ====
section
/-! DEFINITION. What the owners do with the commands of service, calls and the line (R54, R69, R70, R73, R74, R78,
R82 to R84, R90), and GET STATUS (R180). Each makes its checks, acts and gives the reply. -/

namespace Sys2Proof.Machine

/-- R180: the fields of GET STATUS. -/
def State.statusReport (s : State) : StatusReport :=
  { ready := s.ready, presence := s.isl.presence, call := s.call.state, motor := s.motor.state,
    printer := s.printerState, column := s.printer.column, punch := s.punchState,
    owner := s.punch.owner, mode := s.keyboard.mode, free := s.store.freeCount,
    messages := s.file.records.length, lost := s.link.lostMark }

/-- GET STATUS. -/
def getStatus (s : State) : State := s.accept 0x01 (.status s.statusReport)

/-! ## Service -/

/-- STOP SERVICE pending is set or cleared (R68). -/
def State.withStop (s : State) (pending : Bool) : State :=
  { s with call := { s.call with stopPending := pending } }

/-- START SERVICE (R69). -/
def startService (s : State) : State :=
  match s.call.state with
  | .outOfService => (s.enterCall .idle).accept 0x02 .done
  | .clearing | .releasing =>
    if s.call.stopPending then (s.withStop false).accept 0x02 .done else s.refuse 0x02 .wrongState
  | _ => s.refuse 0x02 .wrongState

/-- R70: the effect of STOP SERVICE, and whether its result is PENDING. -/
def State.stopEffect (s : State) : State × Bool :=
  match s.call.state with
  | .outOfService => (s, false)
  | .idle => (s.enterCall .outOfService, false)
  | .offered => ((s.endRecord .stopService).enterCall .outOfService, false)
  | .answering =>
    ((((s.demandCall false).endRecord .stopService).enterCall .outOfService).carryOn, false)
  | .calling | .connected => (((s.withStop true).enterClearing .stopService).carryOn, true)
  | .clearing | .releasing => (s.withStop true, true)

/-- STOP SERVICE (R70). -/
def stopService (s : State) : State :=
  s.stopEffect.1.accept 0x03 (.stopService s.stopEffect.2)

/-! ## Offers, placed calls and clears -/

/-- ACCEPT CALL (R73). -/
def acceptCall (s : State) : State :=
  if s.call.state = .offered then s.enterAnswering.carryOn.accept 0x0B .done
  else s.refuse 0x0B .wrongState

/-- DECLINE CALL (R73). -/
def declineCall (s : State) : State :=
  if s.call.state = .offered then s.declineOffer.carryOn.accept 0x0C .done
  else s.refuse 0x0C .wrongState

/-- R74: CALLING, with the CALL demand placed and the confirmation timer running; a mark that has lasted counts
(R75). -/
def State.enterCalling (s : State) : State :=
  let s := ((s.openRecord .placed .calling).enterCall .calling).demandCall true
  let s := { s with call := { s.call with
    confirm := some (s.now + s.opt .confirmTime * Config.second), markTiming := s.markDue } }
  s.tryConnect

/-- PLACE CALL (R74). -/
def placeCall (s : State) : State :=
  if s.call.state = .idle then s.enterCalling.carryOn.accept 0x0D .done
  else s.refuse 0x0D .wrongState

/-- CLEAR CALL (R73, R84). -/
def clearCall (s : State) : State :=
  match s.call.state with
  | .connected | .calling => (s.enterClearing .station).carryOn.accept 0x0E .done
  | .answering => (s.failAttempt .station).carryOn.accept 0x0E .done
  | _ => s.refuse 0x0E .wrongState

/-! ## The connection -/

/-- SEND ANSWERBACK (R82). -/
def sendAnswerback (s : State) : State :=
  if s.call.state = .connected then
    (if s.answerbackResult = .started then s.triggerAnswerback.carryOn else s).accept 0x0F
      (.answerback s.answerbackResult)
  else s.refuse 0x0F .wrongState

/-- SEND ENQUIRY (R78). -/
def sendEnquiry (s : State) : State :=
  if s.call.state = .connected then s.requestEnquiry.carryOn.accept 0x10 .done
  else s.refuse 0x10 .wrongState

/-- SEND BREAK (R83). -/
def sendBreak (s : State) : State :=
  if s.call.state = .connected then s.requestBreak.carryOn.accept 0x11 .done
  else s.refuse 0x11 .wrongState

/-- RESUME SEND (R83). -/
def resumeSend (s : State) : State :=
  if s.call.state = .connected then
    (if s.ltx.hold then s.endHold.carryOn else s).accept 0x12 (.resumed s.ltx.hold)
  else s.refuse 0x12 .wrongState

/-! ## Reports -/

/-- R90: every field of the call record, and the Call Controller's state. -/
def State.callReport (s : State) : CallReport :=
  let r := s.call.record
  { state := s.call.state, kind := r.kind, recordState := r.state, outcome := r.outcome,
    elapsed := r.seconds s.now, received := r.received, sent := r.sent, breaks := r.breaks,
    lineCase := r.lineCase, caller := r.caller }

/-- GET CALL (R90). -/
def getCall (s : State) : State := s.accept 0x13 (.call s.callReport)

/-- GET LINE QUALITY (R54). -/
def getLineQuality (clear : Byte) (s : State) : State :=
  match flagOf clear with
  | none => s.refuse 0x14 .badValue
  | some c =>
    (if c then s.withQuality LineQuality.zero else s).accept 0x14
      (.lineQuality s.lrx.quality s.lrx.poorRun)

end Sys2Proof.Machine
end

