-- ==== Sys2Proof/Machine/HostText.lean ====
section
/-! DEFINITION. What the owners do with the commands of the routes (R34 to R37), the spools (R181, R182) and the
Message File (R101 to R107), and the copying of a replay (R106). -/

namespace Sys2Proof.Machine

/-! ## Routes -/

/-- R34: the fields of SET ROUTE as they are accepted. -/
structure RouteFields where
  route : RouteName
  destinations : Destinations
  printStandIn : Option Place
  punchStandIn : Option Place
  reload : Nat
  action : QuotaAction
  deriving DecidableEq, Repr

/-- R34: the fields of SET ROUTE, `none` when one of them is a bad value. -/
def routeFields (route destinations printStandIn punchStandIn : Byte) (reload : Word16)
    (action : Byte) : Option RouteFields :=
  match routeOf route, quotaActionOf action with
  | some r, some a =>
    (match destinationsFor r destinations, standInFor r (printStandInOf printStandIn),
      standInFor r (punchStandInOf punchStandIn) with
    | some d, some p, some q =>
      some { route := r, destinations := d, printStandIn := p, punchStandIn := q,
             reload := reload.toNat, action := a }
    | _, _, _ => none)
  | _, _ => none

/-- R35: the record as SET ROUTE writes it; a busy source keeps its counter and state. -/
def Route.written (r : Route) (f : RouteFields) (busy : Bool) : Route :=
  { r with
    destinations := f.destinations, printStandIn := f.printStandIn, punchStandIn := f.punchStandIn,
    reload := f.reload, action := f.action,
    counter := if busy then r.counter else f.reload,
    state := if busy then r.state else .active }

/-- SET ROUTE (R34, R35). -/
def setRoute (route destinations printStandIn punchStandIn : Byte) (reload : Word16) (action : Byte)
    (s : State) : State :=
  match routeFields route destinations printStandIn punchStandIn reload action with
  | none => s.refuse 0x06 .badValue
  | some f =>
    let busy := s.sourceBusy f.route
    let r := (s.routes.get f.route).written f busy
    { s with routes := s.routes.put f.route r }.accept 0x06
      (.routeSet f.route r.counter r.state busy)

/-- R36: the placed and lost counts cleared. -/
def Route.cleared (r : Route) : Route := { r with placed := 0, lost := 0 }

/-- GET ROUTE (R36). -/
def getRoute (route clear : Byte) (s : State) : State :=
  match routeOf route, flagOf clear with
  | some n, some c =>
    let r := s.routes.get n
    (if c then { s with routes := s.routes.put n r.cleared } else s).accept 0x07
      (.routeReport n r (s.sourceBusy n))
  | _, _ => s.refuse 0x07 .badValue

/-- REARM ROUTE (R37). -/
def rearmRoute (route : Byte) (s : State) : State :=
  match routeOf route with
  | some n =>
    let r := (s.routes.get n).rearm
    (s.rearm n).accept 0x08 (.routeRearmed n r.counter r.state)
  | none => s.refuse 0x08 .badValue

/-! ## Spools -/

/-- R181: the spool of a target. -/
def SubmitTarget.spool : SubmitTarget → SpoolName
  | .send => .send
  | .print => .pSubmit
  | .punch => .punch

/-- R181: the stream a target's cells carry. -/
def SubmitTarget.stream : SubmitTarget → Option Stream
  | .punch => some .submitted
  | _ => none

/-- R181, R134: an unowned punch is claimed for SUBMITTED. -/
def State.claimFor (s : State) (t : SubmitTarget) : State :=
  match t with
  | .punch => s.claimPunch .submitted
  | _ => s

/-- R181, checks 3 and 4. -/
def State.submitRefusal (s : State) (t : SubmitTarget) : Option Reason :=
  match t with
  | .send => if s.call.state = .connected then none else some .wrongState
  | .print => none
  | .punch => if s.ownerAdmits .submitted then none else some .punchBusy

/-- R181: check 5 and the batch, one action. The choices it brings come after it (log 13). -/
def State.submitCells (s : State) (t : SubmitTarget) (cells : List Cell) : State :=
  let es := cells.map fun c => ({ cell := c, stream := t.stream } : Entry)
  match s.store.batch t.spool es with
  | .error capacity => s.refuse 0x09 (.full capacity)
  | .ok st =>
    let s := { s.claimFor t with store := st }
    (s.accept 0x09 (.submitted t (st.capacity t.spool))).carryOn

/-- SUBMIT TEXT (R181). -/
def submitText (target : Byte) (bytes : List Byte) (s : State) : State :=
  match submitTargetOf target, bytes.mapM submittedCell with
  | some t, some cells =>
    (match s.submitRefusal t with
    | some r => s.refuse 0x09 r
    | none => s.submitCells t cells)
  | _, _ => s.refuse 0x09 .badValue

/-- R116: the emptying of a print spool drops a commitment to its head cell. -/
def State.dropPrintCommitment (s : State) (n : PrintSpool) : State :=
  if s.printer.current = some n then { s with printer := { s.printer with committed := false } }
  else s

/-- R145: what CLEAR SPOOL PUNCH does to a LOCAL or SUBMITTED owner, and to a commitment. -/
def State.dropPunchWork (s : State) : State :=
  let p := { s.punch with committed := false }
  if p.owner = some .loc ∨ p.owner = some .submitted then
    { s with punch := { p with feedRequest := none, feedHeld := false, clearRelease := true } }
  else { s with punch := p }

/-- R182: how the drainer's owner takes the emptying of a spool. -/
def State.spoolEmptied (s : State) (n : SpoolName) : State :=
  match n with
  | .pLine => s.dropPrintCommitment .pLine
  | .pLocal => s.dropPrintCommitment .pLocal
  | .pSubmit => s.dropPrintCommitment .pSubmit
  | .punch => s.dropPunchWork
  | .send => s

/-- CLEAR SPOOL (R182). -/
def clearSpool (spool : Byte) (s : State) : State :=
  match spoolOf spool with
  | none => s.refuse 0x0A .badValue
  | some n =>
    let e := s.store.emptySpool n
    let s := { s with store := e.2 }.spoolEmptied n
    (s.accept 0x0A (.spoolCleared n e.1 e.2.freeCount)).carryOn

/-! ## Reading the file -/

/-- LIST MESSAGES (R101). -/
def listMessages (start : Byte) (s : State) : State :=
  s.accept 0x15 (.messageList s.file.records.length
    (((s.file.records.drop start.toNat).take 4).map fun m => m.summary s.now))

/-- R102: the replay of a record, when one is in progress. -/
def File.replayOf (f : File) (number : Nat) : Option Replay :=
  f.replay.filter fun r => r.number == number

/-- GET MESSAGE (R102). The cells copied of a record that is not REPLAYING are a free value (log 11). -/
def getMessage (number : Byte) (s : State) : State :=
  match s.file.find number.toNat with
  | none => s.refuse 0x16 .noSuch
  | some m =>
    match s.file.replayOf m.number with
    | some r =>
      s.accept 0x16 (.message (m.summary s.now) m.caller (some r.target)
        (BitVec.ofNat 16 r.position))
    | none =>
      { s with freeIndex := s.freeIndex + 1 }.accept 0x16
        (.message (m.summary s.now) m.caller none (Config.cellsCopied s.freeIndex))

/-- FETCH MESSAGE (R103; the order of its two checks is log 12). -/
def fetchMessage (number : Byte) (offset : Word16) (count : Byte) (s : State) : State :=
  if count.toNat = 0 ∨ 40 < count.toNat then s.refuse 0x17 .badValue
  else
    match s.file.find number.toNat with
    | none => s.refuse 0x17 .noSuch
    | some m =>
      s.accept 0x17 (.messageCells m.number m.state m.cells.length offset
        ((m.cells.drop offset.toNat).take count.toNat))

/-! ## Deleting and replay -/

/-- R13, R104: the record leaves the file and its chain's blocks return, first block first. -/
def State.deleteRecord (s : State) (m : Message) : State :=
  { s with
    store := { s.store with free := returnBlocks m.chain s.store.free }
    file := { s.file with records := s.file.records.filter fun r => r.number != m.number } }

/-- DELETE MESSAGE (R104). -/
def deleteMessage (number : Byte) (s : State) : State :=
  match s.file.find number.toNat with
  | none => s.refuse 0x18 .noSuch
  | some m =>
    match m.state with
    | .receiving => s.refuse 0x18 .wrongState
    | .replaying => s.refuse 0x18 .busy
    | .filed =>
      let s := s.deleteRecord m
      s.accept 0x18 (.messageDeleted s.store.freeCount s.file.records.length)

/-- R105: a replay begins. -/
def State.beginReplay (s : State) (m : Message) (t : ReplayTarget) : State :=
  { s with file := { s.file.replace { m with state := .replaying } with
      replay := some { number := m.number, target := t, position := 0 } } }

/-- R105, checks 3 to 5. -/
def State.replayRefusal (s : State) (m : Message) (t : ReplayTarget) : Option Reason :=
  if s.file.replay.isSome then some .busy
  else if m.state = .receiving then some .wrongState
  else if t = .punch ∧ !s.ownerAdmits .submitted then some .punchBusy
  else none

/-- REPLAY MESSAGE (R105). -/
def replayMessage (number target : Byte) (s : State) : State :=
  match replayTargetOf target with
  | none => s.refuse 0x19 .badValue
  | some t =>
    match s.file.find number.toNat with
    | none => s.refuse 0x19 .noSuch
    | some m =>
      match s.replayRefusal m t with
      | some r => s.refuse 0x19 r
      | none => (s.beginReplay m t).accept 0x19 (.replayStarted m.number m.cells.length)

/-- CANCEL REPLAY (R107). -/
def cancelReplay (s : State) : State :=
  match s.file.replay with
  | none => s.refuse 0x1A .wrongState
  | some r =>
    ({ s with file := s.file.endReplay }.notice (.replayDone r.number false r.position)).accept 0x1A
      (.replayCancelled r.number r.position)

/-- R106: the cell at the replay's position. -/
def File.replayNext (f : File) (r : Replay) : Option (Message × Cell) :=
  (f.find r.number).bind fun m => (m.cells[r.position]?).map fun c => (m, c)

/-- R106. The replay copies its next cell when its target can take it; otherwise it waits. -/
def replayCopy (s : State) : State :=
  match s.file.replay with
  | none => s
  | some r =>
    match s.file.replayNext r with
    | none => s
    | some (m, c) =>
      if s.replayTakes r.target then
        ((s.replayCell r.target c).advanceReplay r m.cells.length).carryOn
      else s

/-- REPLAY_COPY (R106). -/
def execReplayCopy (s : State) : Answer := .next (replayCopy s)

end Sys2Proof.Machine
end

