-- ==== Sys2Proof/Machine/MechanismRows.lean ====
section
/-! DEFINITION. The rows of the mechanisms: cycle phases (R118, R139), settles (R167 to R169), paper and tape
(R124 to R127, R142), the hold-wait (R114) and the punch's release timer (R137), and the meaning of each. -/

namespace Sys2Proof.Machine

/-! ## The phases of a cycle -/

/-- The print cycle in flight goes on to a phase. -/
def State.printPhase (s : State) (c : PrintCycle) (p : PrintPhase) : State :=
  { s with printer := { s.printer with cycle := some { c with phase := p } } }

/-- The punch cycle in flight goes on to a phase. -/
def State.punchPhase (s : State) (c : PunchCycle) (p : PunchPhase) : State :=
  { s with punch := { s.punch with cycle := some { c with phase := p } } }

/-- R118: the strike begins; a BELL cycle asks for a bell pulse (R120). -/
def State.beginStrike (s : State) (c : PrintCycle) : State :=
  let s := s.printPhase c (.strike (s.now + c.strikePulse * Config.ms))
  if c.reading = .bell then s.ringBell else s

/-- R118. SELECT DELAY ends and the strike output is driven. -/
def selectEnd (s : State) : State :=
  match s.printer.cycle with
  | some c =>
    (match c.phase with
    | .select due => (s.advance due).beginStrike c
    | _ => s)
  | none => s

/-- R118, R167. STRIKE PULSE ends; the outputs are released and the settle begins. -/
def strikeEnd (s : State) : State :=
  match s.printer.cycle with
  | some c =>
    (match c.phase with
    | .strike due =>
      ((s.advance due).printPhase c .settle).beginSettle .printer c.mode c.programmed c.extra
    | _ => s)
  | none => s

/-- R139. PUNCH PULSE ends; the magnets and the punch drive are released and the feed drive is driven. -/
def punchPulseEnd (s : State) : State :=
  match s.punch.cycle with
  | some c =>
    (match c.phase with
    | .punch due =>
      let s := s.advance due
      s.punchPhase c (.feed (s.now + c.feedPulse * Config.ms))
    | _ => s)
  | none => s

/-- R139, R167. FEED PULSE ends and the settle begins. -/
def feedPulseEnd (s : State) : State :=
  match s.punch.cycle with
  | some c =>
    (match c.phase with
    | .feed due =>
      ((s.advance due).punchPhase c .settle).beginSettle .punch c.mode c.programmed c.extra
    | _ => s)
  | none => s

/-! ## The end of a settle -/

/-- The one report of a settle to its mechanism's controller (R167). -/
def State.report (s : State) (m : Mechanism) (fault : Bool) : State :=
  match m with
  | .printer =>
    (match s.printer.cycle with
    | some c => (s.finishPrintCycle c fault).carryOn
    | none => s)
  | .punch =>
    (match s.punch.cycle with
    | some c => (s.finishPunchCycle c fault).carryOn
    | none => s)

/-- R167: the settle ends at `elapsed` milliseconds with a report. -/
def State.endSettle (s : State) (m : Mechanism) (elapsed : Nat) (fault : Bool) : State :=
  (s.settleAt m elapsed .idle).report m fault

/-- R168. FIXED mode: the programmed time is reached. -/
def settleFixedEnd (m : Mechanism) (s : State) : State :=
  let r := s.settle m
  if r.phase = .settling ∧ r.mode = .fixed then s.endSettle m r.programmed false else s

/-- R168. SAMPLED mode: MECH-BUSY is read at the programmed time. -/
def settleSampledReading (m : Mechanism) (busy : Bool) (s : State) : State :=
  let r := s.settle m
  if r.phase = .settling ∧ r.mode = .sampled then
    if busy ∧ r.extra ≠ 0 then s.settleAt m r.programmed .adding
    else s.endSettle m r.programmed false
  else s

/-- R168. SAMPLED mode: the programmed time plus extra is reached. -/
def settleAddEnd (m : Mechanism) (s : State) : State :=
  let r := s.settle m
  if r.phase = .adding then s.endSettle m (r.programmed + r.extra) false else s

/-- R169: the elapsed time of the next reading in EXTENDED mode, a millisecond after the last; `none` when there is none
to come. -/
def Settle.nextReading (r : Settle) : Option Nat :=
  match r.mode, r.phase with
  | .extended, .settling => some r.programmed
  | .extended, .extending => some (r.reached + 1)
  | _, _ => none

/-- R169. EXTENDED mode: MECH-BUSY is read at a millisecond. -/
def extendedReading (m : Mechanism) (busy : Bool) (s : State) : State :=
  let r := s.settle m
  match r.nextReading with
  | none => s
  | some elapsed =>
    if !busy then s.endSettle m elapsed false
    else if r.programmed + Config.extensionLimit ≤ elapsed then s.endSettle m elapsed true
    else s.settleAt m elapsed .extending

/-! ## The hold-wait and the release timer -/

/-- R114. The hold-wait timer expires: a cut-in when a rival waits, else EXPIRED. -/
def holdWaitExpiry (s : State) : State :=
  match s.printer.holdWait with
  | .waiting due =>
    let s := s.advance due
    if s.rivalWaits then { s with printer := s.printer.cutIn }.carryOn
    else { s with printer := { s.printer with holdWait := .expired } }
  | _ => s

/-- R137. The release timer expires and the punch is released. -/
def releaseTimerExpiry (s : State) : State :=
  s.onTimer s.punch.releaseTimer fun s => s.releasePunch.carryOn

/-! ## Paper -/

/-- R125: the paper setting becomes ABSENT. -/
def State.paperGone (s : State) : State :=
  let before := s.printerState
  ({ s with printer := { s.printer with paper := false } }.noticeNoPaper before).carryOn

/-- R124: what a filtered change of paper-out timed `te` does to the paper setting. -/
def State.paperOutTaken (s : State) (asserted : Bool) (te : Nat) : State :=
  if asserted then
    if s.printer.paper then s.paperGone
    else { s with printer := { s.printer with restore := none } }
  else if s.printer.paper then s
  else { s with printer := { s.printer with restore := some (te + Config.restore) } }

/-- R124. Three samples of paper-out agree, 20 ms from first to last. -/
def paperOutChange (asserted : Bool) (te : Nat) (s : State) : State :=
  if s.printer.paperOut.level = some (!asserted) then
    let s := s.advance (te + Config.inputFilterTicks)
    let f := s.printer.paperOut.threeSamples asserted
    { s with printer := { s.printer with paperOut := f } }.paperOutTaken asserted te
  else s

/-- R126. The paper restore timer expires. DESIGN CHOICE (log 34): the notice shows the state before the choice that
follows it. -/
def paperRestoreExpiry (s : State) : State :=
  s.onTimer s.printer.restore fun s =>
    ({ s with printer := { s.printer with
        paper := true, restore := none, newlineOwed := .crAndLf } }.printerNotice .paperRestored).carryOn

/-- R127. Three samples of paper-low agree. -/
def paperLowChange (asserted : Bool) (te : Nat) (s : State) : State :=
  if s.printer.paperLow.level = some (!asserted) then
    let s := s.advance (te + Config.inputFilterTicks)
    let f := s.printer.paperLow.threeSamples asserted
    { s with printer := { s.printer with paperLow := f } }.printerNotice
      (if asserted then .paperLow else .paperLowCleared)
  else s

/-! ## Tape -/

/-- R142: the tape setting becomes ABSENT. -/
def State.tapeGone (s : State) : State :=
  let before := s.punchState
  (({ s with punch := { s.punch with tape := false } }.noticeTapeOut before).dropFeedHeld).carryOn

/-- R142: what a filtered change of tape-out timed `te` does to the tape setting. -/
def State.tapeOutTaken (s : State) (asserted : Bool) (te : Nat) : State :=
  if asserted then
    if s.punch.tape then s.tapeGone
    else { s with punch := { s.punch with restore := none } }
  else if s.punch.tape then s
  else { s with punch := { s.punch with restore := some (te + Config.restore) } }

/-- R142. Three samples of tape-out agree, 20 ms from first to last. -/
def tapeOutChange (asserted : Bool) (te : Nat) (s : State) : State :=
  if s.punch.tapeOut.level = some (!asserted) then
    let s := s.advance (te + Config.inputFilterTicks)
    let f := s.punch.tapeOut.threeSamples asserted
    { s with punch := { s.punch with tapeOut := f } }.tapeOutTaken asserted te
  else s

/-- R142. The tape restore timer expires. DESIGN CHOICE (log 34): the notice shows the state before the choice that
follows it. -/
def tapeRestoreExpiry (s : State) : State :=
  s.onTimer s.punch.restore fun s =>
    ({ s with punch := { s.punch with
        tape := true, restore := none, tapeCase := .unknown } }.punchNotice .tapeRestored).carryOn

/-- R142. Three samples of tape-low agree. -/
def tapeLowChange (asserted : Bool) (te : Nat) (s : State) : State :=
  if s.punch.tapeLow.level = some (!asserted) then
    let s := s.advance (te + Config.inputFilterTicks)
    let f := s.punch.tapeLow.threeSamples asserted
    { s with punch := { s.punch with tapeLow := f } }.punchNotice
      (if asserted then .tapeLow else .tapeLowCleared)
  else s

/-! ## The start of a filter -/

/-- R124, R142: the filter of an input. -/
def State.inputFilter (s : State) : InputPin → Filter
  | .paperOut => s.printer.paperOut
  | .paperLow => s.printer.paperLow
  | .tapeOut => s.punch.tapeOut
  | .tapeLow => s.punch.tapeLow

/-- R124, R142: a filter takes its starting level; paper-out and tape-out deasserted make the setting PRESENT,
without the effects of a restoration. -/
def State.startFilter (s : State) (input : InputPin) (asserted : Bool) : State :=
  let f := (s.inputFilter input).threeSamples asserted
  match input with
  | .paperOut => { s with printer := { s.printer with paperOut := f, paper := !asserted } }
  | .paperLow => { s with printer := { s.printer with paperLow := f } }
  | .tapeOut => { s with punch := { s.punch with tapeOut := f, tape := !asserted } }
  | .tapeLow => { s with punch := { s.punch with tapeLow := f } }

/-- R124, R142. The first three samples of an input that agree. -/
def inputFilterStart (input : InputPin) (asserted : Bool) (s : State) : State :=
  if (s.inputFilter input).level = none then (s.startFilter input asserted).carryOn else s

/-! ## Meanings -/

/-- SELECT_END (R118). -/
def execSelectEnd (s : State) : Answer := .next (selectEnd s)

/-- STRIKE_END (R118). -/
def execStrikeEnd (s : State) : Answer := .next (strikeEnd s)

/-- PUNCH_PULSE_END (R139). -/
def execPunchPulseEnd (s : State) : Answer := .next (punchPulseEnd s)

/-- FEED_PULSE_END (R139). -/
def execFeedPulseEnd (s : State) : Answer := .next (feedPulseEnd s)

/-- SETTLE_FIXED_END (R168). -/
def execSettleFixedEnd (m : Mechanism) (s : State) : Answer := .next (settleFixedEnd m s)

/-- SETTLE_SAMPLED_READING (R168). -/
def execSettleSampledReading (m : Mechanism) (busy : Bool) (s : State) : Answer :=
  .next (settleSampledReading m busy s)

/-- SETTLE_ADD_END (R168). -/
def execSettleAddEnd (m : Mechanism) (s : State) : Answer := .next (settleAddEnd m s)

/-- EXTENDED_READING (R169). -/
def execExtendedReading (m : Mechanism) (busy : Bool) (s : State) : Answer :=
  .next (extendedReading m busy s)

/-- BELL_TIMER_EXPIRY (R171). -/
def execBellTimerExpiry (s : State) : Answer := .next (bellTimerExpiry s)

/-- HOLD_WAIT_EXPIRY (R114). -/
def execHoldWaitExpiry (s : State) : Answer := .next (holdWaitExpiry s)

/-- RELEASE_TIMER_EXPIRY (R137). -/
def execReleaseTimerExpiry (s : State) : Answer := .next (releaseTimerExpiry s)

/-- PAPER_OUT_CHANGE (R124). -/
def execPaperOutChange (asserted : Bool) (te : Nat) (s : State) : Answer :=
  .next (paperOutChange asserted te s)

/-- PAPER_RESTORE_EXPIRY (R126). -/
def execPaperRestoreExpiry (s : State) : Answer := .next (paperRestoreExpiry s)

/-- PAPER_LOW_CHANGE (R127). -/
def execPaperLowChange (asserted : Bool) (te : Nat) (s : State) : Answer :=
  .next (paperLowChange asserted te s)

/-- INPUT_FILTER_START (R124, R142). -/
def execInputFilterStart (input : InputPin) (asserted : Bool) (s : State) : Answer :=
  .next (inputFilterStart input asserted s)

/-- TAPE_OUT_CHANGE (R142). -/
def execTapeOutChange (asserted : Bool) (te : Nat) (s : State) : Answer :=
  .next (tapeOutChange asserted te s)

/-- TAPE_RESTORE_EXPIRY (R142). -/
def execTapeRestoreExpiry (s : State) : Answer := .next (tapeRestoreExpiry s)

/-- TAPE_LOW_CHANGE (R142). -/
def execTapeLowChange (asserted : Bool) (te : Nat) (s : State) : Answer :=
  .next (tapeLowChange asserted te s)

end Sys2Proof.Machine
end

