-- ==== Sys2Proof/Machine/HostMechanisms.lean ====
section
/-! DEFINITION. What the owners do with the commands of the printer (R129, R130), the punch (R137, R141, R144, R145)
and the keyboard mode (R159). A reply's mechanism state is the state after the command with the choice it makes
(log 13). -/

namespace Sys2Proof.Machine

/-! ## Printer -/

/-- The hold setting (R110). -/
def State.withHold (s : State) (h : Bool) : State := { s with printer := { s.printer with hold := h } }

/-- PRINTER HOLD (R129). -/
def printerHold (s : State) : State :=
  let t := (s.withHold true).carryOn
  t.accept 0x1B (.printerHold t.printerState s.printer.hold)

/-- PRINTER RELEASE (R129). -/
def printerRelease (s : State) : State :=
  let t := (s.withHold false).carryOn
  t.accept 0x1C (.printerHold t.printerState s.printer.hold)

/-- R130: PRINTER RESET acts at once, with the choice made after it, or at the end of the cycle in flight. -/
def State.resetPrinter (s : State) : State :=
  if s.printer.cycle.isSome then { s with printer := { s.printer with resetPending := true } }
  else ({ s with printer := s.printer.resetSteps }.noticeNoPaper s.printerState).tellPrinter

/-- PRINTER RESET (R130). -/
def printerReset (s : State) : State :=
  s.resetPrinter.carryOn.accept 0x1D (.printerReset s.printer.fault)

/-! ## Punch -/

/-- The switch (R133). -/
def State.withSwitch (s : State) (on : Bool) : State :=
  { s with punch := { s.punch with switch := on } }

/-- R144: the switch set, with what entry to TAPE OUT or OFF brings. -/
def State.setSwitch (s : State) (on : Bool) : State :=
  ((s.withSwitch on).noticeTapeOut s.punchState).dropFeedHeld

/-- PUNCH ON (R144). -/
def punchOn (s : State) : State :=
  let t := (s.setSwitch true).carryOn
  t.accept 0x1E (.punchSwitch t.punchState s.punch.switch)

/-- PUNCH OFF (R144). -/
def punchOff (s : State) : State :=
  let t := (s.setSwitch false).carryOn
  t.accept 0x1F (.punchSwitch t.punchState !s.punch.switch)

/-- R141: a feed request behind the cells spooled now. -/
def State.requestFeed (s : State) (blanks : Nat) : State :=
  let s := s.claimPunch .submitted
  { s with punch := { s.punch with
      feedRequest := some { blanks := blanks, ahead := s.store.punch.cellCount } } }

/-- PUNCH FEED (R141). -/
def punchFeed (count : Byte) (s : State) : State :=
  if count.toNat = 0 then s.refuse 0x20 .badValue
  else if !s.ownerAdmits .submitted then s.refuse 0x20 .punchBusy
  else if s.punch.feedRequest.isSome then s.refuse 0x20 .busy
  else
    ((s.requestFeed count.toNat).accept 0x20 (.feedAhead s.store.punch.cellCount)).carryOn

/-- PUNCH RELEASE (R137). -/
def punchRelease (s : State) : State :=
  match s.punch.owner with
  | none => s.accept 0x21 (.punchRelease .notOwned)
  | some .submitted =>
    if s.punchAtRest then s.releasePunch.carryOn.accept 0x21 (.punchRelease .released)
    else
      { s with punch := { s.punch with submittedRelease := true } }.accept 0x21
        (.punchRelease .pending)
  | some _ => s.refuse 0x21 .punchBusy

/-- R145: the steps of PUNCH RESET at the punch itself; a cycle in flight goes on muted, and the reset acts again after its
report (R170). -/
def Punch.resetSteps (p : Punch) : Punch :=
  { p with
    owner := none, leader := 0, lineRelease := .none, localRelease := false,
    submittedRelease := false, clearRelease := false, releaseTimer := none, feedRequest := none,
    feedHeld := false, committed := false, tapeCase := .unknown, fault := false,
    cycle := p.cycle.map fun c => { c with muted := true } }

/-- R145: PUNCH RESET, with the PUNCH spool emptied. With a cycle in flight its steps are taken at once, and what they clear
of that cycle's own effects is cleared after its report (R145, R170; log 37). -/
def State.resetPunch (s : State) : State :=
  { s with store := (s.store.emptySpool .punch).2, punch := s.punch.resetSteps }.noticeTapeOut
    s.punchState

/-- PUNCH RESET (R145). -/
def punchReset (s : State) : State :=
  s.resetPunch.carryOn.accept 0x22
    (.punchReset s.store.punch.cellCount s.punch.owner s.punch.fault)

/-! ## Keyboard mode -/

/-- SET KEYBOARD MODE (R159). -/
def setKeyboardMode (mode : Byte) (s : State) : State :=
  match modeOf mode with
  | none => s.refuse 0x23 .badValue
  | some m =>
    if (m = .loc ∨ m = .line) ∧ s.isl.keyMap.isNone then s.refuse 0x23 .wrongState
    else (s.changeMode m).carryOn.accept 0x23 (.keyboardMode s.keyboard.mode m)

end Sys2Proof.Machine
end

