-- ==== Sys2Proof/Machine/Loader.lean ====
section
/-! DEFINITION. The Identity Store Loader: power-on and the RESET pin (R184), byte 0 and the end of a load (R184 to
R187), the options (R189), the store commands (R190), RELOAD (R191) and RESTART (R192). -/

namespace Sys2Proof.Machine

/-! ## Power-on and the RESET pin -/

/-- R184. Power is applied: every block takes its power-on values and the loader begins. -/
def powerOn (straps : BitVec 2) (s : State) : State :=
  State.powerOnValues .powerOn straps s.link.holdOff s.now s.freeIndex s.pending

/-- R184, R187. The RESET pin: as power-on, abandoning any load or store operation. -/
def resetPin (straps : BitVec 2) (s : State) : State :=
  State.powerOnValues .resetPin straps s.link.holdOff s.now s.freeIndex s.pending

/-! ## Byte 0 -/

/-- R184: the store presence and load kind that byte 0 gives. -/
def byte0Result : Option Byte → Presence × LoadKind
  | none => (.absent, .none)
  | some b => (.present, if b = 0xA1 then .basic else if b = 0xA2 then .full else .none)

/-- R184. The read of byte 0 completes, or is not acknowledged. -/
def storeByte0Read (byte : Option Byte) (s : State) : State :=
  match s.isl.loader with
  | .loading l =>
    if l.byte0Read then s
    else
      { s with isl := { s.isl with
          loader := .loading { l with byte0Read := true }
          presence := (byte0Result byte).1, loadKind := (byte0Result byte).2 } }
  | .ready => s

/-! ## The end of a load -/

/-- What a load takes, by its occasion (R184, R192). -/
def State.loaded (s : State) (l : Loading) (image : List Byte) : Loaded :=
  match l.occasion with
  | .restart => loadOptionsSection s.isl.presence s.isl.loadKind image
  | _ => loadImage s.isl.presence s.isl.loadKind image

/-- R184, R187, R192: the loader's items take the load; RESTART keeps function map, answerback and key map. -/
def Isl.take (i : Isl) (occasion : LoadOccasion) (l : Loaded) : Isl :=
  let i := { i with presence := l.presence, loadKind := l.kind, defaulted := l.defaulted,
                    options := l.options }
  match occasion with
  | .restart => i
  | _ => { i with functionMap := l.functionMap, answerback := l.answerback, keyMap := l.keyMap }

/-- R160: the keyboard mode after a load. -/
def State.loadedMode (s : State) : KeyboardMode :=
  if s.isl.keyMap.isSome then keyboardModeOf (s.opt .keyboardMode) else .raw

/-- R66, R121, R22: the values handed to the line, the printer and the Route Table. -/
def State.handOverValues (s : State) (l : Loaded) : State :=
  { s with timing := timingOf s.isl.options, routes := l.routes,
           printer := s.printer.takeWidth (s.opt .lineWidth) }

/-- R148, R158, R160: the keyboard's mode after a load, measured from the mode held before it, and scanning from
column 0. -/
def State.handOverKeyboard (s : State) (before : KeyboardMode) : State :=
  let mode := s.loadedMode
  let s := s.modeEffects before mode
  { s with keyboard := { s.keyboard with
      positions := Keyboard.allUp, thirdFrom := Keyboard.firstThirds, nextReading := 0, mode := mode,
      scanStart := some s.now } }

/-- R187: LOAD DONE is queued and the loader enters READY. -/
def State.loadDone (s : State) (occasion : LoadOccasion) : State :=
  let s := s.notice
    (.loadDone occasion s.isl.loadKind s.isl.presence s.isl.defaulted)
  { s with isl := { s.isl with loader := .ready } }

/-- R68, R187: IDLE by START IN SERVICE, except at RELOAD; R191: the RELOAD reply is made ready. -/
def State.afterLoad (s : State) (occasion : LoadOccasion) : State :=
  match occasion with
  | .reload => s.accept 0x26 (.reloaded s.isl.loadKind s.isl.presence s.isl.defaulted)
  | _ => if s.flag .startInService then s.enterCall .idle else s

/-- R187: the loaded values are handed to their users, and the load ends. -/
def State.endLoad (s : State) (l : Loading) (image : List Byte) : State :=
  let loaded := s.loaded l image
  let s := { s with isl := s.isl.take l.occasion loaded }
  let s := (s.handOverValues loaded).setSwitch (s.flag .punchEnabled)
  let s := (s.handOverKeyboard l.modeBefore).loadDone l.occasion
  (s.afterLoad l.occasion).carryOn

/-- R187. The load ends; it cannot end before byte 0 has been read. -/
def loadEnd (image : List Byte) (s : State) : State :=
  match s.isl.loader with
  | .loading l => if l.byte0Read then s.endLoad l image else s
  | .ready => s

/-! ## RELOAD and RESTART -/

/-- The loader enters LOADING; scanning stops and the keyboard is LOCKED with every position UP (R148, R160). -/
def State.startLoading (s : State) (occasion : LoadOccasion) : State :=
  { s with
    isl := { s.isl with
      loader := .loading (Loading.mk occasion false s.keyboard.mode) }
    keyboard := { s.keyboard with
      positions := Keyboard.allUp, thirdFrom := Keyboard.firstThirds, nextReading := 0, mode := .locked,
      scanStart := none } }

/-- RELOAD (R191). Its reply waits for the end of the load. -/
def reload (s : State) : State :=
  if s.call.state = .outOfService then s.startLoading .reload else s.refuse 0x26 .wrongState

/-- R178, R179: the notice queue emptied and the lost mark cleared. -/
def State.emptyNotices (s : State) : State :=
  { s with link := { s.link with notices := [], lostMark := false } }

/-- R91: the Call Controller at RESTART. -/
def State.restartCall (s : State) : State :=
  let s := if s.call.record.state = .ended then s else s.endRecord .restart
  let s := (s.enterCall .outOfService).withStop false
  { s with call := { s.call with clearCause := none } }

/-- R18: the five spools emptied in their order, and the episode closed. -/
def Store.restart (st : Store) : Store :=
  let st := (((st.emptySpool .pLine).2.emptySpool .pLocal).2.emptySpool .pSubmit).2
  { ((st.emptySpool .punch).2.emptySpool .send).2 with episode := .closed }

/-- R132: the printer's settings and arbiter at RESTART; the column and the mechanism case are kept. A PRINTER RESET
that waited for the end of the abandoned cycle goes with it (log 28). -/
def Printer.restartSteps (p : Printer) : Printer :=
  { p with
    fault := false, hold := false, cycle := none, current := none, lineOpen := false,
    pointer := .pSubmit, interruptedLine := false, interruptedLocal := false,
    interruptedSubmit := false, committed := false, newlineOwed := .none, holdWait := .notWaiting,
    resetPending := false }

/-- R132: the printer at RESTART; an abandoned cycle's code takes its effects on column and case. DESIGN CHOICE (log 45):
an abandoned CARRIAGE RETURN also takes the width in effect from LINE WIDTH, as at the end of a cycle (R121). -/
def State.restartPrinter (s : State) : State :=
  let before := s.printerState
  let s := match s.printer.cycle with
    | some c => s.printEffects c
    | none => s
  { s with printer := s.printer.restartSteps }.noticeNoPaper before

/-- R147: the punch at RESTART: its cycle abandoned, released without trailer. -/
def State.restartPunch (s : State) : State :=
  { s with punch := { s.punch.resetSteps with cycle := none } }.noticeTapeOut s.punchState

/-- R100, R109: the Message File at RESTART; a replay ends without a notice. -/
def State.restartFile (s : State) : State :=
  let s := s.endFiling .restart
  { s with file := s.file.endReplay }

/-- R152, R160: the keyboard case at RESTART. -/
def State.restartKeyboard (s : State) : State :=
  { s with keyboard := { s.keyboard with kbdCase := .letters } }

/-- R192, step 2: every block but the loader and the link takes its RESTART values. DESIGN CHOICE (log 41): the notices of
the step join the queue in this order, MESSAGE FILED, PRINTER STATE and PUNCH STATE, where R178 allows either order. -/
def State.restartBlocks (s : State) : State :=
  let s := (s.restartCall.resetSender.disableReceiver).restartFile
  let s := { s with store := s.store.restart }
  s.restartPrinter.restartPunch.restartMotor.restartKeyboard

/-- RESTART (R192): the reply first, then the queue and the lost mark, the loader and the other blocks. -/
def restart (s : State) : State :=
  ((s.accept 0x27 .done).emptyNotices.startLoading .restart).restartBlocks

/-! ## Options (R189) -/

/-- R189, step 2: a numeric value clamped to its range. -/
def clampTo (lo hi v : Nat) : Nat := max lo (min hi v)

/-- R189, steps 1 and 2: the value an option would take, `none` for a bad value. -/
def OptionKind.take : OptionKind → Nat → Option Nat
  | .numeric lo hi, v => some (clampTo lo hi v)
  | .codes n, v => if v < n then some v else none
  | .cellByte, v => if v < 64 then some v else none

/-- R189, step 3: a write that would break the ordering. -/
def State.optionConflict (s : State) (n : OptionName) (v : Nat) : Bool :=
  n.inOrdering && !optionsOrdered (optionSet s.isl.options n v)

/-- R189: the set value of an option written. -/
def State.writeOption (s : State) (n : OptionName) (v : Nat) : State :=
  { s with isl := { s.isl with options := optionSet s.isl.options n v } }

/-- SET OPTION (R189). -/
def setOption (offset : Byte) (value : Word16) (s : State) : State :=
  match OptionName.ofOffset offset.toNat with
  | none => s.refuse 0x04 .badValue
  | some n =>
    match n.spec.kind.take value.toNat with
    | none => s.refuse 0x04 .badValue
    | some v =>
      if s.optionConflict n v then s.refuse 0x04 .conflict
      else (s.writeOption n v).accept 0x04 (.optionTaken offset v)

/-- R189: the value of an option in effect. -/
def State.optionInEffect (s : State) (n : OptionName) : Nat :=
  match n with
  | .unitTime => s.timing.unit
  | .stopLength => s.timing.stop
  | .distortionLimit => s.timing.limit
  | .turnaroundGuard => s.timing.guard
  | .breakRecognition => s.timing.breakRec
  | .breakLength => s.timing.breakLen
  | .clearRecognition => s.timing.clearRec
  | .lineWidth => s.printer.width
  | n => s.opt n

/-- GET OPTION (R189). -/
def getOption (offset : Byte) (s : State) : State :=
  match OptionName.ofOffset offset.toNat with
  | none => s.refuse 0x05 .badValue
  | some n => s.accept 0x05 (.optionValue offset (s.opt n) (s.optionInEffect n))

/-! ## Store commands (R190) -/

/-- R190: a store command waits for its store operation. -/
def State.beginStore (s : State) (op : StoreOp) : State :=
  { s with isl := { s.isl with storeOp := some op } }

/-- STORE READ (R190). -/
def storeRead (offset count : Byte) (s : State) : State :=
  if count.toNat = 0 ∨ 40 < count.toNat ∨ 256 < offset.toNat + count.toNat then
    s.refuse 0x24 .badValue
  else if s.isl.presence = .absent then s.refuse 0x24 .absent
  else s.beginStore (.read offset count)

/-- R190: whether the bytes of a write lie in the page of its offset. -/
def inPage (offset : Byte) (n : Nat) : Bool := offset.toNat % 16 + n ≤ 16

/-- STORE WRITE (R190). The bytes go out to the store as one page write (State.pageWrite); what the EEPROM makes of
them is outside the part (log 4). -/
def storeWrite (offset : Byte) (bytes : List Byte) (s : State) : State :=
  if !inPage offset bytes.length then s.refuse 0x25 .badValue
  else if s.isl.presence = .absent then s.refuse 0x25 .absent
  else s.beginStore (.write offset bytes)

/-- R190: the page write in progress: the offset and the bytes it sends to the store. -/
def State.pageWrite (s : State) : Option (Byte × List Byte) :=
  match s.isl.storeOp with
  | some (.write offset bytes) => some (offset, bytes)
  | _ => none

/-- R190: the store operation has ended. -/
def State.endStore (s : State) : State := { s with isl := { s.isl with storeOp := none } }

/-- R190. The store operation ends: with every byte and address acknowledged, or not. The clock stays where it stands
(log 43). -/
def storeOperationEnd (acknowledged : Bool) (bytes : List Byte) (s : State) : State :=
  match s.isl.storeOp with
  | none => s
  | some (.read offset count) =>
    if acknowledged ∧ bytes.length = count.toNat then
      s.endStore.accept 0x24 (.storeRead offset bytes)
    else s.endStore.refuse 0x24 .storeFailed
  | some (.write offset bytes) =>
    if acknowledged then s.endStore.accept 0x25 (.storeWritten offset bytes.length)
    else s.endStore.refuse 0x25 .storeFailed

/-- R190. 20 ms pass after a page write without an acknowledge. DESIGN CHOICE (log 43): the clock stays where it stands,
for R190 gives the page write no time from which the 20 ms could be counted. -/
def storeWritePollTimeout (s : State) : State :=
  match s.isl.storeOp with
  | some (.write _ _) => s.endStore.refuse 0x25 .storeFailed
  | _ => s

/-! ## Meanings -/

/-- POWER_ON (R184). -/
def execPowerOn (straps : BitVec 2) (s : State) : Answer := .next (powerOn straps s)

/-- RESET_PIN (R184, R187). -/
def execResetPin (straps : BitVec 2) (s : State) : Answer := .next (resetPin straps s)

/-- STORE_BYTE_0_READ (R184). -/
def execStoreByte0Read (byte : Option Byte) (s : State) : Answer := .next (storeByte0Read byte s)

/-- LOAD_END (R187). -/
def execLoadEnd (image : List Byte) (s : State) : Answer := .next (loadEnd image s)

/-- STORE_OPERATION_END (R190). -/
def execStoreOperationEnd (acknowledged : Bool) (bytes : List Byte) (s : State) : Answer :=
  .next (storeOperationEnd acknowledged bytes s)

/-- STORE_WRITE_POLL_TIMEOUT (R190). -/
def execStoreWritePollTimeout (s : State) : Answer := .next (storeWritePollTimeout s)

end Sys2Proof.Machine
end

