-- ==== Sys2Proof/Machine/Link.lean ====
section
/-! DEFINITION. The Control Link's inbound side: the dispatch of a command (R173) and the assembly of frames (R172,
R174). -/

namespace Sys2Proof.Machine

/-! ## Dispatch -/

/-- Section 10.7: the body lengths a command kind allows. -/
def bodyLengths (kind : Byte) : Nat × Nat :=
  match kind.toNat with
  | 0x04 => (3, 3)
  | 0x05 => (1, 1)
  | 0x06 => (7, 7)
  | 0x07 => (2, 2)
  | 0x08 => (1, 1)
  | 0x09 => (2, 41)
  | 0x0A => (1, 1)
  | 0x14 => (1, 1)
  | 0x15 => (1, 1)
  | 0x16 => (1, 1)
  | 0x17 => (4, 4)
  | 0x18 => (1, 1)
  | 0x19 => (2, 2)
  | 0x20 => (1, 1)
  | 0x23 => (1, 1)
  | 0x24 => (2, 2)
  | 0x25 => (2, 17)
  | _ => (0, 0)

/-- R173, check 2. -/
def lengthAllowed (kind : Byte) (n : Nat) : Bool :=
  (bodyLengths kind).1 ≤ n && n ≤ (bodyLengths kind).2

/-- R173: the link's own refusal of a command, if any. While the loader is LOADING, at a RELOAD too, a START SERVICE is
refused NOT READY here (R91); a frame out of turn is no command and does not come here (R172, R174; log 31). -/
def State.linkRefusal (s : State) (kind : Byte) (length : Nat) : Option Reason :=
  if !isCommandKind kind then some .unknownKind
  else if !lengthAllowed kind length then some .badLength
  else if !s.ready && kind != 0x01 then some .notReady
  else none

/-- R174: the pending reply is AWAITED and not yet ready. -/
def State.awaitReply (s : State) : State :=
  { s with link := { s.link with pendingReply := .awaited none } }

/-- R173: a complete frame in turn is dispatched: AWAITED, the link's checks, then the owner. -/
def State.dispatch (s : State) (kind : Byte) (length : Nat) (owner : State → State) : State :=
  let s := s.awaitReply
  match s.linkRefusal kind length with
  | some r => s.refuse kind r
  | none => owner s

/-- Section 10.7: the owner's part of a command, from the bytes of its body. -/
def commandOwner (kind : Byte) (body : List Byte) : State → State :=
  match kind.toNat, body with
  | 0x01, _ => getStatus
  | 0x02, _ => startService
  | 0x03, _ => stopService
  | 0x04, [offset, hi, lo] => setOption offset (word16 hi lo)
  | 0x05, [offset] => getOption offset
  | 0x06, [r, d, p, q, hi, lo, a] => setRoute r d p q (word16 hi lo) a
  | 0x07, [r, c] => getRoute r c
  | 0x08, [r] => rearmRoute r
  | 0x09, target :: cells => submitText target cells
  | 0x0A, [spool] => clearSpool spool
  | 0x0B, _ => acceptCall
  | 0x0C, _ => declineCall
  | 0x0D, _ => placeCall
  | 0x0E, _ => clearCall
  | 0x0F, _ => sendAnswerback
  | 0x10, _ => sendEnquiry
  | 0x11, _ => sendBreak
  | 0x12, _ => resumeSend
  | 0x13, _ => getCall
  | 0x14, [c] => getLineQuality c
  | 0x15, [start] => listMessages start
  | 0x16, [n] => getMessage n
  | 0x17, [n, hi, lo, count] => fetchMessage n (word16 hi lo) count
  | 0x18, [n] => deleteMessage n
  | 0x19, [n, t] => replayMessage n t
  | 0x1A, _ => cancelReplay
  | 0x1B, _ => printerHold
  | 0x1C, _ => printerRelease
  | 0x1D, _ => printerReset
  | 0x1E, _ => punchOn
  | 0x1F, _ => punchOff
  | 0x20, [n] => punchFeed n
  | 0x21, _ => punchRelease
  | 0x22, _ => punchReset
  | 0x23, [m] => setKeyboardMode m
  | 0x24, [offset, count] => storeRead offset count
  | 0x25, offset :: bytes => storeWrite offset bytes
  | 0x26, _ => reload
  | 0x27, _ => restart
  | _, _ => id

/-! ## Inbound frames -/

/-- LINK with an assembly state. -/
def State.withInbound (s : State) (i : Inbound) : State := { s with link := { s.link with inbound := i } }

/-- R172: the tick at which the inter-byte timer falls due when it starts now. -/
def State.interByteDue (s : State) : Nat := s.now + Config.interByte

/-- R172: the first tick at which more than 20 ms have passed without a byte. -/
def State.quietDue (s : State) : Nat := s.now + Config.interByte + 1

/-- R174: no reply is pending and no OUT OF TURN answer is owed or being sent. -/
def Link.freeForCommand (l : Link) : Bool := l.pendingReply == .none && l.outOfTurn == .none

/-- R174: the turn of a frame that begins now. -/
def Link.turn (l : Link) : Turn :=
  if l.freeForCommand then .inTurn else if l.outOfTurn = .none then .outOfTurn else .silent

/-- R172, R174: a kind byte begins a frame. -/
def State.beginFrame (s : State) (kind : Byte) : State :=
  let turn := s.link.turn
  { s with link := { s.link with
      inbound := .kindReceived kind turn s.interByteDue
      outOfTurn := if turn = .outOfTurn then .framing kind else s.link.outOfTurn } }

/-- R174: a frame has ended; the answer an out-of-turn frame is owed can become ready. -/
def State.frameEnded (s : State) (turn : Turn) (kind : Byte) : State :=
  match turn with
  | .outOfTurn => { s with link := { s.link with outOfTurn := .owed kind } }
  | _ => s

/-- R172, R174: a frame abandoned or ended at its length: the refusal, for a frame in turn. -/
def State.frameFails (s : State) (turn : Turn) (kind : Byte) (r : Reason) : State :=
  match turn with
  | .inTurn => s.refuse kind r
  | _ => s.frameEnded turn kind

/-- R172, R173: a frame is complete. -/
def State.frameComplete (s : State) (turn : Turn) (kind : Byte) (body : List Byte) : State :=
  let s := s.withInbound .empty
  match turn with
  | .inTurn => s.dispatch kind body.length (commandOwner kind body)
  | _ => s.frameEnded turn kind

/-- R172: the length byte. -/
def State.takeLength (s : State) (kind : Byte) (turn : Turn) (length : Byte) : State :=
  if length.toNat = 0 then s.frameComplete turn kind []
  else if length.toNat ≤ Config.bodyMax then
    s.withInbound (.inBody kind turn length.toNat [] s.interByteDue)
  else (s.withInbound (.discarding s.quietDue)).frameFails turn kind .badLength

/-- R172: a body byte; `toCome` counts it. -/
def State.takeBodyByte (s : State) (kind : Byte) (turn : Turn) (toCome : Nat) (got : List Byte)
    (b : Byte) : State :=
  if toCome ≤ 1 then s.frameComplete turn kind (got ++ [b])
  else s.withInbound (.inBody kind turn (toCome - 1) (got ++ [b]) s.interByteDue)

/-- R172: a byte received with its stop bit at mark. -/
def State.takeByte (s : State) (b : Byte) : State :=
  match s.link.inbound with
  | .empty => s.beginFrame b
  | .kindReceived kind turn _ => s.takeLength kind turn b
  | .inBody kind turn toCome got _ => s.takeBodyByte kind turn toCome got b
  | .discarding _ => s.withInbound (.discarding s.quietDue)

/-- R172. A byte arrives; a framing error is discarded in every state and restarts no timer. -/
def inboundByte (b : Byte) (stop : Level) (s : State) : State :=
  match stop with
  | .mark => s.takeByte b
  | .space => s

/-- R172: the inter-byte timer's frame is abandoned. -/
def State.abandonFrame (s : State) (kind : Byte) (turn : Turn) (due : Nat) : State :=
  ((s.advance due).withInbound .empty).frameFails turn kind .incomplete

/-- R172. The inter-byte timer expires. -/
def interByteTimeout (s : State) : State :=
  match s.link.inbound with
  | .kindReceived kind turn due => s.abandonFrame kind turn due
  | .inBody kind turn _ _ due => s.abandonFrame kind turn due
  | _ => s

/-- R172. More than 20 ms pass without a byte in DISCARDING. -/
def discardQuietTimeout (s : State) : State :=
  match s.link.inbound with
  | .discarding due => (s.advance due).withInbound .empty
  | _ => s

/-! ## A command frame as one row (log 3) -/

/-- R172, R174: a frame that begins now arrives whole and in turn. -/
def State.linkInTurn (s : State) : Bool := s.link.inbound == .empty && s.link.freeForCommand

/-- Section 10.7: the bytes of a frame. -/
def frameBytes (kind : Byte) (body : List Byte) : List Byte :=
  kind :: BitVec.ofNat 8 body.length :: body

/-- A command frame arrives whole: in turn it is dispatched to its owner; otherwise its bytes are taken one by one
(R172, R174). -/
def State.hostCommand (s : State) (kind : Byte) (body : List Byte) (owner : State → State) : State :=
  if s.linkInTurn ∧ body.length ≤ Config.bodyMax then s.dispatch kind body.length owner
  else (frameBytes kind body).foldl State.takeByte s

/-- R173. A complete frame whose kind is no command kind. -/
def unknownCommandKind (kind : Byte) (body : List Byte) (s : State) : State :=
  s.hostCommand kind body (commandOwner kind body)

/-! ## Meanings -/

/-- INBOUND_BYTE (R172). -/
def execInboundByte (b : Byte) (stop : Level) (s : State) : Answer := .next (inboundByte b stop s)

/-- INTER_BYTE_TIMEOUT (R172). -/
def execInterByteTimeout (s : State) : Answer := .next (interByteTimeout s)

/-- DISCARD_QUIET_TIMEOUT (R172). -/
def execDiscardQuietTimeout (s : State) : Answer := .next (discardQuietTimeout s)

/-- UNKNOWN_COMMAND_KIND (R173). -/
def execUnknownCommandKind (kind : Byte) (body : List Byte) (s : State) : Answer :=
  .next (unknownCommandKind kind body s)

end Sys2Proof.Machine
end

