-- ==== Sys2Proof/Machine/HostRows.lean ====
section
/-! DEFINITION. The meaning of each command of the host: its whole frame arrives (log 3), with the kind and the body of
section 10.7, and its owner takes it. -/

namespace Sys2Proof.Machine

/-- Section 10.7: a two-byte field, most significant byte first. -/
def wordBytes (v : Word16) : List Byte := [v.extractLsb' 8 8, v.extractLsb' 0 8]

/-- GET STATUS (R180). -/
def execGetStatus (s : State) : Answer := .next (s.hostCommand 0x01 [] getStatus)

/-- START SERVICE (R69). -/
def execStartService (s : State) : Answer := .next (s.hostCommand 0x02 [] startService)

/-- STOP SERVICE (R70). -/
def execStopService (s : State) : Answer := .next (s.hostCommand 0x03 [] stopService)

/-- SET OPTION (R189). -/
def execSetOption (offset : Byte) (value : Word16) (s : State) : Answer :=
  .next (s.hostCommand 0x04 (offset :: wordBytes value) (setOption offset value))

/-- GET OPTION (R189). -/
def execGetOption (offset : Byte) (s : State) : Answer :=
  .next (s.hostCommand 0x05 [offset] (getOption offset))

/-- SET ROUTE (R34, R35). -/
def execSetRoute (route destinations printStandIn punchStandIn : Byte) (reload : Word16)
    (action : Byte) (s : State) : Answer :=
  .next (s.hostCommand 0x06
    ([route, destinations, printStandIn, punchStandIn] ++ wordBytes reload ++ [action])
    (setRoute route destinations printStandIn punchStandIn reload action))

/-- GET ROUTE (R36). -/
def execGetRoute (route clear : Byte) (s : State) : Answer :=
  .next (s.hostCommand 0x07 [route, clear] (getRoute route clear))

/-- REARM ROUTE (R37). -/
def execRearmRoute (route : Byte) (s : State) : Answer :=
  .next (s.hostCommand 0x08 [route] (rearmRoute route))

/-- SUBMIT TEXT (R181). -/
def execSubmitText (target : Byte) (cells : List Byte) (s : State) : Answer :=
  .next (s.hostCommand 0x09 (target :: cells) (submitText target cells))

/-- CLEAR SPOOL (R182). -/
def execClearSpool (spool : Byte) (s : State) : Answer :=
  .next (s.hostCommand 0x0A [spool] (clearSpool spool))

/-- ACCEPT CALL (R73). -/
def execAcceptCall (s : State) : Answer := .next (s.hostCommand 0x0B [] acceptCall)

/-- DECLINE CALL (R73). -/
def execDeclineCall (s : State) : Answer := .next (s.hostCommand 0x0C [] declineCall)

/-- PLACE CALL (R74). -/
def execPlaceCall (s : State) : Answer := .next (s.hostCommand 0x0D [] placeCall)

/-- CLEAR CALL (R84). -/
def execClearCall (s : State) : Answer := .next (s.hostCommand 0x0E [] clearCall)

/-- SEND ANSWERBACK (R82). -/
def execSendAnswerback (s : State) : Answer := .next (s.hostCommand 0x0F [] sendAnswerback)

/-- SEND ENQUIRY (R78). -/
def execSendEnquiry (s : State) : Answer := .next (s.hostCommand 0x10 [] sendEnquiry)

/-- SEND BREAK (R83). -/
def execSendBreak (s : State) : Answer := .next (s.hostCommand 0x11 [] sendBreak)

/-- RESUME SEND (R83). -/
def execResumeSend (s : State) : Answer := .next (s.hostCommand 0x12 [] resumeSend)

/-- GET CALL (R90). -/
def execGetCall (s : State) : Answer := .next (s.hostCommand 0x13 [] getCall)

/-- GET LINE QUALITY (R54). -/
def execGetLineQuality (clear : Byte) (s : State) : Answer :=
  .next (s.hostCommand 0x14 [clear] (getLineQuality clear))

/-- LIST MESSAGES (R101). -/
def execListMessages (start : Byte) (s : State) : Answer :=
  .next (s.hostCommand 0x15 [start] (listMessages start))

/-- GET MESSAGE (R102). -/
def execGetMessage (number : Byte) (s : State) : Answer :=
  .next (s.hostCommand 0x16 [number] (getMessage number))

/-- FETCH MESSAGE (R103). -/
def execFetchMessage (number : Byte) (offset : Word16) (count : Byte) (s : State) : Answer :=
  .next (s.hostCommand 0x17 ([number] ++ wordBytes offset ++ [count])
    (fetchMessage number offset count))

/-- DELETE MESSAGE (R104). -/
def execDeleteMessage (number : Byte) (s : State) : Answer :=
  .next (s.hostCommand 0x18 [number] (deleteMessage number))

/-- REPLAY MESSAGE (R105). -/
def execReplayMessage (number target : Byte) (s : State) : Answer :=
  .next (s.hostCommand 0x19 [number, target] (replayMessage number target))

/-- CANCEL REPLAY (R107). -/
def execCancelReplay (s : State) : Answer := .next (s.hostCommand 0x1A [] cancelReplay)

/-- PRINTER HOLD (R129). -/
def execPrinterHold (s : State) : Answer := .next (s.hostCommand 0x1B [] printerHold)

/-- PRINTER RELEASE (R129). -/
def execPrinterRelease (s : State) : Answer := .next (s.hostCommand 0x1C [] printerRelease)

/-- PRINTER RESET (R130). -/
def execPrinterReset (s : State) : Answer := .next (s.hostCommand 0x1D [] printerReset)

/-- PUNCH ON (R144). -/
def execPunchOn (s : State) : Answer := .next (s.hostCommand 0x1E [] punchOn)

/-- PUNCH OFF (R144). -/
def execPunchOff (s : State) : Answer := .next (s.hostCommand 0x1F [] punchOff)

/-- PUNCH FEED (R141). -/
def execPunchFeed (count : Byte) (s : State) : Answer :=
  .next (s.hostCommand 0x20 [count] (punchFeed count))

/-- PUNCH RELEASE (R137). -/
def execPunchRelease (s : State) : Answer := .next (s.hostCommand 0x21 [] punchRelease)

/-- PUNCH RESET (R145). -/
def execPunchReset (s : State) : Answer := .next (s.hostCommand 0x22 [] punchReset)

/-- SET KEYBOARD MODE (R159). -/
def execSetKeyboardMode (mode : Byte) (s : State) : Answer :=
  .next (s.hostCommand 0x23 [mode] (setKeyboardMode mode))

/-- STORE READ (R190). -/
def execStoreRead (offset count : Byte) (s : State) : Answer :=
  .next (s.hostCommand 0x24 [offset, count] (storeRead offset count))

/-- STORE WRITE (R190). -/
def execStoreWrite (offset : Byte) (bytes : List Byte) (s : State) : Answer :=
  .next (s.hostCommand 0x25 (offset :: bytes) (storeWrite offset bytes))

/-- RELOAD (R191). -/
def execReload (s : State) : Answer := .next (s.hostCommand 0x26 [] reload)

/-- RESTART (R192). -/
def execRestart (s : State) : Answer := .next (s.hostCommand 0x27 [] restart)

end Sys2Proof.Machine
end

