-- ==== Sys2Proof/Machine/Layouts.lean ====
section
/-! DEFINITION. The byte layouts of section 10.7: the frames the part sends, and the link's rate. -/

namespace Sys2Proof.Machine

/-! ## Numbers -/

/-- A one-byte field. -/
def byte (n : Nat) : Byte := BitVec.ofNat 8 n

/-- A two-byte field, most significant byte first. -/
def twoBytes (n : Nat) : List Byte := wordBytes (BitVec.ofNat 16 n)

/-- A flag. -/
def flagByte (b : Bool) : Byte := if b then 1 else 0

/-! ## Enumerations -/

/-- Call Controller state. -/
def CallState.toByte : CallState → Byte
  | .outOfService => 0
  | .idle => 1
  | .offered => 2
  | .answering => 3
  | .calling => 4
  | .connected => 5
  | .clearing => 6
  | .releasing => 7

/-- Call kind. -/
def CallKind.toByte : CallKind → Byte
  | .none => 0
  | .incoming => 1
  | .placed => 2

/-- Call record state. -/
def CallRecordState.toByte : CallRecordState → Byte
  | .offered => 0
  | .answering => 1
  | .calling => 2
  | .connected => 3
  | .clearing => 4
  | .ended => 5

/-- Outcome, CLEARED cause. -/
def CallOutcome.toByte : CallOutcome → Byte
  | .farEnd => 1
  | .station => 2
  | .idle => 3
  | .stopService => 4
  | .withdrawn => 5
  | .noConfirm => 6
  | .declined => 7
  | .restart => 8

/-- An outcome that may be absent. -/
def outcomeByte : Option CallOutcome → Byte
  | none => 0
  | some o => o.toByte

/-- Store presence. -/
def Presence.toByte : Presence → Byte
  | .notYetKnown => 0
  | .absent => 1
  | .present => 2

/-- Load kind. -/
def LoadKind.toByte : LoadKind → Byte
  | .none => 0
  | .basic => 1
  | .full => 2

/-- Load occasion. -/
def LoadOccasion.toByte : LoadOccasion → Byte
  | .powerOn => 0
  | .resetPin => 1
  | .reload => 2
  | .restart => 3

/-- Motor state. -/
def MotorState.toByte : MotorState → Byte
  | .off => 0
  | .runUp _ => 1
  | .running => 2
  | .runOn _ => 3

/-- Printer state. -/
def PrinterState.toByte : PrinterState → Byte
  | .idle => 0
  | .cycle => 1
  | .noPaper => 2
  | .held => 3
  | .fault => 4

/-- Column, 255 for UNKNOWN. -/
def columnByte : Option Nat → Byte
  | some c => byte c
  | none => 255

/-- Punch state. -/
def PunchState.toByte : PunchState → Byte
  | .off => 0
  | .onIdle => 1
  | .cycle => 2
  | .tapeOut => 3
  | .fault => 4

/-- Punch owner. -/
def ownerByte : Option Stream → Byte
  | none => 0
  | some .line => 1
  | some .loc => 2
  | some .submitted => 3

/-- A sink case. -/
def SinkCase.toByte : SinkCase → Byte
  | .letters => 0
  | .figures => 1
  | .unknown => 2

/-- Keyboard mode. -/
def KeyboardMode.toByte : KeyboardMode → Byte
  | .loc => 0
  | .line => 1
  | .raw => 2
  | .locked => 3

/-- Route. -/
def RouteName.toByte : RouteName → Byte
  | .received => 0
  | .sentCopy => 1
  | .keyedLocal => 2

/-- Route state. -/
def RouteState.toByte : RouteState → Byte
  | .active => 0
  | .diverted => 1
  | .suspended => 2

/-- Quota action. -/
def QuotaAction.toByte : QuotaAction → Byte
  | .notify => 0
  | .divert => 1
  | .suspend => 2

/-- Destinations: bit 0 PRINT, bit 1 PUNCH, bit 2 FILE. -/
def Destinations.toByte (d : Destinations) : Byte :=
  byte ((if d.print then 1 else 0) + (if d.punch then 2 else 0) + (if d.file then 4 else 0))

/-- Print stand-in: NONE, PUNCH, FILE; PRINT does not stand in for itself. -/
def printStandInByte : Option Place → Byte
  | some .punch => 1
  | some .file => 2
  | _ => 0

/-- Punch stand-in: NONE, PRINT, FILE; PUNCH does not stand in for itself. -/
def punchStandInByte : Option Place → Byte
  | some .print => 1
  | some .file => 2
  | _ => 0

/-- Spool. -/
def SpoolName.toByte : SpoolName → Byte
  | .pLine => 0
  | .pLocal => 1
  | .pSubmit => 2
  | .punch => 3
  | .send => 4

/-- SUBMIT TEXT target. -/
def SubmitTarget.toByte : SubmitTarget → Byte
  | .send => 0
  | .print => 1
  | .punch => 2

/-- Printer cause. -/
def PrinterCause.toByte : PrinterCause → Byte
  | .paperOut => 0
  | .paperRestored => 1
  | .paperLow => 2
  | .paperLowCleared => 3
  | .fault => 4

/-- Punch cause. -/
def PunchCause.toByte : PunchCause → Byte
  | .tapeOut => 0
  | .tapeRestored => 1
  | .tapeLow => 2
  | .tapeLowCleared => 3
  | .fault => 4

/-- Overflow target. P-LOCAL has no code: only a RECEIVED character opens an episode (R15), and no try of its
copies is at P-LOCAL (R21). -/
def SpaceTarget.toByte : SpaceTarget → Byte
  | .pLine | .pLocal => 0
  | .punch => 1
  | .file => 2

/-- Overflow reason. -/
def SpaceReason.toByte : SpaceReason → Byte
  | .atShare => 0
  | .noBlock => 1
  | .reserve => 2

/-- Filing cause. -/
def FilingCause.toByte : FilingCause → Byte
  | .length => 0
  | .clear => 1
  | .restart => 2

/-- SEND ANSWERBACK result. -/
def AnswerbackResult.toByte : AnswerbackResult → Byte
  | .started => 0
  | .inProgress => 1
  | .empty => 2

/-- PUNCH RELEASE result. -/
def ReleaseResult.toByte : ReleaseResult → Byte
  | .notOwned => 0
  | .released => 1
  | .pending => 2

/-- Message state. -/
def MessageState.code : MessageState → Nat
  | .receiving => 0
  | .filed => 1
  | .replaying => 2

/-- The reason codes of R175. -/
def Reason.toByte : Reason → Byte
  | .unknownKind => 1
  | .badLength => 2
  | .badValue => 3
  | .conflict => 4
  | .notReady => 5
  | .wrongState => 6
  | .busy => 7
  | .full _ => 8
  | .noSuch => 9
  | .punchBusy => 10
  | .absent => 11
  | .outOfTurn => 12
  | .incomplete => 13
  | .storeFailed => 14

/-! ## Cells and summaries -/

/-- Bits 6-7 of a cell byte. Cells of origin LOCAL and SUBMITTED are never sent to the host. -/
def Cell.mark (c : Cell) : Nat :=
  match c.origin, c.quality with
  | .received, .doubtful => 1
  | .received, .substituted => 2
  | .sent, _ => 3
  | _, _ => 0

/-- The cell byte. -/
def Cell.toByte (c : Cell) : Byte :=
  byte (c.code.toNat + (if c.case = .figures then 32 else 0) + 64 * c.mark)

/-- The eleven bytes of a message summary. -/
def Summary.bytes (m : Summary) : List Byte :=
  [byte m.number,
   byte (m.state.code + (if m.kind = .placed then 4 else 0) + (if m.continued then 8 else 0) +
     16 * m.part)] ++
  twoBytes m.cells ++
  [byte (m.doubtful / 16), byte (16 * (m.doubtful % 16) + m.substituted / 256),
   byte (m.substituted % 256)] ++
  twoBytes m.lost ++ twoBytes m.duration

/-- Caller length and caller cells. -/
def callerBytes (caller : Option (List Cell)) : List Byte :=
  byte (caller.getD []).length :: (caller.getD []).map Cell.toByte

/-! ## Replies -/

/-- GET STATUS. -/
def StatusReport.bytes (r : StatusReport) : List Byte :=
  [flagByte r.ready, r.presence.toByte, r.call.toByte, r.motor.toByte, r.printer.toByte,
   columnByte r.column, r.punch.toByte, ownerByte r.owner, r.mode.toByte] ++ twoBytes r.free ++
  [byte r.messages, flagByte r.lost]

/-- GET ROUTE. -/
def routeReportBytes (n : RouteName) (r : Route) (busy : Bool) : List Byte :=
  [n.toByte, r.destinations.toByte, printStandInByte r.printStandIn,
   punchStandInByte r.punchStandIn] ++ twoBytes r.reload ++ twoBytes r.counter ++
  [r.action.toByte, r.state.toByte] ++ twoBytes r.placed ++ twoBytes r.lost ++ [flagByte busy]

/-- GET CALL. -/
def CallReport.bytes (r : CallReport) : List Byte :=
  [r.state.toByte, r.kind.toByte, r.recordState.toByte, outcomeByte r.outcome] ++
  twoBytes r.elapsed ++ twoBytes r.received ++ twoBytes r.sent ++ twoBytes r.breaks ++
  [r.lineCase.toByte] ++ callerBytes r.caller

/-- GET LINE QUALITY. -/
def LineQuality.bytes (q : LineQuality) (poorRun : Nat) : List Byte :=
  [byte q.last, byte q.peak] ++ twoBytes q.received ++ twoBytes q.doubtful ++
  twoBytes q.substituted ++ twoBytes q.falseStarts ++ twoBytes q.collisions ++
  twoBytes q.breaks ++ [byte poorRun]

/-- The replay field of GET MESSAGE. -/
def replayByte : Option ReplayTarget → Byte
  | none => 0
  | some .print => 1
  | some .punch => 2

/-- The accepted results, after the command kind. -/
def Result.bytes : Result → List Byte
  | .done => []
  | .status r => r.bytes
  | .stopService p => [flagByte p]
  | .optionTaken o v => o :: twoBytes v
  | .optionValue o v e => o :: (twoBytes v ++ twoBytes e)
  | .routeSet n c st busy => [n.toByte] ++ twoBytes c ++ [st.toByte, flagByte busy]
  | .routeReport n r busy => routeReportBytes n r busy
  | .routeRearmed n c st => [n.toByte] ++ twoBytes c ++ [st.toByte]
  | .submitted t c => t.toByte :: twoBytes c
  | .spoolCleared n d f => n.toByte :: (twoBytes d ++ twoBytes f)
  | .answerback r => [r.toByte]
  | .resumed h => [flagByte h]
  | .call r => r.bytes
  | .lineQuality q n => q.bytes n
  | .messageList n l => byte n :: (l.map Summary.bytes).flatten
  | .message m c r n => m.bytes ++ callerBytes c ++ [replayByte r] ++ wordBytes n
  | .messageCells n st total o cells =>
    [byte n, byte st.code] ++ twoBytes total ++ wordBytes o ++ cells.map Cell.toByte
  | .messageDeleted f n => twoBytes f ++ [byte n]
  | .replayStarted n c => byte n :: twoBytes c
  | .replayCancelled n c => byte n :: twoBytes c
  | .printerHold st h => [st.toByte, flagByte h]
  | .printerReset f => [flagByte f]
  | .punchSwitch st a => [st.toByte, flagByte a]
  | .feedAhead n => twoBytes n
  | .punchRelease r => [r.toByte]
  | .punchReset d o f => twoBytes d ++ [ownerByte o, flagByte f]
  | .keyboardMode a b => [a.toByte, b.toByte]
  | .storeRead o bytes => o :: bytes
  | .storeWritten o n => [o, byte n]
  | .reloaded k p n => [k.toByte, p.toByte, byte n]

/-- R175: the capacity that follows the reason FULL. -/
def Reason.tail : Reason → List Byte
  | .full c => twoBytes c
  | _ => []

/-- R175: the kind of a reply frame. -/
def Reply.kind : Reply → Byte
  | .accepted _ _ => 0x40
  | .refused _ _ => 0x41

/-- R175: the body of a reply frame. -/
def Reply.body : Reply → List Byte
  | .accepted k r => k :: r.bytes
  | .refused k r => k :: r.toByte :: r.tail

/-! ## Notices -/

/-- The inputs byte of PRINTER STATE. -/
def PrinterReport.inputs (r : PrinterReport) : Byte :=
  byte ((if r.paperOut then 1 else 0) + (if r.paperLow then 2 else 0) + (if r.hold then 4 else 0))

/-- PRINTER STATE. -/
def PrinterReport.bytes (r : PrinterReport) : List Byte :=
  [r.cause.toByte, r.state.toByte, columnByte r.column, r.mechCase.toByte, r.inputs] ++
  twoBytes r.pLine ++ twoBytes r.pLocal ++ twoBytes r.pSubmit

/-- The inputs byte of PUNCH STATE. -/
def PunchReport.inputs (r : PunchReport) : Byte :=
  byte ((if r.tapeOut then 1 else 0) + (if r.tapeLow then 2 else 0))

/-- PUNCH STATE. -/
def PunchReport.bytes (r : PunchReport) : List Byte :=
  [r.cause.toByte, r.state.toByte, ownerByte r.owner, r.tapeCase.toByte, r.inputs] ++
  twoBytes r.cells

/-- The kind of a notice. -/
def NoticeBody.kind : NoticeBody → Byte
  | .loadDone _ _ _ _ => 0x60
  | .callOffered _ => 0x61
  | .callWithdrawn => 0x62
  | .connected _ => 0x63
  | .cleared _ _ _ _ _ => 0x64
  | .enquiry _ => 0x65
  | .breakReceived _ => 0x66
  | .poorLine _ _ _ _ => 0x67
  | .overflow _ _ _ => 0x68
  | .quota _ _ _ _ => 0x69
  | .messageFiled _ _ => 0x6A
  | .fileFull _ _ => 0x6B
  | .replayDone _ _ _ => 0x6C
  | .printerState _ => 0x6D
  | .punchState _ => 0x6E
  | .key _ _ => 0x6F

/-- The body of a notice after its flags byte. -/
def NoticeBody.bytes : NoticeBody → List Byte
  | .loadDone o k p n => [o.toByte, k.toByte, p.toByte, byte n]
  | .callOffered n => [byte n]
  | .callWithdrawn => []
  | .connected k => [k.toByte]
  | .cleared c a b d t => [c.toByte] ++ twoBytes a ++ twoBytes b ++ twoBytes d ++ twoBytes t
  | .enquiry n => twoBytes n
  | .breakReceived n => twoBytes n
  | .poorLine l p d q => [byte l, byte p] ++ twoBytes d ++ twoBytes q
  | .overflow t r n => [t.toByte, r.toByte] ++ twoBytes n
  | .quota n a r p => [n.toByte, a.toByte] ++ twoBytes r ++ twoBytes p
  | .messageFiled m c => m.bytes ++ [c.toByte]
  | .fileFull n f => [byte n, byte f]
  | .replayDone n complete c => [byte n, flagByte !complete] ++ twoBytes c
  | .printerState r => r.bytes
  | .punchState r => r.bytes
  | .key p press => [byte p.val, flagByte !press]

/-- The body of a notice frame, flags byte first. -/
def Notice.frameBody (n : Notice) : List Byte := flagByte n.lost :: n.body.bytes

/-! ## Frames -/

/-- The kind of an outbound frame. -/
def OutFrame.kind : OutFrame → Byte
  | .reply r => r.kind
  | .outOfTurn r => r.kind
  | .notice n => n.body.kind

/-- The body of an outbound frame. -/
def OutFrame.body : OutFrame → List Byte
  | .reply r => r.body
  | .outOfTurn r => r.body
  | .notice n => n.frameBody

/-- The bytes of an outbound frame: kind, length, body. -/
def OutFrame.bytes (f : OutFrame) : List Byte := frameBytes f.kind f.body

/-- Pins and electrical matters: the link rate in bit/s that the straps choose (R183). -/
def Link.rate (l : Link) : Nat :=
  match l.straps.toNat with
  | 0 => 9600
  | 1 => 19200
  | 2 => 38400
  | _ => 115200

end Sys2Proof.Machine
end

