-- ==== Sys2Proof/Machine/Outbound.lean ====
section
/-! DEFINITION. The Control Link's outbound side: the arbiter (R176), the bytes of the frame being sent and HOLD-OFF
(R177), and the meaning of its four rows. -/

namespace Sys2Proof.Machine

/-! ## The arbiter -/

/-- R176: the frame the arbiter chooses: a ready reply, else an OUT OF TURN answer that is ready, else the oldest
notice. -/
def Link.nextFrame (l : Link) : Option OutFrame :=
  match l.pendingReply, l.outOfTurn, l.notices with
  | .awaited (some r), _, _ => some (.reply r)
  | .none, .owed kind, _ => some (.outOfTurn (.refused kind .outOfTurn))
  | _, _, n :: _ => some (.notice n)
  | _, _, [] => none

/-- R174, R176: the first byte of a frame begins at a tick. -/
def Link.startFrame (l : Link) (f : OutFrame) (now : Nat) : Link :=
  let l := { l with sending := some f, sent := 0, boundary := now }
  match f with
  | .reply _ => { l with pendingReply := .sending }
  | .outOfTurn _ => { l with outOfTurn := .sending }
  | .notice _ => { l with notices := l.notices.tail }

/-- R176, R177: the arbiter starts the next frame when none is being sent and HOLD-OFF allows a byte to begin. -/
def Link.arbitrate (l : Link) (now : Nat) : Link :=
  if l.sending.isSome || l.holdOff then l
  else
    match l.nextFrame with
    | some f => l.startFrame f now
    | none => l

/-- R174, R176: no byte of the frame is left to send. -/
def Link.endFrame (l : Link) : Link :=
  match l.sending with
  | some (.reply _) => { l with sending := none, pendingReply := .none }
  | some (.outOfTurn _) => { l with sending := none, outOfTurn := .none }
  | some (.notice _) => { l with sending := none }
  | none => l

/-! ## Bytes and boundaries (R177) -/

/-- The ticks in which `n` bytes sent back to back at the strap rate have been sent (R176). -/
def Link.byteTicks (l : Link) (n : Nat) : Nat :=
  (n * (Config.byteBits * Config.second) + l.rate - 1) / l.rate

/-- The bytes of a frame of `length` whose sending has begun by a tick, when nothing has held it since its boundary; a
byte still being sent at the boundary ends there. DESIGN CHOICE (log 35): a byte that begins in this very tick has begun, so
HOLD-OFF asserted in it comes after that byte. -/
def Link.begun (l : Link) (length now : Nat) : Nat :=
  if now < l.boundary then l.sent
  else min length (l.sent + 1 + (now - l.boundary) * l.rate / (Config.byteBits * Config.second))

/-- R177: a frame is held between two of its bytes. -/
def Link.held (l : Link) (f : OutFrame) : Bool := l.holdOff && l.sent < f.bytes.length

/-- The tick at which the last byte of a frame will have been sent (R176). -/
def Link.frameDue (l : Link) (f : OutFrame) : Nat := l.boundary + l.byteTicks (f.bytes.length - l.sent)

/-- R177: HOLD-OFF is asserted. The byte being sent is completed, and no further byte begins. -/
def Link.hold (l : Link) (now : Nat) : Link :=
  if l.holdOff then l
  else
    match l.sending with
    | none => { l with holdOff := true }
    | some f =>
      let n := l.begun f.bytes.length now
      { l with holdOff := true, sent := n, boundary := l.boundary + l.byteTicks (n - l.sent) }

/-- R177: HOLD-OFF is deasserted. A frame held between two bytes goes on with its next byte. -/
def Link.release (l : Link) (now : Nat) : Link :=
  if l.holdOff then
    { l with holdOff := false, boundary := if l.sending.isSome then max now l.boundary else l.boundary }
  else l

/-- The byte on the transmit line as the clock stands; none while the line rests at mark (R176, R177). -/
def State.outboundByte (s : State) : Option Byte :=
  match s.link.sending with
  | none => none
  | some f =>
    let due := if s.link.holdOff then s.link.boundary else s.link.frameDue f
    let n := if s.link.holdOff then s.link.sent else s.link.begun f.bytes.length s.now
    if s.now < due then f.bytes[n - 1]? else none

/-! ## The rows -/

/-- R176. The outbound arbiter starts the next frame. -/
def outboundFrameStart (s : State) : State := { s with link := s.link.arbitrate s.now }

/-- R174, R176, R177. The last byte of the outbound frame has been sent; a frame held between two bytes has no last byte
sent. -/
def outboundFrameEnd (s : State) : State :=
  match s.link.sending with
  | none => s
  | some f =>
    if s.link.held f then s
    else
      let s := s.advance (s.link.frameDue f)
      { s with link := s.link.endFrame }

/-- R177. HOLD-OFF is asserted. -/
def holdOffAssert (s : State) : State := { s with link := s.link.hold s.now }

/-- R177. HOLD-OFF is deasserted; at a frame boundary the arbiter makes its choice at that moment (log 15). -/
def holdOffDeassert (s : State) : State :=
  { s with link := (s.link.release s.now).arbitrate s.now }

/-! ## Meanings -/

/-- OUTBOUND_FRAME_START (R176). -/
def execOutboundFrameStart (s : State) : Answer := .next (outboundFrameStart s)

/-- OUTBOUND_FRAME_END (R174, R176). -/
def execOutboundFrameEnd (s : State) : Answer := .next (outboundFrameEnd s)

/-- HOLD_OFF_ASSERT (R177). -/
def execHoldOffAssert (s : State) : Answer := .next (holdOffAssert s)

/-- HOLD_OFF_DEASSERT (R177). -/
def execHoldOffDeassert (s : State) : Answer := .next (holdOffDeassert s)

end Sys2Proof.Machine
end

