-- ==== Sys2Proof/Machine/Dispatch.lean ====
section
/-! DEFINITION. One arm for each row of the table. -/

namespace Sys2Proof.Machine

/-- What a row does to everything but the queue. -/
def exec (i : Instr) (s : State) : Host.Outcome State Fault Refusal :=
  match i with
  | .powerOn straps => Sys2Proof.Machine.execPowerOn straps s
  | .resetPin straps => Sys2Proof.Machine.execResetPin straps s
  | .loadEnd image => Sys2Proof.Machine.execLoadEnd image s
  | .inboundByte b stop => Sys2Proof.Machine.execInboundByte b stop s
  | .interByteTimeout => Sys2Proof.Machine.execInterByteTimeout s
  | .discardQuietTimeout => Sys2Proof.Machine.execDiscardQuietTimeout s
  | .unknownCommandKind kind body => Sys2Proof.Machine.execUnknownCommandKind kind body s
  | .outboundFrameStart => Sys2Proof.Machine.execOutboundFrameStart s
  | .outboundFrameEnd => Sys2Proof.Machine.execOutboundFrameEnd s
  | .holdOffAssert => Sys2Proof.Machine.execHoldOffAssert s
  | .holdOffDeassert => Sys2Proof.Machine.execHoldOffDeassert s
  | .getStatus => Sys2Proof.Machine.execGetStatus s
  | .startService => Sys2Proof.Machine.execStartService s
  | .stopService => Sys2Proof.Machine.execStopService s
  | .setOption offset value => Sys2Proof.Machine.execSetOption offset value s
  | .getOption offset => Sys2Proof.Machine.execGetOption offset s
  | .setRoute route dest pStand qStand reload action => Sys2Proof.Machine.execSetRoute route dest pStand qStand reload action s
  | .getRoute route clear => Sys2Proof.Machine.execGetRoute route clear s
  | .rearmRoute route => Sys2Proof.Machine.execRearmRoute route s
  | .submitText target cells => Sys2Proof.Machine.execSubmitText target cells s
  | .clearSpool spool => Sys2Proof.Machine.execClearSpool spool s
  | .acceptCall => Sys2Proof.Machine.execAcceptCall s
  | .declineCall => Sys2Proof.Machine.execDeclineCall s
  | .placeCall => Sys2Proof.Machine.execPlaceCall s
  | .clearCall => Sys2Proof.Machine.execClearCall s
  | .sendAnswerback => Sys2Proof.Machine.execSendAnswerback s
  | .sendEnquiry => Sys2Proof.Machine.execSendEnquiry s
  | .sendBreak => Sys2Proof.Machine.execSendBreak s
  | .resumeSend => Sys2Proof.Machine.execResumeSend s
  | .getCall => Sys2Proof.Machine.execGetCall s
  | .getLineQuality clear => Sys2Proof.Machine.execGetLineQuality clear s
  | .listMessages start => Sys2Proof.Machine.execListMessages start s
  | .getMessage number => Sys2Proof.Machine.execGetMessage number s
  | .fetchMessage number offset count => Sys2Proof.Machine.execFetchMessage number offset count s
  | .deleteMessage number => Sys2Proof.Machine.execDeleteMessage number s
  | .replayMessage number target => Sys2Proof.Machine.execReplayMessage number target s
  | .cancelReplay => Sys2Proof.Machine.execCancelReplay s
  | .printerHold => Sys2Proof.Machine.execPrinterHold s
  | .printerRelease => Sys2Proof.Machine.execPrinterRelease s
  | .printerReset => Sys2Proof.Machine.execPrinterReset s
  | .punchOn => Sys2Proof.Machine.execPunchOn s
  | .punchOff => Sys2Proof.Machine.execPunchOff s
  | .punchFeed count => Sys2Proof.Machine.execPunchFeed count s
  | .punchRelease => Sys2Proof.Machine.execPunchRelease s
  | .punchReset => Sys2Proof.Machine.execPunchReset s
  | .setKeyboardMode mode => Sys2Proof.Machine.execSetKeyboardMode mode s
  | .storeRead offset count => Sys2Proof.Machine.execStoreRead offset count s
  | .storeWrite offset bytes => Sys2Proof.Machine.execStoreWrite offset bytes s
  | .storeOperationEnd ack bytes => Sys2Proof.Machine.execStoreOperationEnd ack bytes s
  | .storeWritePollTimeout => Sys2Proof.Machine.execStoreWritePollTimeout s
  | .reload => Sys2Proof.Machine.execReload s
  | .restart => Sys2Proof.Machine.execRestart s
  | .rxFilteredChange level te => Sys2Proof.Machine.execRxFilteredChange level te s
  | .startSample => Sys2Proof.Machine.execStartSample s
  | .unitSample => Sys2Proof.Machine.execUnitSample s
  | .stopSample => Sys2Proof.Machine.execStopSample s
  | .breakThreshold => Sys2Proof.Machine.execBreakThreshold s
  | .clearThreshold => Sys2Proof.Machine.execClearThreshold s
  | .turnaroundGuardExpiry => Sys2Proof.Machine.execTurnaroundGuardExpiry s
  | .characterSent => Sys2Proof.Machine.execCharacterSent s
  | .breakKeyingEnd => Sys2Proof.Machine.execBreakKeyingEnd s
  | .callRecognition => Sys2Proof.Machine.execCallRecognition s
  | .withdrawal => Sys2Proof.Machine.execWithdrawal s
  | .offerTimeout => Sys2Proof.Machine.execOfferTimeout s
  | .confirmation => Sys2Proof.Machine.execConfirmation s
  | .confirmTimeout => Sys2Proof.Machine.execConfirmTimeout s
  | .idleTimeout => Sys2Proof.Machine.execIdleTimeout s
  | .enquiryDelayExpiry => Sys2Proof.Machine.execEnquiryDelayExpiry s
  | .captureWindowExpiry => Sys2Proof.Machine.execCaptureWindowExpiry s
  | .clearingEnd => Sys2Proof.Machine.execClearingEnd s
  | .clearingTimeout => Sys2Proof.Machine.execClearingTimeout s
  | .releasingEnd => Sys2Proof.Machine.execReleasingEnd s
  | .runUpExpiry => Sys2Proof.Machine.execRunUpExpiry s
  | .runOnExpiry => Sys2Proof.Machine.execRunOnExpiry s
  | .selectEnd => Sys2Proof.Machine.execSelectEnd s
  | .strikeEnd => Sys2Proof.Machine.execStrikeEnd s
  | .punchPulseEnd => Sys2Proof.Machine.execPunchPulseEnd s
  | .feedPulseEnd => Sys2Proof.Machine.execFeedPulseEnd s
  | .settleFixedEnd m => Sys2Proof.Machine.execSettleFixedEnd m s
  | .settleSampledReading m busy => Sys2Proof.Machine.execSettleSampledReading m busy s
  | .settleAddEnd m => Sys2Proof.Machine.execSettleAddEnd m s
  | .extendedReading m busy => Sys2Proof.Machine.execExtendedReading m busy s
  | .bellTimerExpiry => Sys2Proof.Machine.execBellTimerExpiry s
  | .paperOutChange asserted te => Sys2Proof.Machine.execPaperOutChange asserted te s
  | .paperRestoreExpiry => Sys2Proof.Machine.execPaperRestoreExpiry s
  | .paperLowChange asserted te => Sys2Proof.Machine.execPaperLowChange asserted te s
  | .inputFilterStart input asserted => Sys2Proof.Machine.execInputFilterStart input asserted s
  | .holdWaitExpiry => Sys2Proof.Machine.execHoldWaitExpiry s
  | .tapeOutChange asserted te => Sys2Proof.Machine.execTapeOutChange asserted te s
  | .tapeRestoreExpiry => Sys2Proof.Machine.execTapeRestoreExpiry s
  | .tapeLowChange asserted te => Sys2Proof.Machine.execTapeLowChange asserted te s
  | .releaseTimerExpiry => Sys2Proof.Machine.execReleaseTimerExpiry s
  | .confirmedPress p => Sys2Proof.Machine.execConfirmedPress p s
  | .confirmedRelease p => Sys2Proof.Machine.execConfirmedRelease p s
  | .replayCopy => Sys2Proof.Machine.execReplayCopy s
  | .storeByte0Read byte => Sys2Proof.Machine.execStoreByte0Read byte s

end Sys2Proof.Machine
end

