-- ==== Sys2Proof/Safety.lean ====
section
/-! DEFINITION. What a sound state of the part is: the invariants that claims speak of, block by block, and the
words in which claims say that a command may be given. -/

namespace Sys2Proof.Machine

/-! ## Commands -/

/-- R172 to R174, R184: a command given now is taken by its owner: no frame is in assembly, no reply is pending, no
OUT OF TURN answer is owed, and the loader is READY. -/
structure State.TakesCommands (s : State) : Prop where
  inbound : s.link.inbound = .empty
  reply : s.link.pendingReply = .none
  answer : s.link.outOfTurn = .none
  loader : s.isl.loader = .ready

/-- Section 10.7: the kind and the body of the frame that a row stands for; `none` for an event that is no
command of the host. -/
def commandFrame : Instr → Option (Byte × List Byte)
  | .powerOn _ => none
  | .resetPin _ => none
  | .loadEnd _ => none
  | .inboundByte _ _ => none
  | .interByteTimeout => none
  | .discardQuietTimeout => none
  | .unknownCommandKind kind body => some (kind, body)
  | .outboundFrameStart => none
  | .outboundFrameEnd => none
  | .holdOffAssert => none
  | .holdOffDeassert => none
  | .getStatus => some (0x01, [])
  | .startService => some (0x02, [])
  | .stopService => some (0x03, [])
  | .setOption offset value => some (0x04, offset :: wordBytes value)
  | .getOption offset => some (0x05, [offset])
  | .setRoute route destinations printStandIn punchStandIn reload action =>
    some (0x06, [route, destinations, printStandIn, punchStandIn] ++ wordBytes reload ++ [action])
  | .getRoute route clear => some (0x07, [route, clear])
  | .rearmRoute route => some (0x08, [route])
  | .submitText target cells => some (0x09, target :: cells)
  | .clearSpool spool => some (0x0A, [spool])
  | .acceptCall => some (0x0B, [])
  | .declineCall => some (0x0C, [])
  | .placeCall => some (0x0D, [])
  | .clearCall => some (0x0E, [])
  | .sendAnswerback => some (0x0F, [])
  | .sendEnquiry => some (0x10, [])
  | .sendBreak => some (0x11, [])
  | .resumeSend => some (0x12, [])
  | .getCall => some (0x13, [])
  | .getLineQuality clear => some (0x14, [clear])
  | .listMessages start => some (0x15, [start])
  | .getMessage number => some (0x16, [number])
  | .fetchMessage number offset count => some (0x17, [number] ++ wordBytes offset ++ [count])
  | .deleteMessage number => some (0x18, [number])
  | .replayMessage number target => some (0x19, [number, target])
  | .cancelReplay => some (0x1A, [])
  | .printerHold => some (0x1B, [])
  | .printerRelease => some (0x1C, [])
  | .printerReset => some (0x1D, [])
  | .punchOn => some (0x1E, [])
  | .punchOff => some (0x1F, [])
  | .punchFeed count => some (0x20, [count])
  | .punchRelease => some (0x21, [])
  | .punchReset => some (0x22, [])
  | .setKeyboardMode mode => some (0x23, [mode])
  | .storeRead offset count => some (0x24, [offset, count])
  | .storeWrite offset bytes => some (0x25, offset :: bytes)
  | .storeOperationEnd _ _ => none
  | .storeWritePollTimeout => none
  | .reload => some (0x26, [])
  | .restart => some (0x27, [])
  | .rxFilteredChange _ _ => none
  | .startSample => none
  | .unitSample => none
  | .stopSample => none
  | .breakThreshold => none
  | .clearThreshold => none
  | .turnaroundGuardExpiry => none
  | .characterSent => none
  | .breakKeyingEnd => none
  | .callRecognition => none
  | .withdrawal => none
  | .offerTimeout => none
  | .confirmation => none
  | .confirmTimeout => none
  | .idleTimeout => none
  | .enquiryDelayExpiry => none
  | .captureWindowExpiry => none
  | .clearingEnd => none
  | .clearingTimeout => none
  | .releasingEnd => none
  | .runUpExpiry => none
  | .runOnExpiry => none
  | .selectEnd => none
  | .strikeEnd => none
  | .punchPulseEnd => none
  | .feedPulseEnd => none
  | .settleFixedEnd _ => none
  | .settleSampledReading _ _ => none
  | .settleAddEnd _ => none
  | .extendedReading _ _ => none
  | .bellTimerExpiry => none
  | .paperOutChange _ _ => none
  | .paperRestoreExpiry => none
  | .paperLowChange _ _ => none
  | .inputFilterStart _ _ => none
  | .holdWaitExpiry => none
  | .tapeOutChange _ _ => none
  | .tapeRestoreExpiry => none
  | .tapeLowChange _ _ => none
  | .releaseTimerExpiry => none
  | .confirmedPress _ => none
  | .confirmedRelease _ => none
  | .replayCopy => none
  | .storeByte0Read _ => none

/-! ## The Character Store -/

/-- R1: every block of the store, by its holder: the free list, the five spools, and the chains. -/
def State.everyBlock (s : State) : List Nat :=
  s.store.free ++ s.store.pLine.chain ++ s.store.pLocal.chain ++ s.store.pSubmit.chain ++
    s.store.punch.chain ++ s.store.send.chain ++ (s.file.records.map Message.chain).flatten

/-- R1: each of the 384 blocks has exactly one holder. Message numbers differ (R94), so that a number names one
chain. -/
structure State.BlocksHeld (s : State) : Prop where
  once : s.everyBlock.Perm (List.range Config.blocks)
  numbers : (s.file.records.map Message.number).Nodup

/-- R4, R5: an empty spool holds no block; one with cells holds as many as its cells and its head offset need, and no
more than its share. -/
def Spool.shaped (p : Spool) (share : Nat) : Prop :=
  if p.cells = [] then p.chain = []
  else p.headOffset < Config.blockCells ∧
    p.chain.length = (p.headOffset + p.cells.length + 15) / Config.blockCells ∧
    p.chain.length ≤ share

/-- R4, R5: the five spools. -/
structure State.SpoolsShaped (s : State) : Prop where
  pLine : s.store.pLine.shaped 96
  pLocal : s.store.pLocal.shaped 16
  pSubmit : s.store.pSubmit.shaped 48
  punch : s.store.punch.shaped 96
  send : s.store.send.shaped 32

/-! ## The Message File -/

/-- R93, R94, R96 to R98, R12: what holds of a message record. -/
structure Message.Sound (m : Message) : Prop where
  number : 1 ≤ m.number ∧ m.number ≤ 255
  cells : 1 ≤ m.cells.length ∧ m.cells.length ≤ Config.chainCells
  chain : m.chain.length = (m.cells.length + 15) / Config.blockCells
  growing : m.state = .receiving → m.cells.length < Config.chainCells

/-- R93, R94, R105: the records, of which at most one is RECEIVING, and the replay. -/
structure State.FileSound (s : State) : Prop where
  few : s.file.records.length ≤ Config.fileRecords
  numbers : (s.file.records.map Message.number).Nodup
  each : ∀ m ∈ s.file.records, m.Sound
  receiving : s.file.records.countP (fun m => m.state == .receiving) ≤ 1
  replaying : ∀ m ∈ s.file.records,
    m.state = .replaying ↔ s.file.replay.map Replay.number = some m.number
  replay : ∀ r ∈ s.file.replay,
    ∃ m ∈ s.file.records, m.number = r.number ∧ r.position < m.cells.length

/-! ## The notice queue -/

/-- R178: at most 16 notices wait, and no two of one coalescable kind. -/
structure State.NoticesSound (s : State) : Prop where
  few : s.link.notices.length ≤ Config.noticeSlots
  coalesced : (s.link.notices.filterMap fun n => n.body.coalesce).Nodup

/-! ## Options, timing and the carriage -/

/-- R185, R188, R189, R66: the 43 set values are values of their options and stand in the ordering, and so do the line
timing values in effect. -/
structure State.OptionsSound (s : State) : Prop where
  count : s.isl.options.length = 43
  each : ∀ n ∈ OptionName.all, n.spec.kind.admits (s.opt n) = true
  ordered : optionsOrdered s.isl.options = true
  inEffect : timingOrdered s.timing.unit s.timing.stop s.timing.breakRec s.timing.breakLen
    s.timing.clearRec = true

/-- R121: the width in effect is one LINE WIDTH may have, and a known column lies below it. -/
structure State.CarriageSound (s : State) : Prop where
  options : s.OptionsSound
  width : 40 ≤ s.printer.width ∧ s.printer.width ≤ 80
  column : ∀ c ∈ s.printer.column, c < s.printer.width

/-- R111, R112, R114, R116: a commitment is to the head cell of the current spool, and a hold-wait is for a current
spool that is empty. -/
structure State.ArbiterSound (s : State) : Prop where
  committed : s.printer.committed = true → ∃ n ∈ s.printer.current, s.printSpoolEmpty n = false
  waiting : s.printer.holdWait ≠ .notWaiting → ∃ n ∈ s.printer.current, s.printSpoolEmpty n = true

/-! ## The motor and the cycles -/

/-- R163: the motor is on its way to RUNNING, or RUNNING, while the demand set is not empty, and never RUNNING while it
is empty. -/
def Motor.followsDemand (m : Motor) : Prop :=
  match m.state with
  | .off | .runOn _ => m.demand.isEmpty = true
  | .running => m.demand.isEmpty = false
  | .runUp _ => True

/-- Whether a print cycle is in its settle (R118). -/
def Printer.settling (p : Printer) : Bool := p.cycle.any fun c => c.phase == .settle

/-- Whether a punch cycle is in its settle (R139). -/
def Punch.settling (p : Punch) : Bool := p.cycle.any fun c => c.phase == .settle

/-- R131, R146, R162, R164, R165, R167: a cycle runs only with its member placed, the motor RUNNING and no fault; a settle
record is busy exactly while its cycle settles; and PRINT stands withdrawn only while it is not in the set, in RUN-UP or
RUNNING. -/
structure State.CyclesSound (s : State) : Prop where
  motor : s.motor.followsDemand
  print : s.printer.cycle.isSome = true →
    s.motor.demand.print = true ∧ s.motor.state = .running ∧ s.printer.fault = false
  punch : s.punch.cycle.isSome = true →
    s.motor.demand.punch = true ∧ s.motor.state = .running ∧ s.punch.fault = false
  printSettle : s.motor.printTiming.phase ≠ .idle ↔ s.printer.settling = true
  punchSettle : s.motor.punchTiming.phase ≠ .idle ↔ s.punch.settling = true
  withdrawn : s.motor.printWithdrawn = true →
    s.motor.demand.print = false ∧ (s.motor.state = .running ∨ ∃ due, s.motor.state = .runUp due)

/-! ## The punch -/

/-- R134, R136, R137, R141: the PUNCH spool holds one owner's cells only, and every count, mark and timer of the punch
belongs to the owner that may have it. -/
structure State.PunchOwned (s : State) : Prop where
  unowned : s.punch.owner = none → s.store.punch.cells = []
  streams : ∀ e ∈ s.store.punch.cells, e.stream = s.punch.owner
  leader : s.punch.leader ≠ 0 → s.punch.owner = some .line
  lineRelease : s.punch.lineRelease ≠ .none → s.punch.owner = some .line
  trailer : ∀ n, s.punch.lineRelease = .trailer n → s.store.punch.cells = [] ∧ s.punch.leader = 0
  localRelease : s.punch.localRelease = true → s.punch.owner = some .loc
  submittedRelease : s.punch.submittedRelease = true → s.punch.owner = some .submitted
  clearRelease : s.punch.clearRelease = true →
    s.punch.owner = some .loc ∨ s.punch.owner = some .submitted
  feedRequest : s.punch.feedRequest.isSome = true → s.punch.owner = some .submitted
  feedHeld : s.punch.feedHeld = true → s.punch.owner = some .loc
  committed : s.punch.committed = true → s.store.punch.cells ≠ []
  releaseTimer : s.punch.releaseTimer.isSome = true →
    (s.punch.owner = some .loc ∨ s.punch.owner = some .submitted) ∧ s.punchAtRest = true

/-! ## Calls and the line -/

/-- R71 to R88: each timer of the Call Controller runs only in the state that uses it. -/
structure Call.TimersInState (c : Call) : Prop where
  recognition : c.recognition.isSome = true → c.state = .idle
  withdrawal : c.withdrawal.isSome = true → c.state = .offered ∨ c.state = .answering
  offer : c.offer.isSome = true → c.state = .offered
  confirm : c.confirm.isSome = true → c.state = .calling
  markTiming : c.markTiming.isSome = true → c.state = .calling
  idle : c.idle.isSome = true → c.state = .connected
  enquiryDelay : c.enquiryDelay.isSome = true → c.state = .connected
  capture : c.capture.isSome = true → c.state = .connected
  clearing : c.clearing.isSome = true → c.state = .clearing
  clearSpace : c.clearSpace.isSome = true → c.state = .clearing
  releasing : c.releasing.isSome = true → c.state = .releasing

/-- R89: the state of the call record that goes with a state of the Call Controller. -/
def CallState.recordState : CallState → CallRecordState
  | .outOfService | .idle | .releasing => .ended
  | .offered => .offered
  | .answering => .answering
  | .calling => .calling
  | .connected => .connected
  | .clearing => .clearing

/-- R162: whether the Call Controller has CALL placed in a state; RELEASING may come with it or without. -/
def CallState.mayDemand : CallState → Bool
  | .outOfService | .idle | .offered => false
  | _ => true

/-- R162: whether a state of the Call Controller needs CALL placed. -/
def CallState.mustDemand : CallState → Bool
  | .answering | .calling | .connected | .clearing => true
  | _ => false

/-- R40, R55, R65, R70, R76, R84, R89, R162, R164, R184: the Call Controller, the line blocks, the motor's CALL member
and the loader go together. -/
structure State.CallSound (s : State) : Prop where
  timers : s.call.TimersInState
  record : s.call.record.state = s.call.state.recordState
  stopPending : s.call.stopPending = true → s.call.state = .clearing ∨ s.call.state = .releasing
  clearCause : s.call.state = .clearing → s.call.clearCause.isSome = true
  receiver : s.lrx.state = .disabled ↔ s.call.state ≠ .connected
  guard : s.lrx.guard.isSome = true → s.call.state = .connected
  sender : s.call.state ≠ .connected → s.ltx = Ltx.reset
  send : s.call.state ≠ .connected → s.store.send.cells = []
  loading : s.isl.loader ≠ .ready → s.call.state = .outOfService
  motor : s.motor.followsDemand
  running : s.call.state = .connected → s.motor.state = .running
  placed : s.call.state.mustDemand = true → s.motor.demand.call = true
  removed : s.motor.demand.call = true → s.call.state.mayDemand = true

/-! ## The keyboard and the loader -/

/-- R148, R149, R151, R159, R160: 64 positions, each with the pass of its next third reading, which is not before pass 2;
LOCKED and not scanned while the loader is not READY; and without a key map RAW or LOCKED. -/
structure State.KeyboardSound (s : State) : Prop where
  positions : s.keyboard.positions.length = Config.keyPositions
  thirds : s.keyboard.thirdFrom.length = Config.keyPositions ∧ ∀ k ∈ s.keyboard.thirdFrom, 2 ≤ k
  scanned : s.keyboard.scanStart.isSome = s.ready
  locked : s.ready = false → s.keyboard.mode = .locked
  keyMap : s.isl.keyMap = none → s.keyboard.mode = .raw ∨ s.keyboard.mode = .locked
  entries : ∀ l ∈ s.isl.keyMap, l.length = Config.keyPositions

/-! ## The Control Link -/

/-- The turn of the frame in assembly (R174). -/
def Inbound.turn : Inbound → Option Turn
  | .kindReceived _ turn _ => some turn
  | .inBody _ turn _ _ _ => some turn
  | _ => none

/-- The kind of the frame in assembly (R172). -/
def Inbound.kind : Inbound → Option Byte
  | .kindReceived kind _ _ => some kind
  | .inBody kind _ _ _ _ => some kind
  | _ => none

/-- R172: the length counted so far lies within what a body may hold. -/
def Inbound.bounded : Inbound → Prop
  | .inBody _ _ toCome got _ => 1 ≤ toCome ∧ got.length + toCome ≤ Config.bodyMax
  | _ => True

/-- Whether the loader is loading at a RELOAD command (R191). -/
def Isl.reloading (i : Isl) : Bool :=
  match i.loader with
  | .loading l => l.occasion == .reload
  | .ready => false

/-- Whether the frame being sent is a reply (R174). -/
def Link.sendsReply (l : Link) : Bool :=
  match l.sending with
  | some (.reply _) => true
  | _ => false

/-- Whether the frame being sent is an OUT OF TURN answer (R174). -/
def Link.sendsAnswer (l : Link) : Bool :=
  match l.sending with
  | some (.outOfTurn _) => true
  | _ => false

/-- R172, R174, R177, R190, R191: the pending reply and the one OUT OF TURN answer follow the frame sent and the frame
in assembly, a reply that is not ready is that of a store command or of RELOAD, and no more bytes of a frame are sent
than it has. -/
structure State.LinkSound (s : State) : Prop where
  reply : s.link.pendingReply = .sending ↔ s.link.sendsReply = true
  answer : s.link.outOfTurn = .sending ↔ s.link.sendsAnswer = true
  inTurn : s.link.inbound.turn = some .inTurn → s.link.freeForCommand = true
  outOfTurn : ∀ kind, s.link.outOfTurn = .framing kind ↔
    s.link.inbound.turn = some .outOfTurn ∧ s.link.inbound.kind = some kind
  awaited : s.link.pendingReply = .awaited none ↔ (s.isl.storeOp.isSome = true ∨ s.isl.reloading = true)
  oneCommand : ¬ (s.isl.storeOp.isSome = true ∧ s.isl.reloading = true)
  body : s.link.inbound.bounded
  place : ∀ f ∈ s.link.sending, s.link.sent ≤ f.bytes.length

/-! ## What the choices leave alone -/

/-- A spool keeps its cells, or gives up the oldest one (R9). -/
def Spool.keepsOrDrops (p q : Spool) : Prop := q.cells = p.cells ∨ q.cells = p.cells.tail

/-- What the printer leaves alone in its choice (R112). -/
structure Printer.ChoiceKeeps (p q : Printer) : Prop where
  fault : q.fault = p.fault
  paper : q.paper = p.paper
  hold : q.hold = p.hold
  paperOut : q.paperOut = p.paperOut
  paperLow : q.paperLow = p.paperLow
  restore : q.restore = p.restore
  column : q.column = p.column
  width : q.width = p.width
  mechCase : q.mechCase = p.mechCase
  resetPending : q.resetPending = p.resetPending
  cycle : p.cycle.isSome = true → q.cycle = p.cycle

/-- What the punch leaves alone in its choice (R138). -/
structure Punch.ChoiceKeeps (p q : Punch) : Prop where
  fault : q.fault = p.fault
  switch : q.switch = p.switch
  tape : q.tape = p.tape
  tapeOut : q.tapeOut = p.tapeOut
  tapeLow : q.tapeLow = p.tapeLow
  restore : q.restore = p.restore
  feedHeld : q.feedHeld = p.feedHeld
  cycle : p.cycle.isSome = true → q.cycle = p.cycle

/-- What the mechanisms and the Line Sender leave alone when they take up what a step gives them: every block but the
store's heads, the demands, the cycles they start, the punch's owner and the sender's keying (R57, R112, R138). -/
structure State.ChoicesKeep (s t : State) : Prop where
  routes : t.routes = s.routes
  timing : t.timing = s.timing
  lrx : t.lrx = s.lrx
  call : t.call = s.call
  file : t.file = s.file
  keyboard : t.keyboard = s.keyboard
  link : t.link = s.link
  isl : t.isl = s.isl
  now : t.now = s.now
  freeIndex : t.freeIndex = s.freeIndex
  pending : t.pending = s.pending
  printer : s.printer.ChoiceKeeps t.printer
  punch : s.punch.ChoiceKeeps t.punch
  hold : t.ltx.hold = s.ltx.hold
  enquiry : t.ltx.enquiryRequest = s.ltx.enquiryRequest
  keying : s.ltx.activity ≠ .idle → t.ltx = s.ltx
  callDemand : t.motor.demand.call = s.motor.demand.call
  printTiming : t.motor.printTiming = s.motor.printTiming
  punchTiming : t.motor.punchTiming = s.motor.punchTiming
  bell : t.motor.bell = s.motor.bell
  episode : t.store.episode = s.store.episode
  pLine : s.store.pLine.keepsOrDrops t.store.pLine
  pLocal : s.store.pLocal.keepsOrDrops t.store.pLocal
  pSubmit : s.store.pSubmit.keepsOrDrops t.store.pSubmit
  punchSpool : s.store.punch.keepsOrDrops t.store.punch
  send : s.store.send.keepsOrDrops t.store.send

/-! ## Power-on values -/

/-- A filter that holds no level, with no sample taken (R124, R142). -/
def Filter.untaken (f : Filter) : Prop := f.level = none ∧ f.run = 0

/-- R184: the values of power-on and of the RESET pin, as the chapters give them (R2, R5, R15, R40, R52, R55, R68,
R89, R109, R124, R132, R142, R147, R152, R160, R162, R163, R170 to R172, R174, R178, R179, R183, R184). The routes are
the model's choice before the first load (log 6), the straps are those of the row (log 17), the count of SEND cells
discarded is the model's choice (log 38), and so are the head offset of an empty spool (log 39) and the elapsed seconds
of the call record (log 42). -/
structure State.AtPowerOn (t : State) (occasion : LoadOccasion) (straps : BitVec 2) : Prop where
  free : t.store.freeCount = 384 ∧ t.store.episode = .closed
  spools : ∀ n : SpoolName, t.store.spool n = Spool.empty
  routes : t.routes = Routes.default
  receiver : t.lrx.level = .space ∧ t.lrx.state = .disabled ∧ t.lrx.guard = none ∧
    t.lrx.quality = LineQuality.zero ∧ t.lrx.poorRun = 0
  sender : t.ltx.sendState = .rest ∧ t.ltx.breakRequest = false ∧ t.ltx.answerback = none ∧
    t.ltx.enquiryRequest = false ∧ t.txLevel = .space
  call : t.call.state = .outOfService ∧ t.call.stopPending = false ∧ t.call.stopTimers = t.call ∧
    t.call.clearCause = none ∧ t.call.sendDiscarded = 0
  record : t.call.record.kind = .none ∧ t.call.record.state = .ended ∧ t.call.record.outcome = none ∧
    t.call.record.elapsed = 0 ∧ t.call.record.received = 0 ∧ t.call.record.sent = 0 ∧
    t.call.record.breaks = 0 ∧ t.call.record.lineCase = .unknown ∧ t.call.record.caller = none
  file : t.file.records = [] ∧ t.file.nextNumber = 1 ∧ t.file.lastPart = 0 ∧ t.file.replay = none
  printer : t.printer.status = .noPaper ∧ t.printer.fault = false ∧ t.printer.hold = false ∧
    t.printer.paper = false ∧ t.printer.cycle = none ∧ t.printer.column = none ∧
    t.printer.mechCase = .unknown ∧ t.printer.resetPending = false
  arbiter : t.printer.current = none ∧ t.printer.lineOpen = false ∧ t.printer.pointer = .pSubmit ∧
    (∀ n, t.printer.interrupted n = false) ∧ t.printer.committed = false ∧
    t.printer.newlineOwed = .none ∧ t.printer.holdWait = .notWaiting
  paper : t.printer.restore = none ∧ t.printer.paperOut.untaken ∧ t.printer.paperLow.untaken
  punch : t.punch.owner = none ∧ t.punch.tapeCase = .unknown ∧ t.punch.fault = false ∧
    t.punch.cycle = none ∧ t.punch.tape = false ∧ t.punch.committed = false ∧ t.punch.leader = 0
  releases : t.punch.lineRelease = .none ∧ t.punch.localRelease = false ∧
    t.punch.submittedRelease = false ∧ t.punch.clearRelease = false ∧ t.punch.releaseTimer = none ∧
    t.punch.feedRequest = none ∧ t.punch.feedHeld = false
  tape : t.punch.restore = none ∧ t.punch.tapeOut.untaken ∧ t.punch.tapeLow.untaken
  keyboard : t.keyboard.mode = .locked ∧ t.keyboard.kbdCase = .letters ∧
    t.keyboard.scanStart = none ∧ t.keyboard.positions = Keyboard.allUp ∧
    t.keyboard.thirdFrom = Keyboard.firstThirds ∧ t.keyboard.nextReading = 0
  motor : t.motor.state = .off ∧ t.motor.demand.isEmpty = true ∧ t.motor.printWithdrawn = false ∧ t.bellOutput = false ∧
    t.motor.printTiming.phase = .idle ∧ t.motor.punchTiming.phase = .idle
  link : t.link.inbound = .empty ∧ t.link.pendingReply = .none ∧ t.link.outOfTurn = .none ∧
    t.link.sending = none ∧ t.link.notices = [] ∧ t.link.lostMark = false ∧ t.link.straps = straps
  loader : t.isl.presence = .notYetKnown ∧ t.isl.storeOp = none ∧
    t.isl.loader = .loading { occasion := occasion, byte0Read := false, modeBefore := .locked }

end Sys2Proof.Machine
end

