-- ==== Sys2Proof/Certificates/Slice0/Obligations.lean ====
section
/-! DEFINITION. The statements for the provers: what the rows of the part do, rule by rule, and what every step
keeps. -/

section Statements

open Sys2Proof Sys2Proof.Machine

/-- A step runs the row at the front of the queue; with none it is one tick (log 2). The machine takes the rows of
its queue first in, first out. The clock passes while nothing is commanded; log 2. -/
def Obligations.StepRunsTheFrontRowOrTicks : Prop :=
  (∀ (c : Instr) (rest : List Instr) (s : State),
    step { s with pending := c :: rest } = exec c { s with pending := rest }) ∧
  (∀ s : State, s.pending = [] → step s = .next { s with now := s.now + 1 })

/-- POWER_ON and RESET_PIN complete and leave the power-on values. R184 over the power-on column of every chapter.
Six clauses are the model's choice: the routes are their defaults before the first load (log 6; R22 gives the fields
from the load only), the count of SEND cells discarded is 0 (log 38; R11 and R85 give no value before a CLEARING),
the head offset within Spool.empty is 0 (log 39; R5 gives it no meaning), the elapsed seconds of the call record are
0 (log 42; R89 names the counts only), the level of HOLD-OFF is kept, and the straps of State.reset are 00 (both log
17). Logs 5 and 22 are not rested on: the order of the free list and the ticks that durations are counted from are
not stated. -/
def Obligations.PowerOnAndResetPinGivePowerOnValues : Prop :=
  (∀ (straps : BitVec 2) (s : State),
    (∃ t, exec (.powerOn straps) s = .next t ∧ t.AtPowerOn .powerOn straps ∧
      t.link.holdOff = s.link.holdOff ∧ t.now = s.now ∧ t.pending = s.pending ∧
      t.freeIndex = s.freeIndex) ∧
    (∃ t, exec (.resetPin straps) s = .next t ∧ t.AtPowerOn .resetPin straps ∧
      t.link.holdOff = s.link.holdOff ∧ t.now = s.now ∧ t.pending = s.pending ∧
      t.freeIndex = s.freeIndex)) ∧
  State.reset.AtPowerOn .powerOn 0 ∧ State.reset.pending = []

/-- The state after reset meets every invariant of Safety.lean. The start of every run. -/
def Obligations.ResetMeetsEveryInvariant : Prop :=
  State.reset.BlocksHeld ∧ State.reset.SpoolsShaped ∧ State.reset.FileSound ∧
    State.reset.NoticesSound ∧ State.reset.OptionsSound ∧ State.reset.CarriageSound ∧
    State.reset.ArbiterSound ∧ State.reset.CyclesSound ∧ State.reset.PunchOwned ∧
    State.reset.CallSound ∧ State.reset.KeyboardSound ∧ State.reset.LinkSound

/-- Every step keeps the 384 blocks, each with one holder, and the spools in shape and within their shares. R1: the
sum of free and held blocks is always 384 and no block has two holders. R4 and R5 over every step. -/
def Obligations.EveryStepConservesTheBlocks : Prop :=
  (∀ s t : State, s.BlocksHeld → step s = .next t → t.BlocksHeld) ∧
  (∀ s t : State, s.SpoolsShaped → step s = .next t → t.SpoolsShaped)

/-- Every step keeps the records of the Message File sound. R93 to R98 and R105 over every step. -/
def Obligations.EveryStepKeepsTheFile : Prop :=
  ∀ s t : State, s.FileSound → step s = .next t → t.FileSound

/-- Every step keeps the notice queue within 16 and without two of one coalescable kind. R178: "The notice queue
never holds more than 16 notices, and never holds two notices of the same coalescable kind." -/
def Obligations.EveryStepKeepsTheNoticeQueue : Prop :=
  ∀ s t : State, s.NoticesSound → step s = .next t → t.NoticesSound

/-- Every step keeps the options valid and ordered, the column below the width, and the arbiter sound. R185, R189
and R121 over every step. R114: a hold-wait ends when its spool gains a cell; R116: emptying drops the commitment.
-/
def Obligations.EveryStepKeepsOptionsCarriageAndArbiter : Prop :=
  ((∀ s t : State, s.OptionsSound → step s = .next t → t.OptionsSound) ∧
  (∀ s t : State, s.CarriageSound → step s = .next t → t.CarriageSound)) ∧
  (∀ s t : State, s.ArbiterSound → step s = .next t → t.ArbiterSound)

/-- Every step keeps cycles under a running motor, with their demand and without fault. The whole-machine rule of
R131 and R146: while a cycle is in flight the motor is RUNNING. -/
def Obligations.EveryStepKeepsCyclesUnderPower : Prop :=
  ∀ s t : State, s.CyclesSound → step s = .next t → t.CyclesSound

/-- Every step keeps the PUNCH spool and the releases with one owner. R134 and what R136, R137 and R141 make of it.
-/
def Obligations.EveryStepKeepsThePunchOwner : Prop :=
  ∀ s t : State, s.PunchOwned → step s = .next t → t.PunchOwned

/-- Every step keeps the Call Controller, the line blocks, the CALL demand and the loader together. The rules that
tie the blocks of a call, over every step. -/
def Obligations.EveryStepKeepsCallLineAndMotorTogether : Prop :=
  ∀ s t : State, s.CallSound → step s = .next t → t.CallSound

/-- Every step keeps the keyboard LOCKED while loading, and RAW or LOCKED without a key map. R151, R159 and R160
over every step. -/
def Obligations.EveryStepKeepsTheKeyboard : Prop :=
  ∀ s t : State, s.KeyboardSound → step s = .next t → t.KeyboardSound

/-- Every step keeps the pending reply, the OUT OF TURN answer and the frame being sent in agreement. R174 over
every step, and R177's bytes of the frame being sent. A frame that begins in the time of a RELOAD is out of turn
(R174; for START SERVICE see log 31). -/
def Obligations.EveryStepKeepsTheReplyDiscipline : Prop :=
  ∀ s t : State, s.LinkSound → step s = .next t → t.LinkSound

/-- A command row does exactly what the bytes of its frame do one by one. The 39 commands and UNKNOWN_COMMAND_KIND
against INBOUND_BYTE; section 10.7 gives the bytes. That such a row stands for its whole frame is the model's choice
(log 3). -/
def Obligations.CommandRowIsItsFrame : Prop :=
  ∀ (c : Instr) (kind : Byte) (body : List Byte) (s : State),
    commandFrame c = some (kind, body) →
    exec c s = .next ((frameBytes kind body).foldl State.takeByte s)

/-- The link refuses by kind, then length, then loader, and changes nothing else. R173, checks 1 to 3;
UNKNOWN_COMMAND_KIND is the first of them. That a START SERVICE frame out of turn, as one begun while RELOAD holds
its reply, is no command and is answered by R174 is log 31. -/
def Obligations.LinkChecksComeBeforeTheOwner : Prop :=
  ∀ (c : Instr) (kind : Byte) (body : List Byte) (s : State),
    commandFrame c = some (kind, body) → body.length ≤ 48 →
    s.link.inbound = .empty → s.link.pendingReply = .none → s.link.outOfTurn = .none →
    (¬ (0x01 ≤ kind.toNat ∧ kind.toNat ≤ 0x27) → exec c s = .next (s.refuse kind .unknownKind)) ∧
    (0x01 ≤ kind.toNat ∧ kind.toNat ≤ 0x27 → lengthAllowed kind body.length = false →
      exec c s = .next (s.refuse kind .badLength)) ∧
    (0x01 ≤ kind.toNat ∧ kind.toNat ≤ 0x27 → lengthAllowed kind body.length = true →
      s.isl.loader ≠ .ready → kind ≠ 0x01 → exec c s = .next (s.refuse kind .notReady)) ∧
    (∀ l, c = .startService → s.isl.loader = .loading l →
      exec .startService s = .next (s.refuse 0x02 .notReady)) ∧
    (c = .unknownCommandKind kind body → ¬ (0x01 ≤ kind.toNat ∧ kind.toNat ≤ 0x27) →
      exec (.unknownCommandKind kind body) s = .next (s.refuse kind .unknownKind))

/-- A command refused at any step changes no state but the reply. R173, last sentence, over all commands. -/
def Obligations.RefusedCommandChangesNothing : Prop :=
  ∀ (c : Instr) (kind : Byte) (body : List Byte) (k : Byte) (r : Reason) (s t : State),
    commandFrame c = some (kind, body) → body.length ≤ 48 →
    s.link.inbound = .empty → s.link.pendingReply = .none → s.link.outOfTurn = .none →
    exec c s = .next t → t.link.pendingReply = .awaited (some (.refused k r)) →
    k = kind ∧ t = s.refuse kind r

/-- A command out of turn is discarded and owed one OUT OF TURN answer, a further one none. R174, the out-of-turn
frame. A START SERVICE frame that begins while RELOAD runs is one of these (log 31). -/
def Obligations.OutOfTurnFrameIsOwedOneAnswer : Prop :=
  ∀ (c : Instr) (kind : Byte) (body : List Byte) (s : State),
    commandFrame c = some (kind, body) → body.length ≤ 48 → s.link.inbound = .empty →
    (s.link.pendingReply ≠ .none → s.link.outOfTurn = .none →
      exec c s = .next { s with link := { s.link with outOfTurn := .owed kind } }) ∧
    (s.link.outOfTurn ≠ .none → exec c s = .next s)

/-- INBOUND_BYTE takes each byte as the assembly stands, and the two times end a frame or the discarding. R172, byte
by byte; a complete frame is the matter of CommandRowIsItsFrame. R172, the two times. -/
def Obligations.InboundBytesAndTimersAssembleFrames : Prop :=
  (∀ (b : Byte) (s : State),
    exec (.inboundByte b .space) s = .next s ∧
    (s.link.inbound = .empty → s.link.pendingReply = .none → s.link.outOfTurn = .none →
      exec (.inboundByte b .mark) s = .next { s with link := { s.link with
        inbound := .kindReceived b .inTurn (s.now + 2000) } }) ∧
    (s.link.inbound = .empty → s.link.pendingReply ≠ .none → s.link.outOfTurn = .none →
      exec (.inboundByte b .mark) s = .next { s with link := { s.link with
        inbound := .kindReceived b .outOfTurn (s.now + 2000), outOfTurn := .framing b } }) ∧
    (∀ kind turn due, s.link.inbound = .kindReceived kind turn due →
      1 ≤ b.toNat → b.toNat ≤ 48 →
      exec (.inboundByte b .mark) s = .next { s with link := { s.link with
        inbound := .inBody kind turn b.toNat [] (s.now + 2000) } }) ∧
    (∀ kind due, s.link.inbound = .kindReceived kind .inTurn due → 48 < b.toNat →
      exec (.inboundByte b .mark) s = .next { s with link := { s.link with
        inbound := .discarding (s.now + 2001),
        pendingReply := .awaited (some (.refused kind .badLength)) } }) ∧
    (∀ kind turn n got due, s.link.inbound = .inBody kind turn n got due → 2 ≤ n →
      exec (.inboundByte b .mark) s = .next { s with link := { s.link with
        inbound := .inBody kind turn (n - 1) (got ++ [b]) (s.now + 2000) } }) ∧
    (∀ due, s.link.inbound = .discarding due →
      exec (.inboundByte b .mark) s = .next { s with link := { s.link with
        inbound := .discarding (s.now + 2001) } })) ∧
  (∀ (kind : Byte) (due : Nat) (s : State),
    ((s.link.inbound = .kindReceived kind .inTurn due ∨
        ∃ n got, s.link.inbound = .inBody kind .inTurn n got due) →
      exec .interByteTimeout s = .next { s with
        now := max s.now due
        link := { s.link with inbound := .empty,
                              pendingReply := .awaited (some (.refused kind .incomplete)) } }) ∧
    ((s.link.inbound = .kindReceived kind .outOfTurn due ∨
        ∃ n got, s.link.inbound = .inBody kind .outOfTurn n got due) →
      exec .interByteTimeout s = .next { s with
        now := max s.now due
        link := { s.link with inbound := .empty, outOfTurn := .owed kind } }) ∧
    (s.link.inbound = .discarding due →
      exec .discardQuietTimeout s = .next { s with
        now := max s.now due, link := { s.link with inbound := .empty } }))

/-- The arbiter sends reply, OUT OF TURN answer, then oldest notice; HOLD-OFF holds at the next byte. R174, R176 and
R177. The choice at a deassertion is log 15, and the ticks at which bytes begin and end are log 35. That a byte due
to begin in the tick of HOLD_OFF_ASSERT has begun is the model's choice (log 35). -/
def Obligations.OutboundFramesGoInOrder : Prop :=
  (∀ s : State,
    ((s.link.sending ≠ none ∨ s.link.holdOff = true) → exec .outboundFrameStart s = .next s) ∧
    (s.link.sending = none → s.link.holdOff = false →
      (∀ r, s.link.pendingReply = .awaited (some r) →
        exec .outboundFrameStart s = .next { s with link := { s.link with
          sending := some (.reply r), sent := 0, boundary := s.now, pendingReply := .sending } }) ∧
      (∀ kind, s.link.pendingReply = .none → s.link.outOfTurn = .owed kind →
        exec .outboundFrameStart s = .next { s with link := { s.link with
          sending := some (.outOfTurn (.refused kind .outOfTurn)), sent := 0, boundary := s.now,
          outOfTurn := .sending } }) ∧
      ((∀ r, s.link.pendingReply ≠ .awaited (some r)) →
        (s.link.pendingReply = .none → ∀ kind, s.link.outOfTurn ≠ .owed kind) →
        (∀ n rest, s.link.notices = n :: rest →
          exec .outboundFrameStart s = .next { s with link := { s.link with
            sending := some (.notice n), sent := 0, boundary := s.now, notices := rest } }) ∧
        (s.link.notices = [] → exec .outboundFrameStart s = .next s)))) ∧
  (∀ (s : State) (f : OutFrame), s.link.sending = some f →
    (s.link.holdOff = true → s.link.sent < f.bytes.length →
      exec .outboundFrameEnd s = .next s ∧
      (s.link.boundary ≤ s.now → s.outboundByte = none)) ∧
    ((s.link.holdOff = false ∨ f.bytes.length ≤ s.link.sent) →
      ∀ due u, due = s.link.boundary + s.link.byteTicks (f.bytes.length - s.link.sent) →
        u = { s with now := max s.now due } →
      (∀ r, f = .reply r → exec .outboundFrameEnd s = .next { u with link := { s.link with
        sending := none, pendingReply := .none } }) ∧
      (∀ r, f = .outOfTurn r → exec .outboundFrameEnd s = .next { u with link := { s.link with
        sending := none, outOfTurn := .none } }) ∧
      (∀ n, f = .notice n → exec .outboundFrameEnd s = .next { u with link := { s.link with
        sending := none } })) ∧
    (s.link.holdOff = false →
      (∀ k, s.link.boundary ≤ s.now → k = (s.now - s.link.boundary) * s.link.rate / 1000000 →
        s.link.sent + k < f.bytes.length → s.outboundByte = f.bytes[s.link.sent + k]?) ∧
      (∀ n, n = (if s.now < s.link.boundary then s.link.sent
          else min f.bytes.length
            (s.link.sent + 1 + (s.now - s.link.boundary) * s.link.rate / 1000000)) →
        exec .holdOffAssert s = .next { s with link := { s.link with
          holdOff := true, sent := n,
          boundary := s.link.boundary + s.link.byteTicks (n - s.link.sent) } }) ∧
      exec .holdOffDeassert s = .next s) ∧
    (s.link.holdOff = true →
      exec .holdOffDeassert s = .next { s with link := { s.link with
        holdOff := false, boundary := max s.now s.link.boundary } })) ∧
  (∀ s : State,
    (s.link.holdOff = true → exec .holdOffAssert s = .next s) ∧
    (s.link.sending = none →
      exec .outboundFrameEnd s = .next s ∧
      exec .holdOffAssert s = .next { s with link := { s.link with holdOff := true } } ∧
      exec .holdOffDeassert s =
        exec .outboundFrameStart { s with link := { s.link with holdOff := false } }) ∧
    (∀ n, n * 1000000 ≤ s.link.byteTicks n * s.link.rate ∧
      s.link.byteTicks n * s.link.rate < n * 1000000 + s.link.rate))

/-- A notice replaces its coalescable kind in place, joins the queue, or is dropped and marks the loss. R178 with
the LOST flag of R179. -/
def Obligations.NoticeJoinsReplacesOrIsDropped : Prop :=
  ∀ (l : Link) (body : NoticeBody),
    (∀ pre old post, l.notices = pre ++ old :: post →
      (∀ n ∈ pre, body.coalesces n.body = false) → body.coalesces old.body = true →
      l.queueNotice body = { l with
        notices := pre ++ { body := body, lost := old.lost || l.lostMark } :: post
        lostMark := false }) ∧
    ((∀ n ∈ l.notices, body.coalesces n.body = false) → l.notices.length < 16 →
      l.queueNotice body = { l with
        notices := l.notices ++ [{ body := body, lost := l.lostMark }], lostMark := false }) ∧
    ((∀ n ∈ l.notices, body.coalesces n.body = false) → 16 ≤ l.notices.length →
      l.queueNotice body = { l with lostMark := true })

/-- GET STATUS, START SERVICE and STOP SERVICE complete or are refused as R180, R69 and R70 say. R180, R69, R70. -/
def Obligations.ServiceCommandsComplete : Prop :=
  (∀ s : State,
    (s.link.inbound = .empty → s.link.pendingReply = .none → s.link.outOfTurn = .none →
      exec .getStatus s = .next (s.accept 0x01 (.status
        { ready := s.ready, presence := s.isl.presence, call := s.call.state,
          motor := s.motor.state, printer := s.printer.status, column := s.printer.column,
          punch := s.punch.status, owner := s.punch.owner, mode := s.keyboard.mode,
          free := s.store.free.length, messages := s.file.records.length,
          lost := s.link.lostMark }))) ∧
    (s.TakesCommands →
      (s.call.state = .outOfService →
        exec .startService s = .next ((s.enterCall .idle).accept 0x02 .done) ∧
        exec .stopService s = .next (s.accept 0x03 (.stopService false))) ∧
      (s.call.state = .idle →
        exec .stopService s =
          .next ((s.enterCall .outOfService).accept 0x03 (.stopService false))) ∧
      (s.call.state = .offered →
        exec .stopService s = .next (((s.endRecord .stopService).enterCall .outOfService).accept
          0x03 (.stopService false))) ∧
      (s.call.state = .answering →
        exec .stopService s =
          .next (((((s.demandCall false).endRecord .stopService).enterCall .outOfService).carryOn).accept
            0x03 (.stopService false))) ∧
      (s.call.state = .calling ∨ s.call.state = .connected →
        exec .stopService s =
          .next ((((s.withStop true).enterClearing .stopService).carryOn).accept 0x03
            (.stopService true))) ∧
      (s.call.state = .clearing ∨ s.call.state = .releasing →
        exec .stopService s = .next ((s.withStop true).accept 0x03 (.stopService true)) ∧
        (s.call.stopPending = true →
          exec .startService s = .next ((s.withStop false).accept 0x02 .done))))) ∧
  (∀ s : State, s.TakesCommands →
    (s.call.state = .idle ∨ s.call.state = .offered ∨ s.call.state = .answering ∨
        s.call.state = .calling ∨ s.call.state = .connected ∨
        ((s.call.state = .clearing ∨ s.call.state = .releasing) ∧ s.call.stopPending = false)) →
    exec .startService s = .next (s.refuse 0x02 .wrongState))

/-- The call and line commands act in the states that take them and are refused WRONG STATE in others. R73, R74,
R84; what the entries do is stated by the statements about them. The WRONG STATE answers of chapters 4 and 11. -/
def Obligations.CallCommandsCompleteByTheCallState : Prop :=
  (∀ s : State, s.TakesCommands →
    (s.call.state = .offered →
      exec .acceptCall s = .next (s.enterAnswering.carryOn.accept 0x0B .done) ∧
      exec .declineCall s =
        .next (((s.endRecord .declined).enterReleasing).carryOn.accept 0x0C .done)) ∧
    (s.call.state = .idle →
      exec .placeCall s = .next (s.enterCalling.carryOn.accept 0x0D .done)) ∧
    (s.call.state = .connected ∨ s.call.state = .calling →
      exec .clearCall s = .next ((s.enterClearing .station).carryOn.accept 0x0E .done)) ∧
    (s.call.state = .answering →
      exec .clearCall s = .next ((s.failAttempt .station).carryOn.accept 0x0E .done))) ∧
  (∀ s : State, s.TakesCommands →
    (s.call.state ≠ .offered →
      exec .acceptCall s = .next (s.refuse 0x0B .wrongState) ∧
      exec .declineCall s = .next (s.refuse 0x0C .wrongState)) ∧
    (s.call.state ≠ .idle → exec .placeCall s = .next (s.refuse 0x0D .wrongState)) ∧
    (s.call.state ≠ .connected → s.call.state ≠ .calling → s.call.state ≠ .answering →
      exec .clearCall s = .next (s.refuse 0x0E .wrongState)) ∧
    (s.call.state ≠ .connected →
      exec .sendAnswerback s = .next (s.refuse 0x0F .wrongState) ∧
      exec .sendEnquiry s = .next (s.refuse 0x10 .wrongState) ∧
      exec .sendBreak s = .next (s.refuse 0x11 .wrongState) ∧
      exec .resumeSend s = .next (s.refuse 0x12 .wrongState)) ∧
    (s.call.state ≠ .outOfService → exec .reload s = .next (s.refuse 0x26 .wrongState)))

/-- SEND ANSWERBACK, SEND ENQUIRY, SEND BREAK and RESUME SEND complete in CONNECTED. R78, R82, R83. -/
def Obligations.LineCommandsComplete : Prop :=
  ∀ s : State, s.TakesCommands → s.call.state = .connected →
    (s.ltx.answerback = none → s.isl.answerback ≠ [] →
      exec .sendAnswerback s =
        .next (({ s with ltx := { s.ltx with answerback := some 0 } }).carryOn.accept 0x0F
          (.answerback .started))) ∧
    (s.ltx.answerback ≠ none →
      exec .sendAnswerback s = .next (s.accept 0x0F (.answerback .inProgress))) ∧
    (s.ltx.answerback = none → s.isl.answerback = [] →
      exec .sendAnswerback s = .next (s.accept 0x0F (.answerback .empty))) ∧
    exec .sendEnquiry s =
      .next (({ s with ltx := { s.ltx with enquiryRequest := true } }).carryOn.accept 0x10 .done) ∧
    exec .sendBreak s =
      .next (({ s with ltx := { s.ltx with breakRequest := true } }).carryOn.accept 0x11 .done) ∧
    (s.ltx.hold = true →
      exec .resumeSend s =
        .next (({ s with ltx := { s.ltx with hold := false } }).carryOn.accept 0x12
          (.resumed true))) ∧
    (s.ltx.hold = false → exec .resumeSend s = .next (s.accept 0x12 (.resumed false)))

/-- GET CALL is accepted with every field of the call record and changes nothing. R90. -/
def Obligations.GetCallReportsTheRecord : Prop :=
  ∀ s : State, s.TakesCommands →
    exec .getCall s = .next (s.accept 0x13 (.call
      { state := s.call.state, kind := s.call.record.kind, recordState := s.call.record.state,
        outcome := s.call.record.outcome,
        elapsed := if s.call.record.state = .ended then s.call.record.elapsed
                   else min 65535 ((s.now - s.call.record.openedAt) / 100000),
        received := s.call.record.received, sent := s.call.record.sent,
        breaks := s.call.record.breaks, lineCase := s.call.record.lineCase,
        caller := s.call.record.caller }))

/-- GET LINE QUALITY reports the record and the poor-run count, and clears the record when asked. R54. -/
def Obligations.LineQualityIsReportedThenCleared : Prop :=
  ∀ (clear : Byte) (s : State), s.TakesCommands →
    (clear = 0 → exec (.getLineQuality clear) s =
      .next (s.accept 0x14 (.lineQuality s.lrx.quality s.lrx.poorRun))) ∧
    (clear = 1 → exec (.getLineQuality clear) s =
      .next ({ s with lrx := { s.lrx with quality :=
          { last := 0, peak := 0, received := 0, doubtful := 0, substituted := 0,
            falseStarts := 0, collisions := 0, breaks := 0 } } }.accept 0x14
        (.lineQuality s.lrx.quality s.lrx.poorRun))) ∧
    (2 ≤ clear.toNat → exec (.getLineQuality clear) s = .next (s.refuse 0x14 .badValue))

/-- LIST, GET and FETCH MESSAGE report what they read; absent records and bad fields are refused. R101 to R103. R103
to R105. -/
def Obligations.FileReadsReportOrAreRefused : Prop :=
  (∀ s : State, s.TakesCommands →
    (∀ start : Byte, exec (.listMessages start) s = .next (s.accept 0x15
      (.messageList s.file.records.length
        (((s.file.records.drop start.toNat).take 4).map fun m => m.summary s.now)))) ∧
    (∀ (number : Byte) (offset : Word16) (count : Byte) (m : Message),
      1 ≤ count.toNat → count.toNat ≤ 40 → s.file.find number.toNat = some m →
      exec (.fetchMessage number offset count) s = .next (s.accept 0x17
        (.messageCells m.number m.state m.cells.length offset
          ((m.cells.drop offset.toNat).take count.toNat)))) ∧
    (∀ (number : Byte) (m : Message), s.file.find number.toNat = some m →
      (∀ r, s.file.replay = some r → r.number = m.number →
        exec (.getMessage number) s = .next (s.accept 0x16
          (.message (m.summary s.now) m.caller (some r.target) (BitVec.ofNat 16 r.position)))) ∧
      ((∀ r, s.file.replay = some r → r.number ≠ m.number) →
        ∃ copied, exec (.getMessage number) s =
          .next ({ s with freeIndex := s.freeIndex + 1 }.accept 0x16
            (.message (m.summary s.now) m.caller none copied))))) ∧
  (∀ (number : Byte) (s : State), s.TakesCommands →
    (s.file.find number.toNat = none →
      exec (.getMessage number) s = .next (s.refuse 0x16 .noSuch) ∧
      exec (.deleteMessage number) s = .next (s.refuse 0x18 .noSuch) ∧
      (∀ target : Byte, target.toNat ≤ 1 →
        exec (.replayMessage number target) s = .next (s.refuse 0x19 .noSuch)) ∧
      (∀ (offset : Word16) (count : Byte), 1 ≤ count.toNat → count.toNat ≤ 40 →
        exec (.fetchMessage number offset count) s = .next (s.refuse 0x17 .noSuch))) ∧
    (∀ (offset : Word16) (count : Byte), count.toNat = 0 ∨ 40 < count.toNat →
      exec (.fetchMessage number offset count) s = .next (s.refuse 0x17 .badValue)) ∧
    (∀ target : Byte, 2 ≤ target.toNat →
      exec (.replayMessage number target) s = .next (s.refuse 0x19 .badValue)))

/-- DELETE MESSAGE, REPLAY MESSAGE, CANCEL REPLAY and REPLAY_COPY complete or are refused by the record. R104, R105,
R107. R106. -/
def Obligations.DeleteAndReplayComplete : Prop :=
  (∀ s : State, s.TakesCommands →
    (∀ (number : Byte) (m : Message), s.file.find number.toNat = some m → m.state = .filed →
      exec (.deleteMessage number) s = .next ({ s with
        store := { s.store with free := m.chain.reverse ++ s.store.free }
        file := { s.file with records := s.file.records.filter fun (r : Message) => r.number != m.number } }.accept
          0x18 (.messageDeleted (m.chain.length + s.store.free.length)
            (s.file.records.filter fun (r : Message) => r.number != m.number).length))) ∧
    (∀ (number target : Byte) (m : Message) (t : ReplayTarget),
      s.file.find number.toNat = some m → m.state = .filed → s.file.replay = none →
      replayTargetOf target = some t →
      (t = .punch → s.punch.owner = none ∨ s.punch.owner = some .submitted) →
      exec (.replayMessage number target) s = .next ({ s with file := { s.file with
        records := s.file.records.map fun (r : Message) =>
          if r.number = m.number then { m with state := .replaying } else r
        replay := some { number := m.number, target := t, position := 0 } } }.accept 0x19
          (.replayStarted m.number m.cells.length))) ∧
    (∀ r, s.file.replay = some r →
      exec .cancelReplay s = .next ({ s with
        file := { s.file with
          records := s.file.records.map fun (m : Message) =>
            if m.number = r.number then { m with state := .filed } else m
          replay := none }
        link := s.link.queueNotice (.replayDone r.number false r.position) }.accept 0x1A
          (.replayCancelled r.number r.position))) ∧
    (s.file.replay = none → exec .cancelReplay s = .next (s.refuse 0x1A .wrongState))) ∧
  (∀ (r : Replay) (m : Message) (c : Cell) (s : State),
    s.file.replay = some r → s.file.find r.number = some m → m.cells[r.position]? = some c →
    (s.replayTakes r.target = false → exec .replayCopy s = .next s) ∧
    (s.replayTakes r.target = true →
      ∃ u : State,
        (r.target = .print →
          u = { s with store := s.store.append .pSubmit { cell := c, stream := none } }) ∧
        (r.target = .punch → u = s.appendPunch .submitted c) ∧
        (r.position + 1 < m.cells.length →
          exec .replayCopy s = .next ({ u with file := { s.file with
            replay := some { r with position := r.position + 1 } } }).carryOn) ∧
        (m.cells.length ≤ r.position + 1 →
          exec .replayCopy s = .next ({ u with
            file := { s.file with
              records := s.file.records.map fun (m : Message) =>
                if m.number = r.number then { m with state := .filed } else m
              replay := none }
            link := s.link.queueNotice
              (.replayDone r.number true (r.position + 1)) }).carryOn))) ∧
  (∀ (number : Byte) (m : Message) (s : State), s.TakesCommands →
    s.file.find number.toNat = some m →
    (m.state = .receiving → exec (.deleteMessage number) s = .next (s.refuse 0x18 .wrongState)) ∧
    (m.state = .replaying → exec (.deleteMessage number) s = .next (s.refuse 0x18 .busy)) ∧
    (∀ (target : Byte) (t : ReplayTarget), replayTargetOf target = some t →
      (s.file.replay ≠ none →
        exec (.replayMessage number target) s = .next (s.refuse 0x19 .busy)) ∧
      (s.file.replay = none → m.state = .receiving →
        exec (.replayMessage number target) s = .next (s.refuse 0x19 .wrongState)) ∧
      (s.file.replay = none → m.state ≠ .receiving → t = .punch →
        (s.punch.owner = some .line ∨ s.punch.owner = some .loc) →
        exec (.replayMessage number target) s = .next (s.refuse 0x19 .punchBusy)))) ∧
  (∀ s : State,
    (s.replayTakes .print = true ↔
      (s.printer.status ≠ .noPaper ∧ s.printer.status ≠ .held ∧ s.printer.status ≠ .fault ∧
        s.store.spoolRefusal .pSubmit = none)) ∧
    (s.replayTakes .punch = true ↔
      ((s.punch.status = .onIdle ∨ s.punch.status = .cycle) ∧
        (s.punch.owner = none ∨ s.punch.owner = some .submitted) ∧
        s.store.spoolRefusal .punch = none)))

/-- SET OPTION clamps, checks and writes one option; GET OPTION reads it. R189. -/
def Obligations.OptionCommandsComplete : Prop :=
  ∀ (offset : Byte) (value : Word16) (s : State), s.TakesCommands →
    (OptionName.ofOffset offset.toNat = none →
      exec (.setOption offset value) s = .next (s.refuse 0x04 .badValue) ∧
      exec (.getOption offset) s = .next (s.refuse 0x05 .badValue)) ∧
    (∀ n, OptionName.ofOffset offset.toNat = some n →
      exec (.getOption offset) s =
        .next (s.accept 0x05 (.optionValue offset (s.opt n) (s.optionInEffect n))) ∧
      (∀ v,
        ((∃ lo hi, n.spec.kind = .numeric lo hi ∧ v = max lo (min hi value.toNat)) ∨
          (∃ k, n.spec.kind = .codes k ∧ value.toNat < k ∧ v = value.toNat) ∨
          (n.spec.kind = .cellByte ∧ value.toNat < 64 ∧ v = value.toNat)) →
        ((n.inOrdering = true → optionsOrdered (optionSet s.isl.options n v) = true) →
          exec (.setOption offset value) s = .next ({ s with isl := { s.isl with
            options := optionSet s.isl.options n v } }.accept 0x04 (.optionTaken offset v))) ∧
        (n.inOrdering = true → optionsOrdered (optionSet s.isl.options n v) = false →
          exec (.setOption offset value) s = .next (s.refuse 0x04 .conflict))) ∧
      (∀ k, n.spec.kind = .codes k → k ≤ value.toNat →
        exec (.setOption offset value) s = .next (s.refuse 0x04 .badValue)) ∧
      (n.spec.kind = .cellByte → 64 ≤ value.toNat →
        exec (.setOption offset value) s = .next (s.refuse 0x04 .badValue)))

/-- SET ROUTE writes by the source, GET ROUTE reports and may clear, REARM ROUTE re-arms. R34, R35. R33, R36, R37.
-/
def Obligations.RouteCommandsComplete : Prop :=
  (∀ (route dest pStand qStand : Byte) (reload : Word16) (action : Byte) (s : State),
    s.TakesCommands →
    (∀ n d p q a, routeOf route = some n → destinationsOf dest = some d →
      printStandInOf pStand = some p → punchStandInOf qStand = some q →
      quotaActionOf action = some a →
      (n = .keyedLocal → d.file = false ∧ p ≠ some .file ∧ q ≠ some .file) →
      ∀ busy, busy = (if n = .keyedLocal then decide (s.keyboard.mode = .loc)
                      else decide (s.call.state = .connected)) →
      ∀ r, r = { s.routes.get n with
        destinations := d, printStandIn := p, punchStandIn := q, reload := reload.toNat,
        action := a,
        counter := if busy then (s.routes.get n).counter else reload.toNat,
        state := if busy then (s.routes.get n).state else .active } →
      exec (.setRoute route dest pStand qStand reload action) s =
        .next ({ s with routes := s.routes.put n r }.accept 0x06
          (.routeSet n r.counter r.state busy))) ∧
    ((routeOf route = none ∨ destinationsOf dest = none ∨ printStandInOf pStand = none ∨
        punchStandInOf qStand = none ∨ quotaActionOf action = none ∨
        (routeOf route = some .keyedLocal ∧
          (dest.getLsbD 2 = true ∨ pStand.toNat = 2 ∨ qStand.toNat = 2))) →
      exec (.setRoute route dest pStand qStand reload action) s =
        .next (s.refuse 0x06 .badValue))) ∧
  (∀ (route clear : Byte) (s : State), s.TakesCommands →
    (∀ n, routeOf route = some n →
      (clear = 0 → exec (.getRoute route clear) s =
        .next (s.accept 0x07 (.routeReport n (s.routes.get n) (s.sourceBusy n)))) ∧
      (clear = 1 → exec (.getRoute route clear) s =
        .next ({ s with routes := s.routes.put n { s.routes.get n with
            placed := 0, lost := 0 } }.accept 0x07
          (.routeReport n (s.routes.get n) (s.sourceBusy n)))) ∧
      (2 ≤ clear.toNat → exec (.getRoute route clear) s = .next (s.refuse 0x07 .badValue)) ∧
      exec (.rearmRoute route) s =
        .next ({ s with routes := s.routes.put n { s.routes.get n with
            counter := (s.routes.get n).reload, state := .active } }.accept 0x08
          (.routeRearmed n (s.routes.get n).reload .active))) ∧
    (3 ≤ route.toNat →
      exec (.getRoute route clear) s = .next (s.refuse 0x07 .badValue) ∧
      exec (.rearmRoute route) s = .next (s.refuse 0x08 .badValue)))

/-- SUBMIT TEXT appends all its cells or refuses, and CLEAR SPOOL empties the named spool. R181. R182, R11, R116,
R145. The head offset within Spool.empty is the model's choice (log 39). -/
def Obligations.SubmitAndClearMoveWholeSpools : Prop :=
  (∀ (target : Byte) (bytes : List Byte) (s : State),
    s.TakesCommands → 1 ≤ bytes.length → bytes.length ≤ 40 →
    ((3 ≤ target.toNat ∨ ∃ b ∈ bytes, 64 ≤ b.toNat) →
      exec (.submitText target bytes) s = .next (s.refuse 0x09 .badValue)) ∧
    ((∀ b ∈ bytes, b.toNat < 64) →
      (target = 0 → s.call.state ≠ .connected →
        exec (.submitText target bytes) s = .next (s.refuse 0x09 .wrongState)) ∧
      (target = 2 → (s.punch.owner = some .line ∨ s.punch.owner = some .loc) →
        exec (.submitText target bytes) s = .next (s.refuse 0x09 .punchBusy)) ∧
      (∀ t, submitTargetOf target = some t →
        (t = .send → s.call.state = .connected) →
        (t = .punch → s.punch.owner = none ∨ s.punch.owner = some .submitted) →
        (s.store.capacity t.spool < bytes.length →
          exec (.submitText target bytes) s =
            .next (s.refuse 0x09 (.full (s.store.capacity t.spool)))) ∧
        (bytes.length ≤ s.store.capacity t.spool →
          ∀ st, st = s.store.appendAll t.spool (bytes.map fun b => ({
            cell := { code := b.setWidth 5,
                      case := if b.getLsbD 5 then .figures else .letters,
                      origin := .submitted, quality := .clean }
            stream := if t = SubmitTarget.punch then some .submitted else none } : Entry)) →
          exec (.submitText target bytes) s =
            .next ((State.accept { (if t = SubmitTarget.punch then s.claimPunch .submitted else s) with store := st }
              0x09 (.submitted t (st.capacity t.spool))).carryOn))))) ∧
  (∀ (field : Byte) (s : State), s.TakesCommands →
    (5 ≤ field.toNat → exec (.clearSpool field) s = .next (s.refuse 0x0A .badValue)) ∧
    (∀ n, spoolOf field = some n →
      ∀ e, e = { s.store with free := (s.store.spool n).chain.reverse ++ s.store.free }.withSpool n
        Spool.empty →
      ∃ p q, exec (.clearSpool field) s =
          .next (({ s with store := e, printer := p, punch := q }.accept 0x0A
            (.spoolCleared n (s.store.spool n).cells.length
              ((s.store.spool n).chain.length + s.store.free.length))).carryOn) ∧
        p = { s.printer with committed := s.printer.committed &&
          !(s.printer.current.any fun k => k.toSpool == n) } ∧
        (n ≠ .punch → q = s.punch) ∧
        (n = .punch → (s.punch.owner = none ∨ s.punch.owner = some .line) →
          q = { s.punch with committed := false }) ∧
        (n = .punch → (s.punch.owner = some .loc ∨ s.punch.owner = some .submitted) →
          q = { s.punch with committed := false, feedRequest := none, feedHeld := false,
                             clearRelease := true })))

/-- PRINTER HOLD, RELEASE and RESET complete as R129 and R130 say. R129, R130. The model's choices are the reply
after the choices (log 13) and that RESET ends an EXPIRED hold-wait as well (log 33); the notice at entry to NO
PAPER is log 10. The choice by a printer that was not reported RUNNING is log 36. -/
def Obligations.PrinterCommandsComplete : Prop :=
  ∀ s : State, s.TakesCommands →
    (∀ h t, h = State.carryOn { s with printer := { s.printer with hold := true } } →
      t = State.carryOn { s with printer := { s.printer with hold := false } } →
      exec .printerHold s =
        .next (h.accept 0x1B (.printerHold h.printer.status s.printer.hold)) ∧
      exec .printerRelease s =
        .next (t.accept 0x1C (.printerHold t.printer.status s.printer.hold))) ∧
    (s.printer.cycle.isSome = true →
      exec .printerReset s =
        .next ((State.carryOn { s with printer := { s.printer with resetPending := true } }).accept
          0x1D (.printerReset s.printer.fault))) ∧
    (s.printer.cycle = none →
      exec .printerReset s =
        .next ((State.carryOn (State.noticeNoPaper { s with
            printer := { s.printer with
              fault := false, column := none, mechCase := .unknown, holdWait := .notWaiting,
              resetPending := false }
            motor := { s.motor with printWithdrawn :=
              if s.motor.state = .running then false else s.motor.printWithdrawn } }
            s.printer.status)).accept 0x1D
          (.printerReset s.printer.fault)))

/-- PUNCH ON, OFF, FEED, RELEASE and RESET complete as R144, R141, R137 and R145 say. R137, R141, R144, R145. The
reply of ON and OFF after the choices and that of FEED before them are the model's choice (log 13); TAPE OUT noticed
at every entry is log 10. How RESET acts at once and after the report of a cycle in flight is log 37, and the head
offset within Spool.empty log 39. The tape case after a release is UNKNOWN by R134 and R140, against chapter 7's
worked example (log 9). -/
def Obligations.PunchCommandsComplete : Prop :=
  (∀ s : State, s.TakesCommands →
    (∀ count : Byte,
      (count.toNat = 0 → exec (.punchFeed count) s = .next (s.refuse 0x20 .badValue)) ∧
      (1 ≤ count.toNat → (s.punch.owner = some .line ∨ s.punch.owner = some .loc) →
        exec (.punchFeed count) s = .next (s.refuse 0x20 .punchBusy)) ∧
      (1 ≤ count.toNat → (s.punch.owner = none ∨ s.punch.owner = some .submitted) →
        (s.punch.feedRequest.isSome = true →
          exec (.punchFeed count) s = .next (s.refuse 0x20 .busy)) ∧
        (s.punch.feedRequest = none →
          ∀ u, u = s.claimPunch .submitted →
          exec (.punchFeed count) s =
            .next (((State.accept { u with punch := { u.punch with feedRequest := some (FeedRequest.mk
              count.toNat s.store.punch.cells.length) } } 0x20
                (.feedAhead s.store.punch.cells.length)).carryOn))))) ∧
    (s.punch.owner = none →
      exec .punchRelease s = .next (s.accept 0x21 (.punchRelease .notOwned))) ∧
    ((s.punch.owner = some .line ∨ s.punch.owner = some .loc) →
      exec .punchRelease s = .next (s.refuse 0x21 .punchBusy)) ∧
    (s.punch.owner = some .submitted →
      (s.punchAtRest = true →
        exec .punchRelease s =
          .next (s.releasePunch.carryOn.accept 0x21 (.punchRelease .released))) ∧
      (s.punchAtRest = false →
        exec .punchRelease s =
          .next ({ s with punch := { s.punch with submittedRelease := true } }.accept 0x21
            (.punchRelease .pending)))) ∧
    exec .punchReset s =
      .next ((State.carryOn (State.noticeTapeOut { s with
          store := { s.store with
            free := s.store.punch.chain.reverse ++ s.store.free, punch := Spool.empty }
          punch := { s.punch with
            owner := none, leader := 0, lineRelease := .none, localRelease := false,
            submittedRelease := false, clearRelease := false, releaseTimer := none,
            feedRequest := none, feedHeld := false, committed := false, tapeCase := .unknown,
            fault := false,
            cycle := s.punch.cycle.map fun c => { c with muted := true } } }
          s.punch.status)).accept 0x22
        (.punchReset s.store.punch.cells.length s.punch.owner s.punch.fault))) ∧
  (∀ (s v u : State) (on : Bool), s.TakesCommands →
    v = State.noticeTapeOut { s with punch := { s.punch with switch := on } } s.punch.status →
    u = State.carryOn { v with punch := { v.punch with feedHeld := s.punch.feedHeld &&
      !s.punch.fault && (s.punch.cycle.isSome || (on && s.punch.tape)) } } →
    (on = true → exec .punchOn s =
      .next (u.accept 0x1E (.punchSwitch u.punch.status s.punch.switch))) ∧
    (on = false → exec .punchOff s =
      .next (u.accept 0x1F (.punchSwitch u.punch.status (!s.punch.switch)))))

/-- SET KEYBOARD MODE sets the mode with the effects of a change. R158, R159. -/
def Obligations.KeyboardModeIsSetWithItsEffects : Prop :=
  ∀ (field : Byte) (s : State), s.TakesCommands →
    (4 ≤ field.toNat → exec (.setKeyboardMode field) s = .next (s.refuse 0x23 .badValue)) ∧
    (∀ m, modeOf field = some m →
      (s.isl.keyMap = none → (m = .loc ∨ m = .line) →
        exec (.setKeyboardMode field) s = .next (s.refuse 0x23 .wrongState)) ∧
      ((m = .loc ∨ m = .line → s.isl.keyMap ≠ none) →
        ∀ b, b = s.keyboard.mode →
        exec (.setKeyboardMode field) s = .next ((State.carryOn { s with
          routes := if m = .loc ∧ b ≠ .loc then { s.routes with keyedLocal :=
              { s.routes.keyedLocal with
                counter := s.routes.keyedLocal.reload, state := .active } }
            else s.routes
          punch := { s.punch with
            localRelease :=
              if m = .loc ∧ b ≠ .loc then false
              else if b = .loc ∧ m ≠ .loc ∧ s.punch.owner = some .loc then true
              else s.punch.localRelease
            feedHeld := s.punch.feedHeld &&
              !(decide (b = .loc ∨ b = .line) && decide (m = .raw ∨ m = .locked)) }
          keyboard := { s.keyboard with mode := m } }).accept 0x23 (.keyboardMode b m))))

/-- STORE READ and STORE WRITE start their operation, and its end makes the reply. R190. That the clock stays where
it stands at STORE_OPERATION_END and STORE_WRITE_POLL_TIMEOUT is the model's choice (log 43). -/
def Obligations.StoreCommandsComplete : Prop :=
  ∀ s : State,
    (s.TakesCommands →
      (∀ offset count : Byte,
        ((count.toNat = 0 ∨ 40 < count.toNat ∨ 256 < offset.toNat + count.toNat) →
          exec (.storeRead offset count) s = .next (s.refuse 0x24 .badValue)) ∧
        (1 ≤ count.toNat → count.toNat ≤ 40 → offset.toNat + count.toNat ≤ 256 →
          (s.isl.presence = .absent →
            exec (.storeRead offset count) s = .next (s.refuse 0x24 .absent)) ∧
          (s.isl.presence ≠ .absent →
            exec (.storeRead offset count) s = .next { s with
              link := { s.link with pendingReply := .awaited none }
              isl := { s.isl with storeOp := some (.read offset count) } }))) ∧
      (∀ (offset : Byte) (bytes : List Byte), 1 ≤ bytes.length → bytes.length ≤ 16 →
        (16 < offset.toNat % 16 + bytes.length →
          exec (.storeWrite offset bytes) s = .next (s.refuse 0x25 .badValue)) ∧
        (offset.toNat % 16 + bytes.length ≤ 16 →
          (s.isl.presence = .absent →
            exec (.storeWrite offset bytes) s = .next (s.refuse 0x25 .absent)) ∧
          (s.isl.presence ≠ .absent →
            exec (.storeWrite offset bytes) s = .next { s with
              link := { s.link with pendingReply := .awaited none }
              isl := { s.isl with storeOp := some (.write offset bytes) } })))) ∧
    (∀ (offset count : Byte), s.isl.storeOp = some (.read offset count) →
      (∀ bytes : List Byte, bytes.length = count.toNat →
        exec (.storeOperationEnd true bytes) s =
          .next ({ s with isl := { s.isl with storeOp := none } }.accept 0x24
            (.storeRead offset bytes))) ∧
      (∀ bytes : List Byte, exec (.storeOperationEnd false bytes) s =
          .next ({ s with isl := { s.isl with storeOp := none } }.refuse 0x24 .storeFailed))) ∧
    (∀ (offset : Byte) (sent : List Byte), s.isl.storeOp = some (.write offset sent) →
      (∀ bytes : List Byte,
        exec (.storeOperationEnd true bytes) s =
          .next ({ s with isl := { s.isl with storeOp := none } }.accept 0x25
            (.storeWritten offset sent.length)) ∧
        exec (.storeOperationEnd false bytes) s =
          .next ({ s with isl := { s.isl with storeOp := none } }.refuse 0x25 .storeFailed)) ∧
      s.pageWrite = some (offset, sent) ∧
      exec .storeWritePollTimeout s =
        .next ({ s with isl := { s.isl with storeOp := none } }.refuse 0x25 .storeFailed))

/-- RELOAD and RESTART complete: loading begins, and RESTART gives every block its RESTART values. R191 for RELOAD;
R192 for RESTART, over the RESTART columns of the chapters. The notices at entry to NO PAPER and TAPE OUT are log
10, a waiting PRINTER RESET is log 28, the settle records keep mode and times by log 30, the head offset within
Spool.empty is log 39, and the order of the notices of step 2 is the model's choice (log 41; R178 allows either
order). That an abandoned CARRIAGE RETURN takes the width in effect too is the model's choice (log 45). -/
def Obligations.ReloadAndRestartBegin : Prop :=
  (∀ s : State, s.TakesCommands → s.call.state = .outOfService →
    exec .reload s = .next { s with
      link := { s.link with pendingReply := .awaited none }
      isl := { s.isl with loader := .loading { occasion := .reload, byte0Read := false,
                                               modeBefore := s.keyboard.mode } }
      keyboard := { s.keyboard with
        positions := Keyboard.allUp, thirdFrom := List.replicate 64 2, nextReading := 0,
        mode := .locked, scanStart := none } }) ∧
  (∀ (s : State) (filed : List Message) (closed : List Notice), s.TakesCommands →
    (s.file.receiving = none → filed = s.file.records ∧ closed = []) →
    (∀ m c, s.file.receiving = some m →
      c = { m with state := .filed, continued := false, caller := s.call.record.caller,
                   duration := some (min 65535 ((s.now - m.openedAt) / 100000)) } →
      filed = s.file.records.map (fun r => if r.number = m.number then c else r) ∧
      closed = [{ body := .messageFiled (c.summary s.now) .restart, lost := false }]) →
    ∃ (t : State) (paper tape : List Notice), exec .restart s = .next t ∧
      t.link = { s.link with
        pendingReply := .awaited (some (.accepted 0x27 .done))
        notices := closed ++ paper ++ tape, lostMark := false } ∧
      ((s.printer.status = .noPaper ∨ s.printer.paper = true ∨ s.printer.paperOut.level = none) →
        paper = []) ∧
      (∀ out, s.printer.status ≠ .noPaper → s.printer.paper = false →
        s.printer.paperOut.level = some out → ∃ low : Bool,
          (∀ l, s.printer.paperLow.level = some l → low = l) ∧
          paper = [Notice.mk (.printerState (PrinterReport.mk .paperOut .noPaper t.printer.column
            t.printer.mechCase out low false 0 0 0)) false]) ∧
      ((s.punch.status = .tapeOut ∨ s.punch.switch = false ∨ s.punch.tape = true ∨
          s.punch.tapeOut.level = none) → tape = []) ∧
      (∀ out, s.punch.status ≠ .tapeOut → s.punch.switch = true → s.punch.tape = false →
        s.punch.tapeOut.level = some out → ∃ low : Bool,
          (∀ l, s.punch.tapeLow.level = some l → low = l) ∧
          tape = [Notice.mk (.punchState (PunchReport.mk .tapeOut .tapeOut none .unknown out low 0))
            false]) ∧
      t.isl = { s.isl with loader := .loading { occasion := .restart, byte0Read := false,
                                                modeBefore := s.keyboard.mode } } ∧
      t.call = { s.call.stopTimers with
        state := .outOfService, enteredAt := s.now, stopPending := false, clearCause := none
        record := if s.call.record.state = .ended then s.call.record
          else { s.call.record with
            state := .ended, outcome := some .restart
            elapsed := min 65535 ((s.now - s.call.record.openedAt) / 100000) } } ∧
      t.ltx = { activity := .idle, hold := false, breakRequest := false, answerback := none,
                enquiryRequest := false } ∧
      t.lrx = { s.lrx with state := .disabled, guard := none } ∧
      t.file = { s.file with
        lastPart := 0, replay := none
        records := filed.map fun m =>
          if s.file.replay.any (fun r => m.number = r.number) then { m with state := .filed } else m } ∧
      t.store = { free := s.store.send.chain.reverse ++ (s.store.punch.chain.reverse ++
                    (s.store.pSubmit.chain.reverse ++ (s.store.pLocal.chain.reverse ++
                      (s.store.pLine.chain.reverse ++ s.store.free)))),
                  pLine := Spool.empty, pLocal := Spool.empty, pSubmit := Spool.empty,
                  punch := Spool.empty, send := Spool.empty, episode := .closed } ∧
      t.printer = { s.printer with
        fault := false, hold := false, cycle := none, current := none, lineOpen := false,
        pointer := .pSubmit, interruptedLine := false, interruptedLocal := false,
        interruptedSubmit := false, committed := false, newlineOwed := .none,
        holdWait := .notWaiting, resetPending := false
        column := t.printer.column, width := t.printer.width, mechCase := t.printer.mechCase } ∧
      (s.printer.cycle = none → t.printer.column = s.printer.column ∧
        t.printer.width = s.printer.width ∧ t.printer.mechCase = s.printer.mechCase) ∧
      (∀ y, s.printer.cycle = some y →
        (y.reading = .carriageReturn →
          t.printer.column = some 0 ∧ t.printer.width = s.opt .lineWidth) ∧
        (y.reading ≠ .carriageReturn → t.printer.width = s.printer.width) ∧
        (y.reading = .printing ∨ y.reading = .space → t.printer.column =
          s.printer.column.map fun k => if k + 1 < s.printer.width then k + 1 else k) ∧
        (y.reading ≠ .carriageReturn → y.reading ≠ .printing → y.reading ≠ .space →
          t.printer.column = s.printer.column) ∧
        t.printer.mechCase = (if y.reading = .lettersShift then .letters
          else if y.reading = .figuresShift then .figures else s.printer.mechCase)) ∧
      t.punch = { s.punch with
        owner := none, leader := 0, lineRelease := .none, localRelease := false,
        submittedRelease := false, clearRelease := false, releaseTimer := none,
        feedRequest := none, feedHeld := false, committed := false, tapeCase := .unknown,
        fault := false, cycle := none } ∧
      t.motor = { demand := { call := false, print := false, punch := false }
                  state := t.motor.state, printWithdrawn := false, bell := none
                  printTiming := { s.motor.printTiming with phase := .idle }
                  punchTiming := { s.motor.punchTiming with phase := .idle } } ∧
      (s.motor.state = .off → t.motor.state = .off) ∧
      (∀ due, s.motor.state = .runOn due → t.motor.state = .runOn due) ∧
      (s.motor.state = .running ∨ (∃ due, s.motor.state = .runUp due) →
        t.motor.state = .runOn (s.now + s.opt .runOnTime * 100000)) ∧
      t.keyboard = { s.keyboard with
        positions := Keyboard.allUp, thirdFrom := List.replicate 64 2, nextReading := 0,
        mode := .locked, scanStart := none, kbdCase := .letters } ∧
      t.routes = s.routes ∧ t.timing = s.timing ∧ t.now = s.now ∧ t.pending = s.pending)

/-- STORE_BYTE_0_READ and LOAD_END complete: what a load validates, counts, hands over and reports. R184 to R188 and
R62; R191 and R192 for the two loads of a command; R22 for the routes. That the bytes come with the row is log 4, an
unacknowledged read at RESTART log 19, the feed held over a load log 18, and PUNCH STATE with cause TAPE OUT where
the load turns the switch ON with the tape absent, queued before LOAD DONE (R187), log 10. -/
def Obligations.LoadRowsComplete : Prop :=
  (∀ (l : Loading) (s : State), s.isl.loader = .loading l →
    (l.byte0Read = false → ∀ byte : Option Byte, ∃ p k,
      exec (.storeByte0Read byte) s = .next { s with isl := { s.isl with
        loader := .loading { l with byte0Read := true }, presence := p, loadKind := k } } ∧
      (byte = none → p = .absent ∧ k = .none) ∧
      (byte = some 0xA1 → p = .present ∧ k = .basic) ∧
      (byte = some 0xA2 → p = .present ∧ k = .full) ∧
      (∀ b, byte = some b → b ≠ 0xA1 → b ≠ 0xA2 → p = .present ∧ k = .none)) ∧
    (l.byte0Read = true → ∀ (image : List Byte) (d : Loaded) (i : Isl) (m : KeyboardMode) (on : Bool)
        (v u : State),
      d = (if l.occasion = .restart then loadOptionsSection s.isl.presence s.isl.loadKind image
           else loadImage s.isl.presence s.isl.loadKind image) →
      i = { s.isl with
        loader := .ready, presence := d.presence, loadKind := d.kind, defaulted := d.defaulted
        options := d.options
        functionMap := if l.occasion = .restart then s.isl.functionMap else d.functionMap
        answerback := if l.occasion = .restart then s.isl.answerback else d.answerback
        keyMap := if l.occasion = .restart then s.isl.keyMap else d.keyMap } →
      m = (if i.keyMap = none then .raw else keyboardModeOf (optionGet d.options .keyboardMode)) →
      on = (optionGet d.options .punchEnabled == 1) →
      v = State.noticeTapeOut { s with
        isl := { i with loader := s.isl.loader }
        timing := timingOf d.options
        routes := if m = .loc ∧ l.modeBefore ≠ .loc then { d.routes with keyedLocal :=
            { d.routes.keyedLocal with counter := d.routes.keyedLocal.reload, state := .active } }
          else d.routes
        printer := { s.printer with
          width := optionGet d.options .lineWidth
          column := s.printer.column.filter fun c => c < optionGet d.options .lineWidth }
        punch := { s.punch with switch := on } } s.punch.status →
      u = { v with
        isl := i
        punch := { v.punch with
          feedHeld := s.punch.feedHeld && !s.punch.fault &&
            (s.punch.cycle.isSome || (on && s.punch.tape)) &&
            !(decide (l.modeBefore = .loc ∨ l.modeBefore = .line) && decide (m = .raw ∨ m = .locked))
          localRelease :=
            if m = .loc ∧ l.modeBefore ≠ .loc then false
            else if l.modeBefore = .loc ∧ m ≠ .loc ∧ s.punch.owner = some .loc then true
            else s.punch.localRelease }
        keyboard := { s.keyboard with
          positions := Keyboard.allUp, thirdFrom := List.replicate 64 2, nextReading := 0,
          mode := m, scanStart := some s.now }
        link := v.link.queueNotice (.loadDone l.occasion d.kind d.presence d.defaulted) } →
      (l.occasion = .reload → exec (.loadEnd image) s = .next (State.carryOn { u with link :=
        { u.link with pendingReply := .awaited (some (.accepted 0x26
            (.reloaded d.kind d.presence d.defaulted))) } })) ∧
      (l.occasion ≠ .reload → optionGet d.options .startInService ≠ 1 →
        exec (.loadEnd image) s = .next (State.carryOn u)) ∧
      (l.occasion ≠ .reload → optionGet d.options .startInService = 1 →
        exec (.loadEnd image) s = .next (State.carryOn { u with call :=
          { s.call.stopTimers with state := .idle, enteredAt := s.now } })))) ∧
  ((∀ p : Presence, Loaded.defaults p =
    { presence := p, kind := .none, defaulted := 0
      options := OptionName.all.map fun n => n.spec.default
      routes :=
        { received := { destinations := { print := true, punch := false, file := false },
                        printStandIn := some .file, punchStandIn := none, reload := 0, counter := 0,
                        action := .notify, state := .active, placed := 0, lost := 0 }
          sentCopy := { destinations := { print := true, punch := false, file := false },
                        printStandIn := none, punchStandIn := none, reload := 0, counter := 0,
                        action := .notify, state := .active, placed := 0, lost := 0 }
          keyedLocal := { destinations := { print := true, punch := false, file := false },
                          printStandIn := none, punchStandIn := none, reload := 0, counter := 0,
                          action := .notify, state := .active, placed := 0, lost := 0 } }
      functionMap := { lettersShift := 31, figuresShift := 27, carriageReturn := 8, lineFeed := 2,
                       space := 4, blank := 0, enquiry := 9, bell := 11 }
      answerback := [], keyMap := none }) ∧
  (∀ (p : Presence) (image : List Byte),
    loadImage p .none image = Loaded.defaults p ∧ loadOptionsSection p .none image = Loaded.defaults p) ∧
  (∀ (p : Presence) (k : LoadKind) (image : List Byte), k ≠ .none →
    (image.length < 0x55 → loadImage p k image = Loaded.defaults .absent ∧
      loadOptionsSection p k image = Loaded.defaults .absent) ∧
    (0x55 ≤ image.length → ∃ o r : Nat, ∃ options routes,
      loadOptions image = some (options, o) ∧ loadRoutes image = some (routes, r) ∧
      (∃ d, loadOptionsSection p k image = d ∧ d.presence = .present ∧ d.kind = k ∧
        d.options = options ∧ d.routes = routes ∧ d.defaulted = min 255 (o + r)) ∧
      (k = .basic → loadImage p k image = { Loaded.defaults .present with
        kind := .basic, defaulted := min 255 (o + r), options := options, routes := routes }) ∧
      (k = .full → image.length < 0xBF → loadImage p k image = Loaded.defaults .absent) ∧
      (k = .full → 0xBF ≤ image.length → ∃ f a e : Nat, ∃ map answer keys,
        loadFunctionMap image = some (map, f) ∧ loadAnswerback image map = some (answer, a) ∧
        loadKeyMap image = some (keys, e) ∧
        loadImage p k image =
          { presence := .present, kind := .full, defaulted := min 255 (o + r + f + a + e)
            options := options, routes := routes, functionMap := map, answerback := answer
            keyMap := some keys })))) ∧
  (∀ (image : List Byte) (raw value : OptionName → Nat), 0x3E ≤ image.length →
    (∀ n, raw n = if n.spec.bytes = 2
      then 256 * (image.getD (n.spec.offset - 1) 0).toNat + (image.getD n.spec.offset 0).toNat
      else (image.getD (n.spec.offset - 1) 0).toNat) →
    (∀ n, value n = if n.spec.kind.admits (raw n) then raw n else n.spec.default) →
    ∃ options count, loadOptions image = some (options, count) ∧ options.length = 43 ∧
      ((6 * value .unitTime + value .stopLength * value .unitTime / 16 < value .breakRecognition * 1000 ∧
          value .breakRecognition < value .breakLength ∧
          value .breakLength < value .clearRecognition) →
        (∀ n, optionGet options n = value n) ∧
        count = OptionName.all.countP fun n => !n.spec.kind.admits (raw n)) ∧
      (¬ (6 * value .unitTime + value .stopLength * value .unitTime / 16 < value .breakRecognition * 1000 ∧
          value .breakRecognition < value .breakLength ∧
          value .breakLength < value .clearRecognition) →
        (∀ n, optionGet options n = if n.inOrdering then n.spec.default else value n) ∧
        count = OptionName.all.countP fun n => n.inOrdering || !n.spec.kind.admits (raw n))) ∧
  (∀ (image : List Byte) (n : RouteName) (at0 : Nat) (b : Nat → Byte), 1 ≤ at0 →
    at0 + 5 ≤ image.length → (∀ k, b k = image.getD (at0 - 1 + k) 0) →
    ∃ (r : Route) (count : Nat), loadRoute image n at0 = some (r, count) ∧
      r.reload = 256 * (b 3).toNat + (b 4).toNat ∧ r.counter = r.reload ∧
      r.state = .active ∧ r.placed = 0 ∧ r.lost = 0 ∧
      ∃ d p q a : Nat, count = d + p + q + a ∧
        (((b 0).toNat < 8 ∧ (n = .keyedLocal → (b 0).getLsbD 2 = false)) → d = 0 ∧
          r.destinations = { print := (b 0).getLsbD 0, punch := (b 0).getLsbD 1,
                             file := (b 0).getLsbD 2 }) ∧
        (¬ ((b 0).toNat < 8 ∧ (n = .keyedLocal → (b 0).getLsbD 2 = false)) → d = 1 ∧
          r.destinations = { print := true, punch := false, file := false }) ∧
        ((b 1).toNat = 0 → p = 0 ∧ r.printStandIn = none) ∧
        ((b 1).toNat = 1 → p = 0 ∧ r.printStandIn = some .punch) ∧
        ((b 1).toNat = 2 → n ≠ .keyedLocal → p = 0 ∧ r.printStandIn = some .file) ∧
        ((3 ≤ (b 1).toNat ∨ ((b 1).toNat = 2 ∧ n = .keyedLocal)) → p = 1 ∧
          r.printStandIn = if n = .received then some .file else none) ∧
        ((b 2).toNat = 0 → q = 0 ∧ r.punchStandIn = none) ∧
        ((b 2).toNat = 1 → q = 0 ∧ r.punchStandIn = some .print) ∧
        ((b 2).toNat = 2 → n ≠ .keyedLocal → q = 0 ∧ r.punchStandIn = some .file) ∧
        ((3 ≤ (b 2).toNat ∨ ((b 2).toNat = 2 ∧ n = .keyedLocal)) → q = 1 ∧ r.punchStandIn = none) ∧
        ((b 5).toNat = 0 → a = 0 ∧ r.action = .notify) ∧
        ((b 5).toNat = 1 → a = 0 ∧ r.action = .divert) ∧
        ((b 5).toNat = 2 → a = 0 ∧ r.action = .suspend) ∧
        (3 ≤ (b 5).toNat → a = 1 ∧ r.action = .notify)) ∧
  ((∀ image : List Byte, 0x55 ≤ image.length → ∃ a b c : Route × Nat,
    loadRoute image .received 0x40 = some a ∧ loadRoute image .sentCopy 0x48 = some b ∧
    loadRoute image .keyedLocal 0x50 = some c ∧
    loadRoutes image = some ({ received := a.1, sentCopy := b.1, keyedLocal := c.1 }, a.2 + b.2 + c.2)) ∧
  (∀ (image : List Byte) (c : Nat → Code), 0x67 ≤ image.length →
    (∀ k, c k = (image.getD (0x5F + k) 0).setWidth 5) →
    (([c 0, c 1, c 2, c 3, c 4, c 5].Nodup ∧ c 6 ∉ [c 0, c 1, c 2, c 3, c 4, c 5] ∧
        c 7 ∉ [c 0, c 1, c 2, c 3, c 4, c 5]) →
      loadFunctionMap image =
        some (FunctionMap.mk (c 0) (c 1) (c 2) (c 3) (c 4) (c 5) (c 6) (c 7), 0)) ∧
    (¬ ([c 0, c 1, c 2, c 3, c 4, c 5].Nodup ∧ c 6 ∉ [c 0, c 1, c 2, c 3, c 4, c 5] ∧
        c 7 ∉ [c 0, c 1, c 2, c 3, c 4, c 5]) →
      loadFunctionMap image = some ((Loaded.defaults .present).functionMap, 1))) ∧
  (∀ (image : List Byte) (map : FunctionMap) (n : Nat), 0x7C ≤ image.length →
    n = (image.getD 0x67 0).toNat →
    (20 < n → loadAnswerback image map = some ([], 1)) ∧
    (n ≤ 20 → ∃ answer : List (Code × Case), loadAnswerback image map = some (answer, 0) ∧
      answer.map Prod.fst = ((image.drop 0x68).take n).map (fun b => b.setWidth 5) ∧
      ∀ (pre post : List (Code × Case)) (x : Code × Case), answer = pre ++ x :: post →
        x.2 = if x.1 = map.lettersShift then .letters else if x.1 = map.figuresShift then .figures
          else (pre.getLast?.map Prod.snd).getD .letters)) ∧
  (∀ image : List Byte, 0xBF ≤ image.length → ∃ keys count, loadKeyMap image = some (keys, count) ∧
    keys.length = 64 ∧
    count = ((image.drop 0x7F).take 64).countP
      (fun b => decide (5 ≤ b.toNat / 32 ∨ (b.toNat / 32 = 4 ∧ 4 ≤ b.toNat % 32))) ∧
    (∀ (k : Nat) (b : Byte) (c : Code), k < 64 → b = image.getD (0x7F + k) 0 → c = b.setWidth 5 →
      (b.toNat / 32 = 0 → keys[k]? = some .none) ∧
      (b.toNat / 32 = 1 → keys[k]? = some (.code c none)) ∧
      (b.toNat / 32 = 2 → keys[k]? = some (.code c (some .letters))) ∧
      (b.toNat / 32 = 3 → keys[k]? = some (.code c (some .figures))) ∧
      (b.toNat = 0x80 → keys[k]? = some (.function .hereIs)) ∧
      (b.toNat = 0x81 → keys[k]? = some (.function .brk)) ∧
      (b.toNat = 0x82 → keys[k]? = some (.function .mode)) ∧
      (b.toNat = 0x83 → keys[k]? = some (.function .feed)) ∧
      (0x84 ≤ b.toNat → keys[k]? = some .none))))

/-- CONFIRMED_PRESS and CONFIRMED_RELEASE act by the column read, the mode and the key map. R141, R148 to R157. The
tick of a reading inside its column step is the model's choice, and so is that a row takes the first reading it can
(log 29). -/
def Obligations.KeysActByTheMode : Prop :=
  (∀ (p : Fin 64) (s : State),
    (s.keyboard.scanStart = none → s.atReading p = s) ∧
    (∀ t, s.keyboard.scanStart = some t → ∃ k due : Nat,
      due = t + (8 * k + p.val / 8) * 100 ∧ s.keyboard.thirdFrom.getD p.val 2 ≤ k ∧
      s.keyboard.nextReading ≤ 64 * k + p.val ∧ s.now < due + 100 ∧
      (k = s.keyboard.thirdFrom.getD p.val 2 ∨ 64 * k + p.val < s.keyboard.nextReading + 64 ∨
        due ≤ s.now + 700) ∧
      s.atReading p = { s with
        now := max s.now due
        keyboard := { s.keyboard with
          thirdFrom := s.keyboard.thirdFrom.set p.val (k + 3), nextReading := 64 * k + p.val + 1 } } ∧
      (s.now ≤ due → (s.atReading p).drivenColumn = some (p.val / 8)))) ∧
  (∀ (p : Fin 64) (s b u d : State), s.isl.loader = .ready → s.keyboard.positions.length = 64 →
    b = s.atReading p →
    d = { b with keyboard := { b.keyboard with
      positions := s.keyboard.positions.set p.val (Filter.at true) } } →
    u = { b with keyboard := { b.keyboard with
      positions := s.keyboard.positions.set p.val (Filter.at false) } } →
    ((s.keyboard.position p).level = some false →
      (s.keyboard.mode = .raw → exec (.confirmedPress p) s = .next (d.notice (.key p true))) ∧
      (s.keyboard.mode = .locked → exec (.confirmedPress p) s = .next d) ∧
      (s.keyboard.mode = .loc ∨ s.keyboard.mode = .line →
        (s.keyEntry p = .none → exec (.confirmedPress p) s = .next d) ∧
        (s.keyEntry p = .function .mode →
          exec (.confirmedPress p) s =
            .next (d.changeMode (if s.keyboard.mode = .loc then .line else .loc)).carryOn) ∧
        (s.keyEntry p = .function .brk →
          (s.keyboard.mode = .line ∧ s.call.state = .connected →
            exec (.confirmedPress p) s =
              .next (State.carryOn { d with ltx := { d.ltx with breakRequest := true } })) ∧
          (¬ (s.keyboard.mode = .line ∧ s.call.state = .connected) →
            exec (.confirmedPress p) s =
              .next (State.carryOn { d with motor :=
                { d.motor with bell := some (b.now + 10000) } }))))) ∧
    ((s.keyboard.position p).level = some true →
      (s.keyboard.mode = .raw → exec (.confirmedRelease p) s = .next (u.notice (.key p false))) ∧
      (s.keyboard.mode = .locked → exec (.confirmedRelease p) s = .next u) ∧
      (s.keyboard.mode = .loc ∨ s.keyboard.mode = .line →
        (s.keyEntry p ≠ .function .feed → exec (.confirmedRelease p) s = .next u) ∧
        (s.keyEntry p = .function .feed →
          exec (.confirmedRelease p) s =
            .next (State.carryOn { u with punch := { u.punch with feedHeld := false } }))))) ∧
  (∀ (p : Fin 64) (code : Code) (req : Option Case) (cell : Cell) (s b d : State),
    s.isl.loader = .ready → s.keyboard.positions.length = 64 →
    (s.keyboard.position p).level = some false →
    s.keyboard.mode = .loc ∨ s.keyboard.mode = .line → s.keyEntry p = .code code req →
    cell = { code := code,
             case := if code = s.isl.functionMap.lettersShift then .letters
                     else if code = s.isl.functionMap.figuresShift then .figures
                     else req.getD s.keyboard.kbdCase,
             origin := .loc, quality := .clean } →
    b = s.atReading p → d = { b with keyboard := { b.keyboard with
      positions := s.keyboard.positions.set p.val (Filter.at true) } } →
    (s.keyboard.mode = .line ∧ s.call.state = .connected →
      (s.store.spoolRefusal .send = none →
        exec (.confirmedPress p) s = .next (State.carryOn { d with
          store := s.store.append .send { cell := cell, stream := none }
          ltx := { s.ltx with hold := false }
          keyboard := { d.keyboard with
            kbdCase := if code = s.isl.functionMap.lettersShift then .letters
                       else if code = s.isl.functionMap.figuresShift then .figures
                       else s.keyboard.kbdCase } })) ∧
      (s.store.spoolRefusal .send ≠ none →
        exec (.confirmedPress p) s = .next (State.carryOn { d with
          motor := { s.motor with bell := some (b.now + 10000) } }))) ∧
    (¬ (s.keyboard.mode = .line ∧ s.call.state = .connected) →
      ∀ u placed loss, d.present .keyedLocal cell = (u, placed, loss) →
      (placed = 0 →
        exec (.confirmedPress p) s = .next (State.carryOn { u with
          motor := { u.motor with bell := some (b.now + 10000) } })) ∧
      (placed ≠ 0 →
        exec (.confirmedPress p) s = .next (State.carryOn { u with
          keyboard := { u.keyboard with
            kbdCase := if code = s.isl.functionMap.lettersShift then .letters
                       else if code = s.isl.functionMap.figuresShift then .figures
                       else s.keyboard.kbdCase } })))) ∧
  (∀ (p : Fin 64) (s b d : State), s.isl.loader = .ready → s.keyboard.positions.length = 64 →
    (s.keyboard.position p).level = some false →
    s.keyboard.mode = .loc ∨ s.keyboard.mode = .line →
    b = s.atReading p →
    d = { b with keyboard := { b.keyboard with
      positions := s.keyboard.positions.set p.val (Filter.at true) } } →
    (s.keyEntry p = .function .hereIs →
      (s.keyboard.mode = .line ∧ s.call.state = .connected →
        (s.ltx.answerback = none → s.isl.answerback ≠ [] →
          exec (.confirmedPress p) s =
            .next (State.carryOn { d with ltx := { s.ltx with answerback := some 0 } })) ∧
        (s.ltx.answerback ≠ none ∨ s.isl.answerback = [] →
          exec (.confirmedPress p) s = .next d.carryOn)) ∧
      (¬ (s.keyboard.mode = .line ∧ s.call.state = .connected) →
        (s.isl.answerback = [] → exec (.confirmedPress p) s = .next d.carryOn) ∧
        (s.isl.answerback ≠ [] → s.isl.answerback.length ≤ s.store.capacity .pLocal →
          exec (.confirmedPress p) s = .next (State.carryOn { d with
            store := s.store.appendAll .pLocal (s.isl.answerback.map fun x =>
              { cell := { code := x.1, case := x.2, origin := .loc, quality := .clean },
                stream := none }) })) ∧
        (s.store.capacity .pLocal < s.isl.answerback.length →
          exec (.confirmedPress p) s = .next (State.carryOn { d with
            motor := { s.motor with bell := some (b.now + 10000) } })))) ∧
    (s.keyEntry p = .function .feed →
      (s.punch.status = .onIdle ∨ s.punch.status = .cycle →
        (s.punch.owner = none → exec (.confirmedPress p) s = .next (State.carryOn { d with
          punch := { s.punch with
            owner := some .loc, tapeCase := .unknown, leader := 0, lineRelease := .none,
            localRelease := false, submittedRelease := false, clearRelease := false,
            releaseTimer := none, feedHeld := true } })) ∧
        (s.punch.owner = some .loc → exec (.confirmedPress p) s = .next (State.carryOn { d with
          punch := { s.punch with feedHeld := true } }))) ∧
      ((s.punch.status ≠ .onIdle ∧ s.punch.status ≠ .cycle) ∨ s.punch.owner = some .line ∨
          s.punch.owner = some .submitted →
        exec (.confirmedPress p) s = .next (State.carryOn { d with
          motor := { s.motor with bell := some (b.now + 10000) } }))))

/-- RX_FILTERED_CHANGE acts on the Call Controller and the receiver by their states. R39 to R48 in the receiver,
R71, R73, R75, R86 and R88 in the Call Controller. A late change is log 24, a change to the level that stands log 1,
CALL RECOGNITION read at its start log 16 -/
def Obligations.FilteredChangesReachTheReceiver : Prop :=
  (∀ (level : Level) (te : Nat) (s u : State) (k : Call), s.lrx.level ≠ level →
    (s.call.state = .outOfService ∨ s.call.state = .connected → k = s.call) →
    (s.call.state = .idle → k = { s.call with
      recognition := if level = .mark then some (te + s.opt .callRecognition * 1000) else none }) →
    (s.call.state = .offered ∨ s.call.state = .answering → k = { s.call with
      withdrawal := if level = .space then some (te + 10000) else none }) →
    (s.call.state = .calling → k = { s.call with
      markTiming := if level = .mark then some (te + s.opt .callRecognition * 1000) else none }) →
    (s.call.state = .clearing → k = { s.call with
      clearSpace := if level = .space then some (te + s.timing.clearRec * 1000) else none }) →
    (s.call.state = .releasing → k = { s.call with
      releasing := if level = .space then some (max s.call.enteredAt te + 100000) else none }) →
    u = { s with
      now := max s.now (te + 2), call := k
      lrx := { s.lrx with filter := Filter.at (level == .mark), since := te } } →
    ((s.lrx.state = .disabled ∨ (s.lrx.state = .markRest ∧ level = .mark) ∨
        ∃ r, s.lrx.state = .spaceRun r ∧ level = .space) →
      exec (.rxFilteredChange level te) s = .next u.carryOn) ∧
    (s.lrx.state = .markRest → level = .space →
      exec (.rxFilteredChange level te) s = .next (State.carryOn { u with lrx := { u.lrx with
        state := .character { t0 := te, next := 0, code := 0, changes := [] }
        quality := { s.lrx.quality with collisions :=
          if s.ltx.sendState = .sending then min 65535 (s.lrx.quality.collisions + 1)
          else s.lrx.quality.collisions } } })) ∧
    (∀ a, s.lrx.state = .character a →
      exec (.rxFilteredChange level te) s = .next (State.carryOn { u with lrx := { u.lrx with
        state := .character { a with changes := a.changes ++ [(te, level)] } } })) ∧
    (∀ r v, s.lrx.state = .spaceRun r → level = .mark →
      v = { u with lrx := { u.lrx with state := .markRest } } →
      (te < r.breakAt → r.broken = false →
        (r.char = none → exec (.rxFilteredChange level te) s = .next v.carryOn) ∧
        (r.char ≠ none →
          exec (.rxFilteredChange level te) s = .next v.deliverSubstituted.carryOn)) ∧
      (r.broken = true → te < r.clearAt →
        (s.call.state = .connected → ∀ idle : Option Nat,
          idle = (if s.opt .idleClear = 0 then none
            else some (v.now + s.opt .idleClear * 100000)) →
          exec (.rxFilteredChange level te) s =
            .next (State.carryOn { v with call := { s.call with idle := idle } })) ∧
        (s.call.state ≠ .connected → exec (.rxFilteredChange level te) s = .next v.carryOn)) ∧
      (r.broken = true → r.clearAt ≤ te → s.call.state = .connected →
        exec (.rxFilteredChange level te) s = .next (u.enterClearing .farEnd).carryOn) ∧
      (r.broken = false → r.breakAt ≤ te → s.call.state = .connected → ∀ x, x = u.reachBreak r →
        (te < r.clearAt → exec (.rxFilteredChange level te) s =
          .next (State.carryOn { x with lrx := { x.lrx with state := .markRest } })) ∧
        (r.clearAt ≤ te →
          exec (.rxFilteredChange level te) s = .next (x.enterClearing .farEnd).carryOn)))) ∧
  (∀ (level : Level) (te : Nat) (s : State), s.lrx.level = level →
    exec (.rxFilteredChange level te) s = .next s)

/-- START_SAMPLE and UNIT_SAMPLE read the level at their sample times. R41. -/
def Obligations.SamplesReadTheCharacter : Prop :=
  ∀ (a : Assembly) (s : State), s.lrx.state = .character a →
    (a.next = 0 → ∀ at0, at0 = a.t0 + s.timing.unit / 2 → ∀ u, u = { s with now := max s.now (at0 + 2) } →
      (levelAt a.changes at0 = .space →
        exec .startSample s = .next { u with lrx := { s.lrx with
          state := .character { a with next := 1 } } }) ∧
      (levelAt a.changes at0 = .mark →
        exec .startSample s = .next (State.carryOn { u with lrx := { s.lrx with
          state := .markRest
          quality := { s.lrx.quality with
            falseStarts := min 65535 (s.lrx.quality.falseStarts + 1) } } }))) ∧
    (1 ≤ a.next → a.next ≤ 5 →
      ∀ t, t = a.t0 + (2 * a.next + 1) * s.timing.unit / 2 →
      ∃ code : Code,
        exec .unitSample s = .next { s with
          now := max s.now (t + 2)
          lrx := { s.lrx with state := .character { a with next := a.next + 1, code := code } } } ∧
        (∀ k : Nat, k < 5 → code.getLsbD k =
          (a.code.getLsbD k || (decide (k + 1 = a.next) && decide (levelAt a.changes t = .mark)))))

/-- STOP_SAMPLE delivers or holds the character, and a delivery counts, presents and tells the call. R42, R44, R45,
R49 to R53 and R57 in the receiver; R79 to R82 in the call. ENQUIRY is read in the figures case only (log 8). That
QUOTA is queued before OVERFLOW is the model's choice (log 41). -/
def Obligations.StopSampleCompletesOrHoldsTheCharacter : Prop :=
  (∀ (a : Assembly) (s u : State) (p t : Nat), s.lrx.state = .character a → a.next = 6 →
    t = a.t0 + 13 * s.timing.unit / 2 → p = a.distortion s.timing.unit →
    u = { s with
      now := max s.now (t + 2)
      lrx := { s.lrx with
        quality := { s.lrx.quality with last := p, peak := max s.lrx.quality.peak p }
        guard := if s.timing.guard = 0 then none else some (t + s.timing.guard * 1000) } } →
    (levelAt a.changes t = .space →
      exec .stopSample s = .next { u with lrx := { u.lrx with state := .spaceRun (SpaceRun.mk a.t0
        (a.t0 + s.timing.breakRec * 1000) (a.t0 + s.timing.clearRec * 1000)
        (some { code := a.code, distortion := p }) false) } }) ∧
    (levelAt a.changes t = .mark →
      exec .stopSample s = .next (State.carryOn (State.deliverReceived
        { u with lrx := { u.lrx with state := .markRest } } a.code
        (if s.timing.limit < p then .doubtful else .clean))))) ∧
  (∀ (s : State) (k : Quality) (q : LineQuality),
    q = { s.lrx.quality with
      received := min 65535 (s.lrx.quality.received + 1)
      doubtful := if k = .doubtful then min 65535 (s.lrx.quality.doubtful + 1)
        else s.lrx.quality.doubtful
      substituted := if k = .substituted then min 65535 (s.lrx.quality.substituted + 1)
        else s.lrx.quality.substituted } →
    (k = .clean → s.recordDelivery k = { s with lrx := { s.lrx with quality := q, poorRun := 0 } }) ∧
    (k ≠ .clean → s.lrx.poorRun + 1 < s.opt .poorLineRun →
      s.recordDelivery k = { s with lrx := { s.lrx with
        quality := q, poorRun := s.lrx.poorRun + 1 } }) ∧
    (k ≠ .clean → s.opt .poorLineRun ≤ s.lrx.poorRun + 1 →
      s.recordDelivery k = { s with
        lrx := { s.lrx with quality := q, poorRun := 0 }
        link := s.link.queueNotice (.poorLine q.last q.peak q.doubtful q.substituted) })) ∧
  (∀ (s : State) (code : Code) (k : Quality) (cell : Cell),
    (cell = { code := code,
              case := if code = s.isl.functionMap.lettersShift then .letters
                      else if code = s.isl.functionMap.figuresShift then .figures
                      else if s.call.record.lineCase = .figures then .figures else .letters,
              origin := .received, quality := k } →
      s.deliverReceived code k = State.handOn { s.recordDelivery k with
        call := { s.call with record := { s.call.record with lineCase :=
          if code = s.isl.functionMap.lettersShift then .letters
          else if code = s.isl.functionMap.figuresShift then .figures
          else s.call.record.lineCase } } } cell
        (decide (code = s.isl.functionMap.enquiry) && decide (cell.case = .figures))) ∧
    (∀ b : Byte, b = BitVec.ofNat 8 (s.opt .substitute) →
      s.deliverSubstituted = (s.recordDelivery .substituted).handOn
        { code := b.setWidth 5, case := if b.getLsbD 5 then .figures else .letters,
          origin := .received, quality := .substituted } false) ∧
    (∀ (enquiry : Bool) (u : State) (placed : Nat) (loss : Option (SpaceTarget × SpaceReason)),
      s.present .received cell = (u, placed, loss) →
      s.handOn cell enquiry = (u.reportLoss loss).tellDelivered cell enquiry)) ∧
  (∀ (s : State) (cell : Cell),
    (s.call.state ≠ .connected → ∀ enquiry, s.tellDelivered cell enquiry = s) ∧
    (s.call.state = .connected → ∀ u, u = { s with call := { s.call with
        record := { s.call.record with
          received := min 65535 (s.call.record.received + 1)
          caller := if s.call.capture = none then s.call.record.caller
            else some (s.call.record.caller.getD [] ++ [cell]) }
        capture := s.call.capture.bind fun w =>
          if w.count + 1 < 20 then some { w with count := w.count + 1 } else none
        idle := if s.opt .idleClear = 0 then none
                else some (s.now + s.opt .idleClear * 100000) } } →
      s.tellDelivered cell false = u ∧
      (s.opt .enquiryHandling = 0 →
        (s.ltx.answerback = none → s.isl.answerback ≠ [] →
          s.tellDelivered cell true = { u with ltx := { s.ltx with answerback := some 0 } }) ∧
        (s.ltx.answerback ≠ none ∨ s.isl.answerback = [] → s.tellDelivered cell true = u)) ∧
      (s.opt .enquiryHandling ≠ 0 → s.tellDelivered cell true =
        u.notice (.enquiry (min 65535 (s.call.record.received + 1))))))

/-- The distortion figure lies in 0 to 50 for every unit time of the option. R44, the figure; what is done with it
is StopSampleCompletesOrHoldsTheCharacter. -/
def Obligations.DistortionFigureLiesIn0To50 : Prop :=
  (∀ (a : Assembly) (unit : Nat), 400 ≤ unit → unit ≤ 2500 → a.distortion unit ≤ 50) ∧
  (∀ (a : Assembly) (unit : Nat),
    a.distortion unit = (200 * largestDeviation a unit + unit) / (2 * unit))

/-- BREAK_THRESHOLD discards and reports a break; CLEAR_THRESHOLD clears a connection. R46, R47, R48, R52, R53 and
R61; R77, R80, R84. A clear threshold row in a run not yet broken is a row out of order, met by log 24. That POOR
LINE is queued before BREAK RECEIVED is the model's choice (log 41). -/
def Obligations.ThresholdsBreakAndClear : Prop :=
  (∀ (r : SpaceRun) (s : State) (q : LineQuality) (poor b : Nat) (l : Link),
    (r.char = none → q = s.lrx.quality ∧ poor = s.lrx.poorRun ∧ l = s.link) →
    (r.char ≠ none → q = { s.lrx.quality with
        substituted := min 65535 (s.lrx.quality.substituted + 1) } ∧
      (s.lrx.poorRun + 1 < s.opt .poorLineRun → poor = s.lrx.poorRun + 1 ∧ l = s.link) ∧
      (s.opt .poorLineRun ≤ s.lrx.poorRun + 1 → poor = 0 ∧
        l = s.link.queueNotice (.poorLine q.last q.peak q.doubtful q.substituted))) →
    b = min 65535 (s.call.record.breaks + 1) → s.call.state = .connected →
    s.reachBreak r = { s with
      lrx := { s.lrx with
        state := .spaceRun { r with char := none, broken := true }
        quality := { q with breaks := min 65535 (s.lrx.quality.breaks + 1) }
        poorRun := poor }
      link := l.queueNotice (.breakReceived b)
      ltx := { s.ltx with hold := true }
      call := { s.call with
        record := { s.call.record with breaks := b }
        idle := if s.opt .idleClear = 0 then none
                else some (s.now + s.opt .idleClear * 100000) } }) ∧
  (∀ (r : SpaceRun) (s : State), s.lrx.state = .spaceRun r → s.call.state = .connected →
    (r.broken = false → exec .breakThreshold s =
      .next (State.carryOn (State.reachBreak { s with now := max s.now (r.breakAt + 2) } r))) ∧
    (r.broken = true → exec .breakThreshold s = .next s) ∧
    (r.broken = true → exec .clearThreshold s = .next (State.carryOn (State.enterClearing
      { s with now := max s.now (r.clearAt + 2) } .farEnd))) ∧
    (r.broken = false → exec .clearThreshold s = .next (State.carryOn (State.enterClearing
      (State.reachBreak { s with now := max s.now (r.clearAt + 2) } r) .farEnd))))

/-- CHARACTER_SENT, BREAK_KEYING_END and TURNAROUND_GUARD_EXPIRY complete. R56 to R63. -/
def Obligations.SenderRowsComplete : Prop :=
  ∀ s : State,
    (∀ k u, s.ltx.activity = .sending k →
      u = State.present { s with
        now := max s.now (k.startedAt + 6 * k.unitTicks + k.stopTicks)
        ltx := { s.ltx with
          activity := .idle
          answerback := if k.source = .answerback then
              s.ltx.answerback.bind fun i => if i + 1 < s.isl.answerback.length then some (i + 1) else none
            else s.ltx.answerback
          enquiryRequest := s.ltx.enquiryRequest && k.source != .enquiry }
        call := { s.call with record := { s.call.record with lineCase :=
          if k.cell.code = s.isl.functionMap.lettersShift then .letters
          else if k.cell.code = s.isl.functionMap.figuresShift then .figures
          else s.call.record.lineCase } } } .sentCopy k.cell →
      ∃ t, exec .characterSent s = .next (State.carryOn t) ∧
        t = { u.1 with call := { u.1.call with
          idle := if s.opt .idleClear = 0 then none
                  else some (u.1.now + s.opt .idleClear * 100000)
          capture := if k.source = .enquiry
            then some (CaptureWindow.mk (u.1.now + s.opt .captureWindow * 10000) 0)
            else u.1.call.capture
          record := { u.1.call.record with
            sent := min 65535 (u.1.call.record.sent + 1)
            caller := if k.source = .enquiry then none else u.1.call.record.caller } } }) ∧
    (∀ due, s.ltx.activity = .breaking due →
      exec .breakKeyingEnd s = .next (State.sendChoice { s with
        now := max s.now due, ltx := { s.ltx with activity := .idle } })) ∧
    (∀ due, s.lrx.guard = some due →
      exec .turnaroundGuardExpiry s = .next (State.sendChoice { s with
        now := max s.now due, lrx := { s.lrx with guard := none } }))

/-- LTX takes the first of break, answerback, enquiry and SEND, and keys a shift first where R58 asks. R57, R58.
That the sent copy of a shift code takes the case it names against the own case of its SEND cell is the model's
choice (log 46). -/
def Obligations.SenderTakesTheFirstItem : Prop :=
  (∀ s : State,
    ((s.call.state ≠ .connected ∨ s.ltx.activity ≠ .idle) → s.sendChoice = s) ∧
    (s.call.state = .connected → s.ltx.activity = .idle →
      (s.ltx.breakRequest = true → s.sendChoice = { s with ltx := { s.ltx with
        breakRequest := false, activity := .breaking (s.now + s.timing.breakLen * 1000) } }) ∧
      (s.ltx.breakRequest = false →
        (s.defers = true → s.sendChoice = s) ∧
        (s.defers = false →
          (∀ i code k, s.ltx.answerback = some i → s.isl.answerback[i]? = some (code, k) →
            s.sendChoice = if s.isl.functionMap.needsShift code k s.call.record.lineCase
              then s.startKeying (s.isl.functionMap.shiftCode k) k .shift
              else s.startKeying code k .answerback) ∧
          (s.ltx.answerback = none → s.ltx.enquiryRequest = true →
            s.sendChoice = if s.call.record.lineCase = .figures
              then s.startKeying s.isl.functionMap.enquiry .figures .enquiry
              else s.startKeying s.isl.functionMap.figuresShift .figures .shift) ∧
          (s.ltx.answerback = none → s.ltx.enquiryRequest = false →
            (s.ltx.hold = true → s.sendChoice = s) ∧
            (s.store.send.cells = [] → s.sendChoice = s) ∧
            (s.ltx.hold = false → ∀ e rest, s.store.send.cells = e :: rest →
              s.sendChoice =
                if s.isl.functionMap.needsShift e.cell.code e.cell.case s.call.record.lineCase
                then s.startKeying (s.isl.functionMap.shiftCode e.cell.case) e.cell.case .shift
                else State.startKeying { s with store := (s.store.removeHead .send).2 }
                  e.cell.code e.cell.case .send)))))) ∧
  (∀ (s : State) (code : Code) (k : Case) (source : KeyingSource),
    s.startKeying code k source = { s with ltx := { s.ltx with activity := .sending (Keying.mk
      { code := code,
        case := if code = s.isl.functionMap.lettersShift then .letters
                else if code = s.isl.functionMap.figuresShift then .figures else k,
        origin := .sent, quality := .clean }
      source s.now s.timing.unit (s.timing.stop * s.timing.unit / 16)) } }) ∧
  (∀ s : State, s.defers = true ↔
    ((∃ a, s.lrx.state = .character a) ∨ (∃ r, s.lrx.state = .spaceRun r) ∨ s.lrx.guard ≠ none))

/-- A character being keyed drives TX space, its five units and mark, and TX rests by the call state. R55, R56, R60.
-/
def Obligations.KeyedCharacterShapesTx : Prop :=
  ∀ s : State,
    (∀ (k : Keying) (n : Nat), s.call.state = .connected → s.ltx.activity = .sending k →
      0 < k.unitTicks → s.now = k.startedAt + n →
      (n < k.unitTicks → s.txLevel = .space) ∧
      (∀ i : Nat, i < 5 → (i + 1) * k.unitTicks ≤ n → n < (i + 2) * k.unitTicks →
        s.txLevel = if k.cell.code.getLsbD i then .mark else .space) ∧
      (6 * k.unitTicks ≤ n → s.txLevel = .mark)) ∧
    (∀ due, s.call.state = .connected → s.ltx.activity = .breaking due → s.txLevel = .space) ∧
    (s.call.state = .connected → s.ltx.activity = .idle → s.txLevel = .mark) ∧
    (s.call.state = .calling → s.txLevel = .mark) ∧
    (s.call.state ≠ .connected → s.call.state ≠ .calling → s.txLevel = .space)

/-- An attempt opens its record, enters OFFERED, ANSWERING or CALLING, and ends by its timers. R71 to R73. R73, R75,
R88, R89. -/
def Obligations.AttemptsBeginAndEnd : Prop :=
  (∀ (due : Nat) (s u : State), u = { s with now := max s.now due } →
    (s.call.recognition = some due →
      (s.opt .answerPolicy = 0 → exec .callRecognition s =
        .next ((u.openRecord .incoming .answering).enterAnswering).carryOn) ∧
      (s.opt .answerPolicy = 1 → exec .callRecognition s =
        .next ((u.openRecord .incoming .offered).enterOffered).carryOn) ∧
      (s.opt .answerPolicy = 2 → exec .callRecognition s =
        .next (((u.openRecord .incoming .offered).endRecord .declined).enterReleasing).carryOn)) ∧
    (s.call.withdrawal = some due →
      (s.call.state = .offered → exec .withdrawal s =
        .next (((u.endRecord .withdrawn).notice .callWithdrawn).enterCall .idle).carryOn) ∧
      (s.call.state = .answering → exec .withdrawal s =
        .next ((u.failAttempt .withdrawn).carryOn))) ∧
    (s.call.offer = some due →
      (s.opt .offerDefault = 0 → exec .offerTimeout s = .next (u.enterAnswering.carryOn)) ∧
      (s.opt .offerDefault = 1 → exec .offerTimeout s =
        .next (((u.endRecord .declined).enterReleasing).carryOn)))) ∧
  ((∀ (due : Nat) (s : State), s.call.confirm = some due →
    exec .confirmTimeout s =
      .next ((State.failAttempt { s with now := max s.now due } .noConfirm).carryOn)) ∧
  (∀ (o : CallOutcome) (s : State) (seconds : Nat),
    seconds = (if s.call.record.state = .ended then s.call.record.elapsed
      else min 65535 ((s.now - s.call.record.openedAt) / 100000)) →
    s.failAttempt o = { s with
      call := { s.call with
        state := .releasing, enteredAt := s.now
        recognition := none, withdrawal := none, offer := none, confirm := none,
        markTiming := none, idle := none, enquiryDelay := none, capture := none,
        clearing := none, clearSpace := none
        releasing := if s.lrx.level = .space then some (max s.now s.lrx.since + 100000) else none
        record := { s.call.record with state := .ended, outcome := some o, elapsed := seconds } }
      link := s.link.queueNotice (.cleared o 0 0 0 seconds) })) ∧
  ((∀ (s : State) (kind : CallKind) (state : CallRecordState),
    s.openRecord kind state = { s with call := { s.call with record :=
      { kind := kind, state := state, outcome := none, openedAt := s.now, elapsed := 0,
        received := 0, sent := 0, breaks := 0, lineCase := .unknown, caller := none } } }) ∧
  (∀ c : Call, c.stopTimers = { c with
    recognition := none, withdrawal := none, offer := none, confirm := none, markTiming := none,
    idle := none, enquiryDelay := none, capture := none, clearing := none, clearSpace := none,
    releasing := none }) ∧
  (∀ s : State, s.enterOffered = { s with
    call := { s.call.stopTimers with
      state := .offered, enteredAt := s.now
      offer := some (s.now + s.opt .offerTime * 100000)
      record := { s.call.record with state := .offered } }
    link := s.link.queueNotice (.callOffered (s.opt .offerTime)) }) ∧
  (∀ s v : State, v = State.demandCall { s with call := { s.call.stopTimers with
      state := .answering, enteredAt := s.now, withdrawal := s.call.withdrawal
      record := { s.call.record with state := .answering } } } true →
    (v.motor.state = .running → s.enterAnswering = v.enterConnected) ∧
    (v.motor.state ≠ .running → s.enterAnswering = v)) ∧
  (∀ s v : State, v = State.demandCall { s with call := { s.call.stopTimers with
      state := .calling, enteredAt := s.now
      confirm := some (s.now + s.opt .confirmTime * 100000)
      markTiming := if s.lrx.level = .mark then some (s.lrx.since + s.opt .callRecognition * 1000)
                    else none
      record := { kind := .placed, state := .calling, outcome := none, openedAt := s.now,
                  elapsed := 0, received := 0, sent := 0, breaks := 0, lineCase := .unknown,
                  caller := none } } } true →
    ((v.motor.state = .running ∧ s.lrx.level = .mark ∧
        s.lrx.since + s.opt .callRecognition * 1000 ≤ s.now) → s.enterCalling = v.enterConnected) ∧
    (¬ (v.motor.state = .running ∧ s.lrx.level = .mark ∧
        s.lrx.since + s.opt .callRecognition * 1000 ≤ s.now) → s.enterCalling = v)))

/-- CONFIRMATION and RUN_UP_EXPIRY connect when both conditions hold; the timers of a connection complete. R72, R75,
R163, R164, R171. R77 to R79. The mark of R165 for the printer, and why the call and the punch need none, is log 36.
-/
def Obligations.ConnectionRowsComplete : Prop :=
  (∀ (due : Nat) (s u r : State), u = { s with now := max s.now due } →
    r = { u with motor := { s.motor with state := .running } } →
    (s.motor.state = .runUp due →
      (s.motor.demand.isEmpty = true → exec .runUpExpiry s = .next { u with motor :=
        { s.motor with
          state := .runOn (u.now + s.opt .runOnTime * 100000), printWithdrawn := false } }) ∧
      (s.motor.demand.isEmpty = false →
        (s.call.state = .answering → exec .runUpExpiry s = .next r.enterConnected.carryOn) ∧
        (s.call.state = .calling →
          (∀ m, s.call.markTiming = some m → m ≤ u.now →
            exec .runUpExpiry s = .next r.enterConnected.carryOn) ∧
          (∀ m, s.call.markTiming = some m → u.now < m → exec .runUpExpiry s = .next r.carryOn) ∧
          (s.call.markTiming = none → exec .runUpExpiry s = .next r.carryOn)) ∧
        (s.call.state ≠ .answering → s.call.state ≠ .calling →
          exec .runUpExpiry s = .next r.carryOn))) ∧
    (s.call.markTiming = some due → s.call.state = .calling →
      (s.motor.state = .running → exec .confirmation s = .next u.enterConnected.carryOn) ∧
      (s.motor.state ≠ .running → exec .confirmation s = .next u.carryOn)) ∧
    (s.motor.state = .runOn due →
      exec .runOnExpiry s = .next { u with motor := { s.motor with state := .off } }) ∧
    (s.motor.bell = some due →
      exec .bellTimerExpiry s = .next { u with motor := { s.motor with bell := none } })) ∧
  (∀ (due : Nat) (s : State),
    (s.call.idle = some due → exec .idleTimeout s =
      .next ((State.enterClearing { s with now := max s.now due } .idle).carryOn)) ∧
    (s.call.enquiryDelay = some due → exec .enquiryDelayExpiry s =
      .next (State.sendChoice { s with
        now := max s.now due
        call := { s.call with enquiryDelay := none }
        ltx := { s.ltx with enquiryRequest := true } })) ∧
    (∀ n, s.call.capture = some { due := due, count := n } → exec .captureWindowExpiry s =
      .next { s with now := max s.now due, call := { s.call with capture := none } }))

/-- Entry to CONNECTED sets the timing, the line blocks, the two routes, the record and the timers. R76, its nine
steps. -/
def Obligations.EntryToConnectedTakesItsNineSteps : Prop :=
  ∀ (s : State) (timing : LineTiming), timing = timingOf s.isl.options →
    s.enterConnected = { s with
      timing := timing
      lrx := { s.lrx with
        state := if s.lrx.level = .mark then .markRest else .spaceRun (SpaceRun.mk s.now
          (s.now + timing.breakRec * 1000) (s.now + timing.clearRec * 1000) none false)
        guard := none
        quality := { last := 0, peak := 0, received := 0, doubtful := 0, substituted := 0,
                     falseStarts := 0, collisions := 0, breaks := 0 }
        poorRun := 0 }
      ltx := { activity := .idle, hold := false, breakRequest := false, answerback := none,
               enquiryRequest := false }
      routes := { s.routes with
        received := { s.routes.received with counter := s.routes.received.reload, state := .active }
        sentCopy := { s.routes.sentCopy with counter := s.routes.sentCopy.reload, state := .active } }
      call := { s.call with
        state := .connected, enteredAt := s.now
        recognition := none, withdrawal := none, offer := none, confirm := none,
        markTiming := none, capture := none, clearing := none, clearSpace := none,
        releasing := none
        idle := if s.opt .idleClear = 0 then none
                else some (s.now + s.opt .idleClear * 100000)
        enquiryDelay := if s.opt .autoEnquiry = 0 then none
                        else some (s.now + s.opt .autoEnquiry * 10000)
        record := { s.call.record with state := .connected, lineCase := .unknown } }
      link := s.link.queueNotice (.connected s.call.record.kind) }

/-- Entry to CLEARING resets the line, closes the record, marks the punch and starts 5 s. R85, and the end of
CLEARING at entry of R86 with R88's timing of the space. That a far-end clear ends CLEARING at entry whatever the
latest change to space is R86's own sentence, read over its condition (log 32). The head offset within Spool.empty
is log 39. -/
def Obligations.EntryToClearingTakesItsSteps : Prop :=
  (∀ (s u : State) (cause : CallOutcome) (ends : Prop) (filed : List Message) (l : Link) (seconds : Nat),
    (s.file.receiving = none → filed = s.file.records ∧ l = s.link) →
    (∀ m c, s.file.receiving = some m →
      c = { m with state := .filed, continued := false, caller := s.call.record.caller,
                   duration := some (min 65535 ((s.now - m.openedAt) / 100000)) } →
      filed = s.file.records.map (fun r => if r.number = m.number then c else r) ∧
      l = s.link.queueNotice (.messageFiled (c.summary s.now) .clear)) →
    (ends ↔ (cause = .farEnd ∨
      (s.lrx.level = .space ∧ s.lrx.since + s.timing.clearRec * 1000 ≤ s.now))) →
    seconds = min 65535 ((s.now - s.call.record.openedAt) / 100000) →
    u = { s with
      ltx := { activity := .idle, hold := false, breakRequest := false, answerback := none,
               enquiryRequest := false }
      lrx := { s.lrx with state := .disabled, guard := none }
      store := { s.store with
        free := s.store.send.chain.reverse ++ s.store.free, send := Spool.empty, episode := .closed }
      file := { s.file with records := filed, lastPart := 0 }
      link := l
      punch := if s.punch.owner = some .line then { s.punch with lineRelease := .marked } else s.punch
      call := { s.call.stopTimers with
        state := .clearing, enteredAt := s.now, clearCause := some cause
        sendDiscarded := s.store.send.cells.length
        clearing := some (s.now + 500000)
        clearSpace := if s.lrx.level = .space then some (s.lrx.since + s.timing.clearRec * 1000)
                      else none
        record := { s.call.record with state := .clearing } } } →
    (¬ ends → s.enterClearing cause = u) ∧
    (ends → s.enterClearing cause = { u with
      call := { u.call.stopTimers with
        state := .releasing, enteredAt := s.now
        releasing := if s.lrx.level = .space then some (max s.now s.lrx.since + 100000) else none
        record := { s.call.record with
          state := .ended, outcome := some cause, elapsed := seconds } }
      link := l.queueNotice (.cleared cause s.call.record.sent s.call.record.received
        s.store.send.cells.length seconds)
      punch := if s.punch.owner = some .line ∨ s.punch.lineRelease = .marked
        then { s.punch with lineRelease := .due } else s.punch }))

/-- CLEARING_END, CLEARING_TIMEOUT and RELEASING_END complete. R86, R88. -/
def Obligations.ClearingAndReleasingRowsComplete : Prop :=
  ∀ (due : Nat) (s u : State), u = { s with now := max s.now due } →
    (∀ cause seconds, s.call.clearCause = some cause →
      seconds = (if s.call.record.state = .ended then s.call.record.elapsed
        else min 65535 ((u.now - s.call.record.openedAt) / 100000)) →
      ∀ t, t = { u with
        call := { s.call.stopTimers with
          state := .releasing, enteredAt := u.now
          releasing := if s.lrx.level = .space then some (max u.now s.lrx.since + 100000) else none
          record := { s.call.record with
            state := .ended, outcome := some cause, elapsed := seconds } }
        link := s.link.queueNotice (.cleared cause s.call.record.sent s.call.record.received
          s.call.sendDiscarded seconds)
        punch := if s.punch.lineRelease = .marked then { s.punch with lineRelease := .due }
                 else s.punch } →
      (s.call.clearSpace = some due → exec .clearingEnd s = .next (State.carryOn t)) ∧
      (s.call.clearing = some due → exec .clearingTimeout s = .next (State.carryOn t))) ∧
    (s.call.releasing = some due →
      (s.call.stopPending = false → exec .releasingEnd s =
        .next (State.carryOn { u.demandCall false with call :=
          { s.call.stopTimers with state := .idle, enteredAt := u.now } })) ∧
      (s.call.stopPending = true → exec .releasingEnd s =
        .next (State.carryOn { u.demandCall false with call :=
          { s.call.stopTimers with
            state := .outOfService, enteredAt := u.now, stopPending := false } })))

/-- The choices after a row run in order; demands follow the work and move the motor. R131, R146, R162, R163, R165,
R166. The order of the choices is the model's choice (log 7); that PRINT lapses after the choice that starts a hold-
wait is R112 and R131. Each choice has its own statement. That a member which stands when a RELOAD begins stays
while its work stands is log 44. -/
def Obligations.DemandsFollowTheWorkAndMoveTheMotor : Prop :=
  (∀ (s : State) (d : Demand), ∃ m w, s.setDemand d = { s with motor :=
      { s.motor with demand := d, state := m, printWithdrawn := w } } ∧
    ((∃ due, m = .runUp due) → (w = true ↔
      (s.motor.printWithdrawn = true ∨ s.motor.demand.print = true) ∧ d.print = false)) ∧
    (m = .running → (w = true ↔ s.motor.printWithdrawn = true ∧ d.print = false)) ∧
    (m ≠ .running → (∀ due, m ≠ .runUp due) → w = false) ∧
    (s.motor.demand.isEmpty = true → d.isEmpty = false →
      (s.motor.state = .off → m = .runUp (s.now + s.opt .runUpTime * 10000)) ∧
      (∀ due, s.motor.state = .runOn due → m = .running) ∧
      (∀ due, s.motor.state = .runUp due → m = s.motor.state)) ∧
    (s.motor.demand.isEmpty = false → d.isEmpty = true →
      (s.motor.state = .running → m = .runOn (s.now + s.opt .runOnTime * 100000)) ∧
      (∀ due, s.motor.state = .runUp due → m = s.motor.state)) ∧
    (s.motor.demand.isEmpty = d.isEmpty → m = s.motor.state)) ∧
  (∀ s t : State, t = s.carryOn →
    (t.motor.demand.print = true ↔ ((s.isl.loader = .ready ∨ s.motor.demand.print = true) ∧
      (t.printer.cycle ≠ none ∨ (t.printer.status = .idle ∧
        (t.store.pLine.cells ≠ [] ∨ t.store.pLocal.cells ≠ [] ∨ t.store.pSubmit.cells ≠ []))))) ∧
    (t.motor.demand.punch = true ↔
      ((s.isl.loader = .ready ∨ s.motor.demand.punch = true) ∧
        (t.punch.status = .onIdle ∨ t.punch.status = .cycle) ∧
        (t.punch.cycle ≠ none ∨ t.store.punch.cells ≠ [] ∨ 0 < t.punch.leader ∨
          t.punch.feedRequest ≠ none ∨ t.punch.feedHeld = true ∨
          ∃ n, t.punch.lineRelease = .trailer (n + 1))))) ∧
  (∀ s : State,
    (∀ on : Bool, s.demandCall on = s.setDemand { s.motor.demand with call := on }) ∧
    s.carryOn = State.sendChoice
      s.testReleases.reviewHoldWait.reviewWithdrawn.placeDemands.printChoice.punchChoice.lapseDemands.runReleaseTimer ∧
    ∃ print punch : Bool,
      s.placeDemands = s.setDemand { call := s.motor.demand.call,
                                     print := s.motor.demand.print || print,
                                     punch := s.motor.demand.punch || punch } ∧
      s.lapseDemands = s.setDemand { call := s.motor.demand.call, print := print, punch := punch } ∧
      (print = true ↔ ((s.isl.loader = .ready ∨ s.motor.demand.print = true) ∧
        (s.printer.cycle ≠ none ∨ (s.printer.status = .idle ∧
          (s.store.pLine.cells ≠ [] ∨ s.store.pLocal.cells ≠ [] ∨ s.store.pSubmit.cells ≠ []))))) ∧
      (punch = true ↔ ((s.isl.loader = .ready ∨ s.motor.demand.punch = true) ∧
        (s.punch.status = .onIdle ∨ s.punch.status = .cycle) ∧
        (s.punch.cycle ≠ none ∨ s.store.punch.cells ≠ [] ∨ 0 < s.punch.leader ∨
          s.punch.feedRequest ≠ none ∨ s.punch.feedHeld = true ∨
          ∃ n, s.punch.lineRelease = .trailer (n + 1)))))

/-- What the mechanisms and the sender take up changes nothing that is not theirs. The frame of every row whose next
state is stated with carryOn. -/
def Obligations.ChoicesKeepWhatIsNotTheirs : Prop :=
  ∀ s : State, s.ChoicesKeep s.carryOn

/-- The phase rows take a cycle through its phases and the settle rows end it by mode and MECH-BUSY. R118, R139,
R167. R167 to R169. What a record holds in IDLE is the model's choice (log 30). -/
def Obligations.CycleAndSettleRowsComplete : Prop :=
  (∀ (due : Nat) (s u : State), u = { s with now := max s.now due } →
    (∀ c, s.printer.cycle = some c →
      (c.phase = .select due → exec .selectEnd s = .next { u with
        printer := { s.printer with cycle := some { c with
          phase := .strike (u.now + c.strikePulse * 100) } }
        motor := { s.motor with bell :=
          if c.reading = .bell then some (u.now + 10000) else s.motor.bell } }) ∧
      (c.phase = .strike due → exec .strikeEnd s = .next { u with
        printer := { s.printer with cycle := some { c with phase := .settle } }
        motor := { s.motor with printTiming :=
          (Settle.mk .settling c.mode c.programmed c.extra 0 u.now) } })) ∧
    (∀ c, s.punch.cycle = some c →
      (c.phase = .punch due → exec .punchPulseEnd s = .next { u with
        punch := { s.punch with cycle := some { c with
          phase := .feed (u.now + c.feedPulse * 100) } } }) ∧
      (c.phase = .feed due → exec .feedPulseEnd s = .next { u with
        punch := { s.punch with cycle := some { c with phase := .settle } }
        motor := { s.motor with punchTiming :=
          (Settle.mk .settling c.mode c.programmed c.extra 0 u.now) } }))) ∧
  (∀ (m : Mechanism) (s : State) (r : Settle), s.settle m = r →
    (r.phase = .settling → r.mode = .fixed →
      exec (.settleFixedEnd m) s = .next ((s.settleAt m r.programmed .idle).report m false)) ∧
    (r.phase = .settling → r.mode = .sampled → ∀ busy : Bool,
      (busy = true → r.extra ≠ 0 →
        exec (.settleSampledReading m busy) s = .next (s.settleAt m r.programmed .adding)) ∧
      ((busy = false ∨ r.extra = 0) →
        exec (.settleSampledReading m busy) s =
          .next ((s.settleAt m r.programmed .idle).report m false))) ∧
    (r.phase = .adding →
      exec (.settleAddEnd m) s =
        .next ((s.settleAt m (r.programmed + r.extra) .idle).report m false)) ∧
    (r.mode = .extended → ∀ at0 : Nat,
      ((r.phase = .settling ∧ at0 = r.programmed) ∨
        (r.phase = .extending ∧ at0 = r.reached + 1)) →
      exec (.extendedReading m false) s = .next ((s.settleAt m at0 .idle).report m false) ∧
      (at0 < r.programmed + 1000 →
        exec (.extendedReading m true) s = .next (s.settleAt m at0 .extending)) ∧
      (r.programmed + 1000 ≤ at0 →
        exec (.extendedReading m true) s = .next ((s.settleAt m at0 .idle).report m true))) ∧
    (∀ (at0 : Nat) (phase : SettlePhase),
      (m = .printer → s.settleAt m at0 phase = { s with
        now := max s.now (r.startedAt + at0 * 100)
        motor := { s.motor with printTiming := { r with reached := at0, phase := phase } } }) ∧
      (m = .punch → s.settleAt m at0 phase = { s with
        now := max s.now (r.startedAt + at0 * 100)
        motor := { s.motor with punchTiming := { r with reached := at0, phase := phase } } }))) ∧
  (∀ (r : Settle) (now : Nat),
    (r.phase ≠ .idle → r.elapsed now = min 2000 ((now - r.startedAt) / 100)) ∧
    (r.phase = .idle → r.elapsed now = r.reached))

/-- The report of a cycle takes the code's effect on its mechanism, and a fault report sets the fault. R117, R120,
R121, R123, R125, R128, R130 for the printer; R139 to R143, R145 for the punch. The notices at every entry are log
10, a reset that ends an EXPIRED hold-wait log 33, the moment a notice shows log 34, a newline owed in an owed cycle
log 27, and a PUNCH RESET that acts again after the report log 37. That FAULT comes before PAPER OUT in one step is
the model's choice (log 41). -/
def Obligations.ReportsEndTheCycles : Prop :=
  (∀ (c : PrintCycle) (s : State) (fault : Bool), s.printer.cycle = some c →
    ∃ (p : Printer) (u : State),
      p = { s.printer with
        fault := s.printer.fault || fault
        cycle := none, column := p.column, width := p.width, mechCase := p.mechCase,
        lineOpen := p.lineOpen, newlineOwed := p.newlineOwed } ∧
      (c.reading = .carriageReturn → p.column = some 0 ∧ p.width = s.opt .lineWidth) ∧
      (c.reading ≠ .carriageReturn → p.width = s.printer.width) ∧
      (c.reading = .printing ∨ c.reading = .space →
        (s.printer.column = none → p.column = none) ∧
        (∀ k, s.printer.column = some k →
          p.column = some (if k + 1 < s.printer.width then k + 1 else k))) ∧
      (c.reading ≠ .carriageReturn → c.reading ≠ .printing → c.reading ≠ .space →
        p.column = s.printer.column) ∧
      p.mechCase = (if c.reading = .lettersShift then .letters
        else if c.reading = .figuresShift then .figures else s.printer.mechCase) ∧
      p.lineOpen = (if c.kind = .own then decide (c.reading ≠ .lineFeed) else s.printer.lineOpen) ∧
      p.newlineOwed = (if c.kind = .owedCr then .lfOnly
        else if c.kind = .owedLf then .none else s.printer.newlineOwed) ∧
      (fault = false → u = { s with printer := p }) ∧
      (fault = true → u = State.printerNotice { s with printer := p } .fault) ∧
      (s.printer.resetPending = false →
        s.report .printer fault = State.carryOn (State.noticeNoPaper u .cycle)) ∧
      (s.printer.resetPending = true →
        s.report .printer fault = State.carryOn (State.noticeNoPaper { u with printer := { p with
          fault := false, column := none, mechCase := .unknown, holdWait := .notWaiting,
          resetPending := false } } .cycle))) ∧
  (∀ (c : PunchCycle) (s : State) (p : Punch), s.punch.cycle = some c →
    p = { s.punch with
      cycle := none
      tapeCase := if c.muted then s.punch.tapeCase else match c.shift with
        | some .letters => .letters
        | some .figures => .figures
        | none => s.punch.tapeCase
      feedHeld := s.punch.feedHeld && s.punch.switch && s.punch.tape } →
    s.punch.fault = false →
    s.report .punch false = State.carryOn (State.noticeTapeOut { s with punch := p } .cycle) ∧
    ∀ u, u = State.punchNotice { s with punch := { p with fault := true, feedHeld := false } } .fault →
      (c.muted = false → s.report .punch true = State.carryOn u) ∧
      (c.muted = true → s.report .punch true =
        State.carryOn (State.noticeTapeOut { u with punch := { p with feedHeld := false } } .cycle)))

/-- A committed cell gets owed newline, recovery, auto newline and shift before its own cycle. R117. -/
def Obligations.PrinterMakesTheCycleTheCellNeeds : Prop :=
  (∀ (n : PrintSpool) (c : Cell) (s t : State), t = s.printCell n c →
    ∃ y : PrintCycle, t.printer.cycle = some y ∧
      (s.printer.newlineOwed = .crAndLf →
        y.kind = .owedCr ∧ y.code = s.isl.functionMap.carriageReturn) ∧
      (s.printer.newlineOwed = .lfOnly →
        y.kind = .owedLf ∧ y.code = s.isl.functionMap.lineFeed) ∧
      (s.printer.newlineOwed = .none →
        (s.printer.column = none → c.code ≠ s.isl.functionMap.carriageReturn →
          y.kind = .recoveryCr ∧ y.code = s.isl.functionMap.carriageReturn) ∧
        ((s.printer.column ≠ none ∨ c.code = s.isl.functionMap.carriageReturn) →
          (∀ last, last = (((s.isl.functionMap.reading c.code c.case = .printing ∨
              s.isl.functionMap.reading c.code c.case = .space) ∧
              (∃ k, s.printer.column = some k ∧ s.printer.width ≤ k + 1) ∧
              s.opt .autoNewline = 1) : Prop) →
            (last → y.kind = .owedCr ∧ y.code = s.isl.functionMap.carriageReturn ∧
              t.printer.newlineOwed = .crAndLf) ∧
            (¬ last →
              (s.isl.functionMap.needsShift c.code c.case s.printer.mechCase = true →
                y.kind = .shift ∧ y.code = s.isl.functionMap.shiftCode c.case) ∧
              (s.isl.functionMap.needsShift c.code c.case s.printer.mechCase = false →
                y.kind = .own ∧ y.code = c.code ∧ t.printer.committed = false ∧
                t.store = (s.store.removeHead n.toSpool).2))))) ∧
      (y.kind ≠ .own → t.store = s.store ∧ t.printer.committed = true) ∧
      t.printer.column = s.printer.column ∧ t.printer.mechCase = s.printer.mechCase ∧
      t.motor = s.motor ∧ t.punch = s.punch ∧ t.link = s.link) ∧
  (∀ (n : PrintSpool) (c : Cell) (s t : State) (y : PrintCycle), t = s.printCell n c →
    t.printer.cycle = some y →
    y.phase = .select (s.now + s.opt .selectDelay * 100) ∧ y.strikePulse = s.opt .strikePulse ∧
    y.mode = timingModeOf (s.opt .printTimingMode) ∧ y.extra = s.opt .printExtra ∧
    y.reading = (if y.kind = .own then s.isl.functionMap.reading c.code c.case
      else if y.kind = .owedLf then .lineFeed
      else if y.kind = .shift then (if c.case = .letters then .lettersShift else .figuresShift)
      else .carriageReturn) ∧
    y.programmed = (if y.reading = .carriageReturn
      then max 1 (min 1000
        (s.opt .crBase + s.opt .crStep * s.printer.column.getD (s.printer.width - 1)))
      else if y.reading = .lineFeed then s.opt .lfTime else s.opt .printCycle))

/-- The printer chooses committed work, an owed newline, re-arbitration, the open line, or the hold-wait. R112,
R113, R114. That a printer whose PRINT came and went in the run-up makes no choice until an event of its own is R165
as log 36 reads it; that a cycle starts only with PRINT in the demand set, where a RELOAD that loads keeps it out
(R166), is R164 as log 44 reads it. -/
def Obligations.PrinterArbitratesAtLineBoundaries : Prop :=
  (∀ s : State,
    ((s.printer.status ≠ .idle ∨ s.motor.state ≠ .running ∨ s.motor.printWithdrawn = true ∨
        ∃ due, s.printer.holdWait = .waiting due) → s.printChoice = s) ∧
    (s.printer.status = .idle → s.motor.state = .running → s.motor.printWithdrawn = false →
      (∀ due, s.printer.holdWait ≠ .waiting due) →
      (s.motor.demand.print = false → s.printWork = true →
        (s.printer.committed = true ∨ s.printer.newlineOwed ≠ .none ∨ s.printer.current = none ∨
          s.printer.lineOpen = false ∨ ∃ n, s.printer.current = some n ∧ s.printHead n ≠ none) →
        s.printChoice = s) ∧
      (s.motor.demand.print = true →
        ∀ n c, s.printer.committed = true → s.printer.current = some n → s.printHead n = some c →
        s.printChoice = s.printCell n c) ∧
      ((s.printer.committed = false ∨ s.printer.current = none) →
        (s.motor.demand.print = true → s.printer.newlineOwed = .crAndLf → s.printWork = true →
          s.printChoice = s.insertCr .owedCr) ∧
        (s.motor.demand.print = true → s.printer.newlineOwed = .lfOnly → s.printWork = true →
          s.printChoice = s.insertLf) ∧
        ((s.printer.newlineOwed = .none ∨ s.printWork = false) →
          ((s.printer.current = none ∨ s.printer.lineOpen = false) →
            (s.printWork = false → s.printChoice = s) ∧
            (s.motor.demand.print = true → ∀ n c p, s.printHead n = some c →
              (n ≠ .pLine → s.printHead .pLine = none) →
              (n = .pSubmit → s.printer.pointer ≠ .pLocal → s.printHead .pLocal = none) →
              (n = .pLocal → s.printer.pointer = .pLocal → s.printHead .pSubmit = none) →
              p = s.printer.grant n →
              s.printChoice = State.printCell { s with printer := p } n c)) ∧
          (∀ n, s.printer.current = some n → s.printer.lineOpen = true →
            (s.motor.demand.print = true →
              ∀ c, s.printHead n = some c → s.printChoice = s.printCell n c) ∧
            (s.printHead n = none → s.printer.holdWait = .expired → s.printChoice = s) ∧
            (s.printHead n = none → s.printer.holdWait = .notWaiting →
              s.printChoice = { s with printer := { s.printer with
                holdWait := .waiting (s.now + s.opt .arbiterHold * 10000) } })))))) ∧
  (∀ s : State,
    (s.rivalWaits = true ↔ ∃ n : PrintSpool, s.printer.current ≠ some n ∧ s.printHead n ≠ none) ∧
    ((s.printer.status = .idle ∨ s.motor.state ≠ .running) → s.reviewWithdrawn = s) ∧
    (s.printer.status ≠ .idle → s.motor.state = .running →
      s.reviewWithdrawn = { s with motor := { s.motor with printWithdrawn := false } }) ∧
    (s.printer.holdWait = .notWaiting → s.reviewHoldWait = s) ∧
    (s.printer.holdWait ≠ .notWaiting →
      ((s.printer.status ≠ .idle ∨ ∃ n, s.printer.current = some n ∧ s.printHead n ≠ none) →
        s.reviewHoldWait = { s with printer := { s.printer with holdWait := .notWaiting } }) ∧
      (s.printer.status = .idle → (∀ n, s.printer.current = some n → s.printHead n = none) →
        (s.printer.holdWait ≠ .expired ∨ s.rivalWaits = false → s.reviewHoldWait = s) ∧
        (s.printer.holdWait = .expired → s.rivalWaits = true → ∃ p : Printer,
          s.reviewHoldWait = { s with printer := p } ∧
          p = { s.printer with
            current := none, lineOpen := false, newlineOwed := .crAndLf, holdWait := .notWaiting
            interruptedLine := p.interruptedLine, interruptedLocal := p.interruptedLocal
            interruptedSubmit := p.interruptedSubmit } ∧
          (∀ n, s.printer.current = some n → p.interrupted n = true) ∧
          (∀ n, s.printer.current ≠ some n → p.interrupted n = s.printer.interrupted n))))) ∧
  ((∀ p : Printer, p.interrupted .pLine = p.interruptedLine ∧
    p.interrupted .pLocal = p.interruptedLocal ∧ p.interrupted .pSubmit = p.interruptedSubmit) ∧
  (∀ (p : Printer) (n : PrintSpool),
    (p.current = some n → p.grant n = p) ∧
    (p.current ≠ some n → p.grant n = { p with
      current := some n, lineOpen := false
      pointer := if n = .pLine then p.pointer else n
      newlineOwed := if p.interrupted n = true then .crAndLf else p.newlineOwed
      interruptedLine := if n = .pLine then false else p.interruptedLine
      interruptedLocal := if n = .pLocal then false else p.interruptedLocal
      interruptedSubmit := if n = .pSubmit then false else p.interruptedSubmit })) ∧
  (∀ (s : State) (y : PrintCycle), y =
      { code := s.isl.functionMap.lineFeed, reading := .lineFeed, kind := .owedLf
        phase := .select (s.now + s.opt .selectDelay * 100), strikePulse := s.opt .strikePulse
        programmed := s.opt .lfTime, mode := timingModeOf (s.opt .printTimingMode)
        extra := s.opt .printExtra } →
    s.insertLf = { s with printer := { s.printer with cycle := some y } } ∧
    ∀ k : PrintCycleKind, s.insertCr k = { s with printer := { s.printer with cycle := some { y with
      code := s.isl.functionMap.carriageReturn, reading := .carriageReturn, kind := k
      programmed := max 1 (min 1000
        (s.opt .crBase + s.opt .crStep * s.printer.column.getD (s.printer.width - 1))) } } }))

/-- The punch takes its items in order; releases, trailer and release timer follow the work. R138, R140. That the
release at a trailer of 0 is made in OFF, TAPE OUT and FAULT too is the model's choice (log 40). That a release
makes the tape case UNKNOWN is R134 and R140 as log 9 reads them, against the worked example of chapter 7. That a
cycle starts only with PUNCH in the demand set, where a RELOAD that loads keeps it out (R166), is R164 as log 44
reads it. -/
def Obligations.PunchTakesTheFirstItem : Prop :=
  (∀ s : State,
    ((s.punch.status ≠ .onIdle ∨ s.motor.state ≠ .running ∨ s.motor.demand.punch = false) →
      s.punchChoice = s) ∧
    (s.punch.status = .onIdle → s.motor.state = .running → s.motor.demand.punch = true →
      (∀ e rest, s.store.punch.cells = e :: rest →
        (s.punch.committed = true ∨ (s.punch.leader = 0 ∧
          ∀ r, s.punch.feedRequest = some r → r.ahead ≠ 0 ∨ r.blanks = 0)) →
        (s.isl.functionMap.needsShift e.cell.code e.cell.case s.punch.tapeCase = true →
          s.punchChoice = State.startPunchCycle
            { s with punch := { s.punch with committed := true } }
            (s.isl.functionMap.shiftCode e.cell.case)) ∧
        (s.isl.functionMap.needsShift e.cell.code e.cell.case s.punch.tapeCase = false →
          s.punchChoice = State.startPunchCycle { s with
            store := (s.store.removeHead .punch).2
            punch := { s.punch with
              committed := false
              feedRequest := s.punch.feedRequest.map fun r => { r with ahead := r.ahead - 1 } } }
            e.cell.code)) ∧
      ((s.punch.committed = false ∨ s.store.punch.cells = []) →
        (∀ n, s.punch.leader = n + 1 → s.punchChoice = State.startPunchCycle
          { s with punch := { s.punch with leader := n } } s.isl.functionMap.blank) ∧
        (s.punch.leader = 0 →
          (∀ n, s.punch.feedRequest = some { blanks := n + 1, ahead := 0 } →
            s.punchChoice = State.startPunchCycle { s with punch := { s.punch with
              feedRequest := if n = 0 then none else some { blanks := n, ahead := 0 } } }
              s.isl.functionMap.blank) ∧
          ((∀ r, s.punch.feedRequest = some r → r.ahead ≠ 0 ∨ r.blanks = 0) →
            s.store.punch.cells = [] →
            (s.punch.feedHeld = true →
              s.punchChoice = s.startPunchCycle s.isl.functionMap.blank) ∧
            (s.punch.feedHeld = false →
              (∀ n, s.punch.lineRelease = .trailer (n + 1) →
                s.punchChoice = State.startPunchCycle
                  { s with punch := { s.punch with lineRelease := .trailer n } }
                  s.isl.functionMap.blank) ∧
              ((∀ n, s.punch.lineRelease ≠ .trailer (n + 1)) → s.punchChoice = s))))))) ∧
  ((∀ (s : State) (code : Code), s.startPunchCycle code = { s with punch := { s.punch with
    cycle := some
      { code := code
        shift := if code = s.isl.functionMap.lettersShift then some .letters
                 else if code = s.isl.functionMap.figuresShift then some .figures else none
        phase := .punch (s.now + s.opt .punchPulse * 100), feedPulse := s.opt .feedPulse
        programmed := s.opt .punchCycle, mode := timingModeOf (s.opt .punchTimingMode)
        extra := s.opt .punchExtra, muted := false } } }) ∧
  (∀ (s v u : State) (w : LineRelease) (quiet atRest : Prop),
    (quiet ↔ (s.store.punch.cells = [] ∧ s.punch.cycle = none ∧ s.punch.committed = false)) →
    (atRest ↔ (quiet ∧ s.punch.feedRequest = none ∧ s.punch.feedHeld = false)) →
    (s.punch.lineRelease = .due ∧ quiet ∧ s.punch.leader = 0 → w = .trailer (s.opt .trailerCount)) →
    (¬ (s.punch.lineRelease = .due ∧ quiet ∧ s.punch.leader = 0) → w = s.punch.lineRelease) →
    v = { s with punch := { s.punch with lineRelease := w } } →
    u = { s with punch := { s.punch with
      owner := none, tapeCase := .unknown, lineRelease := .none, localRelease := false,
      submittedRelease := false, clearRelease := false, releaseTimer := none } } →
    ((s.punch.owner = some .line ∧ w = .trailer 0 ∧ s.punch.cycle = none) ∨
      (s.punch.owner = some .loc ∧ (s.punch.localRelease = true ∨ s.punch.clearRelease = true) ∧
        atRest) ∨
      (s.punch.owner = some .submitted ∧
        (s.punch.submittedRelease = true ∨ s.punch.clearRelease = true) ∧ atRest) →
      s.testReleases = u) ∧
    (¬ ((s.punch.owner = some .line ∧ w = .trailer 0 ∧ s.punch.cycle = none) ∨
      (s.punch.owner = some .loc ∧ (s.punch.localRelease = true ∨ s.punch.clearRelease = true) ∧
        atRest) ∨
      (s.punch.owner = some .submitted ∧
        (s.punch.submittedRelease = true ∨ s.punch.clearRelease = true) ∧ atRest)) →
      s.testReleases = v) ∧
    ((s.punch.owner = some .loc ∨ s.punch.owner = some .submitted) ∧ atRest →
      (s.punch.releaseTimer ≠ none → s.runReleaseTimer = s) ∧
      (s.punch.releaseTimer = none → s.runReleaseTimer = { s with punch := { s.punch with
        releaseTimer := some (s.now + s.opt .punchReleaseIdle * 100000) } })) ∧
    (¬ ((s.punch.owner = some .loc ∨ s.punch.owner = some .submitted) ∧ atRest) →
      s.runReleaseTimer = { s with punch := { s.punch with releaseTimer := none } })))

/-- The paper and tape rows, their notices, the first levels, the hold-wait and the release timer complete. R114,
R115, R124 to R127, R137, R142. PAPER OUT and TAPE OUT at every entry are log 10, the level of an input without one
log 11, and the moment that a notice shows log 34. The tape case UNKNOWN after RELEASE_TIMER_EXPIRY is R134 and R140
as log 9 reads them, against the worked example of chapter 7. -/
def Obligations.PaperTapeAndWaitRowsComplete : Prop :=
  (∀ (te due : Nat) (s u v : State), u = { s with now := max s.now (te + 2000) } →
    v = { s with now := max s.now due } →
    (s.printer.paperOut.level = some false →
      (s.printer.paper = true → exec (.paperOutChange true te) s =
        .next (State.carryOn (State.noticeNoPaper { u with printer := { s.printer with
          paperOut := Filter.at true, paper := false } } s.printer.status))) ∧
      (s.printer.paper = false → exec (.paperOutChange true te) s =
        .next { u with printer := { s.printer with paperOut := Filter.at true, restore := none } })) ∧
    (s.printer.paperOut.level = some true → s.printer.paper = false →
      exec (.paperOutChange false te) s = .next { u with printer := { s.printer with
        paperOut := Filter.at false, restore := some (te + 200000) } }) ∧
    (s.printer.restore = some due → exec .paperRestoreExpiry s =
      .next (State.carryOn (State.printerNotice { v with printer := { s.printer with
        paper := true, restore := none, newlineOwed := .crAndLf } } .paperRestored))) ∧
    (∀ b : Bool, s.printer.paperLow.level = some (!b) → exec (.paperLowChange b te) s =
      .next (State.printerNotice { u with printer := { s.printer with paperLow := Filter.at b } }
        (if b then .paperLow else .paperLowCleared))) ∧
    (s.punch.tapeOut.level = some false →
      (s.punch.tape = true → exec (.tapeOutChange true te) s =
        .next (State.carryOn (State.dropFeedHeld (State.noticeTapeOut { u with punch := { s.punch with
          tapeOut := Filter.at true, tape := false } } s.punch.status)))) ∧
      (s.punch.tape = false → exec (.tapeOutChange true te) s =
        .next { u with punch := { s.punch with tapeOut := Filter.at true, restore := none } })) ∧
    (s.punch.tapeOut.level = some true → s.punch.tape = false →
      exec (.tapeOutChange false te) s = .next { u with punch := { s.punch with
        tapeOut := Filter.at false, restore := some (te + 200000) } }) ∧
    (s.punch.restore = some due → exec .tapeRestoreExpiry s =
      .next (State.carryOn (State.punchNotice { v with punch := { s.punch with
        tape := true, restore := none, tapeCase := .unknown } } .tapeRestored))) ∧
    (∀ b : Bool, s.punch.tapeLow.level = some (!b) → exec (.tapeLowChange b te) s =
      .next (State.punchNotice { u with punch := { s.punch with tapeLow := Filter.at b } }
        (if b then .tapeLow else .tapeLowCleared)))) ∧
  ((∀ (b : Bool) (s : State),
    (s.printer.paperOut.level = none → exec (.inputFilterStart .paperOut b) s =
      .next (State.carryOn { s with printer := { s.printer with
        paperOut := s.printer.paperOut.threeSamples b, paper := !b } })) ∧
    (s.printer.paperLow.level = none → exec (.inputFilterStart .paperLow b) s =
      .next (State.carryOn { s with printer := { s.printer with
        paperLow := s.printer.paperLow.threeSamples b } })) ∧
    (s.punch.tapeOut.level = none → exec (.inputFilterStart .tapeOut b) s =
      .next (State.carryOn { s with punch := { s.punch with
        tapeOut := s.punch.tapeOut.threeSamples b, tape := !b } })) ∧
    (s.punch.tapeLow.level = none → exec (.inputFilterStart .tapeLow b) s =
      .next (State.carryOn { s with punch := { s.punch with
        tapeLow := s.punch.tapeLow.threeSamples b } }))) ∧
  (∀ f : Filter, f.level = none → ∀ b, (f.threeSamples b).level = some b) ∧
  (∀ (due : Nat) (s u : State), u = { s with now := max s.now due } →
    (s.printer.holdWait = .waiting due →
      (s.rivalWaits = true → ∃ p : Printer, exec .holdWaitExpiry s =
          .next (State.carryOn { u with printer := p }) ∧
        p = { s.printer with
          current := none, lineOpen := false, newlineOwed := .crAndLf, holdWait := .notWaiting
          interruptedLine := p.interruptedLine, interruptedLocal := p.interruptedLocal
          interruptedSubmit := p.interruptedSubmit } ∧
        (∀ n, s.printer.current = some n → p.interrupted n = true) ∧
        (∀ n, s.printer.current ≠ some n → p.interrupted n = s.printer.interrupted n)) ∧
      (s.rivalWaits = false → exec .holdWaitExpiry s =
        .next { u with printer := { s.printer with holdWait := .expired } })) ∧
    (s.punch.releaseTimer = some due → exec .releaseTimerExpiry s =
      .next (State.carryOn { u with punch := { s.punch with
        owner := none, tapeCase := .unknown, lineRelease := .none, localRelease := false,
        submittedRelease := false, clearRelease := false, releaseTimer := none } })))) ∧
  (∀ s : State,
    (∀ cause : PrinterCause, ∃ out low : Bool,
      (∀ l, s.printer.paperOut.level = some l → out = l) ∧
      (∀ l, s.printer.paperLow.level = some l → low = l) ∧
      s.printerNotice cause = { s with
        freeIndex := s.freeIndex + 2
        link := s.link.queueNotice (.printerState
          { cause := cause, state := s.printer.status, column := s.printer.column,
            mechCase := s.printer.mechCase, paperOut := out, paperLow := low, hold := s.printer.hold,
            pLine := s.store.pLine.cells.length, pLocal := s.store.pLocal.cells.length,
            pSubmit := s.store.pSubmit.cells.length }) }) ∧
    (∀ before : PrinterState,
      (before ≠ .noPaper → s.printer.status = .noPaper → s.printer.paperOut.level ≠ none →
        s.noticeNoPaper before = s.printerNotice .paperOut) ∧
      ((before = .noPaper ∨ s.printer.status ≠ .noPaper ∨ s.printer.paperOut.level = none) →
        s.noticeNoPaper before = s)) ∧
    (∀ cause : PunchCause, ∃ out low : Bool,
      (∀ l, s.punch.tapeOut.level = some l → out = l) ∧
      (∀ l, s.punch.tapeLow.level = some l → low = l) ∧
      s.punchNotice cause = { s with
        freeIndex := s.freeIndex + 2
        link := s.link.queueNotice (.punchState
          { cause := cause, state := s.punch.status, owner := s.punch.owner,
            tapeCase := s.punch.tapeCase, tapeOut := out, tapeLow := low,
            cells := s.store.punch.cells.length }) }) ∧
    (∀ before : PunchState,
      (before ≠ .tapeOut → s.punch.status = .tapeOut → s.punch.tapeOut.level ≠ none →
        s.noticeTapeOut before = s.punchNotice .tapeOut) ∧
      ((before = .tapeOut ∨ s.punch.status ≠ .tapeOut ∨ s.punch.tapeOut.level = none) →
        s.noticeTapeOut before = s)))

/-- An append takes a block only when it needs one, and a removal hands over the oldest cell. R6 and R8. R9. -/
def Obligations.SpoolsAppendAndRemoveByBlocks : Prop :=
  (∀ (st : Store) (n : SpoolName) (e : Entry), (st.spool n).shaped n.share →
    (∀ fill, fill = (st.spool n).headOffset + (st.spool n).cells.length →
      (st.spool n).cells ≠ [] → fill % 16 ≠ 0 →
      st.spoolRefusal n = none ∧
      st.append n e = st.withSpool n { st.spool n with cells := (st.spool n).cells ++ [e] }) ∧
    (((st.spool n).cells = [] ∨ ((st.spool n).headOffset + (st.spool n).cells.length) % 16 = 0) →
      (n.share ≤ (st.spool n).chain.length →
        st.spoolRefusal n = some .atShare ∧ st.append n e = st) ∧
      ((st.spool n).chain.length < n.share →
        (st.free = [] → st.spoolRefusal n = some .noBlock ∧ st.append n e = st) ∧
        (∀ b rest, st.free = b :: rest →
          st.spoolRefusal n = none ∧
          st.append n e = { st with free := rest }.withSpool n
            { chain := (st.spool n).chain ++ [b],
              headOffset := if (st.spool n).cells = [] then 0 else (st.spool n).headOffset,
              cells := (st.spool n).cells ++ [e] }))) ∧
    (st.spoolRefusal n = none ↔ 0 < st.capacity n) ∧
    (0 < st.capacity n → st.capacity n = (st.append n e).capacity n + 1)) ∧
  (∀ (st : Store) (n : SpoolName), (st.spool n).shaped n.share →
    ((st.spool n).cells = [] → st.removeHead n = (none, st)) ∧
    (∀ e rest, (st.spool n).cells = e :: rest →
      (st.removeHead n).1 = some e ∧ ((st.removeHead n).2.spool n).cells = rest ∧
      ((rest = [] ∨ (st.spool n).headOffset = 15) → ∃ b chain,
        (st.spool n).chain = b :: chain ∧ (st.removeHead n).2.free = b :: st.free ∧
        ((st.removeHead n).2.spool n).chain = chain) ∧
      (rest ≠ [] → (st.spool n).headOffset ≠ 15 →
        (st.removeHead n).2.free = st.free ∧
        ((st.removeHead n).2.spool n).chain = (st.spool n).chain ∧
        ((st.removeHead n).2.spool n).headOffset = (st.spool n).headOffset + 1) ∧
      (∀ m, m ≠ n → (st.removeHead n).2.spool m = st.spool m) ∧
      (∀ x, st.spoolRefusal n = none →
        ((st.append n x).removeHead n).1 = some e)))

/-- A FILE copy is filed into the RECEIVING record or opens one, and never takes the reserve. R94 to R99, R12, R14.
-/
def Obligations.FileCopiesStopAtTheReserve : Prop :=
  (∀ (c : Cell) (s : State),
    (s.call.state ≠ .connected → s.offerFile c = (s, some .notConnected)) ∧
    (s.call.state = .connected →
      (∀ m, s.file.receiving = some m →
        (m.cells.length % 16 = 0 → s.store.freeCount ≤ 24 →
          s.offerFile c = ({ s with file := s.file.replace { m with
            lost := min 65535 (m.lost + 1) } }, some (.space .file .reserve))) ∧
        ((m.cells.length % 16 ≠ 0 ∨ 24 < s.store.freeCount) →
          ∀ (chain free : List Nat) (g x : Message) (v : State),
          (m.cells.length % 16 ≠ 0 → chain = m.chain ∧ free = s.store.free) →
          (m.cells.length % 16 = 0 →
            chain = m.chain ++ s.store.free.take 1 ∧ free = s.store.free.tail) →
          g = { m with
            cells := m.cells ++ [c], chain := chain
            doubtful := m.doubtful + (if c.quality = .doubtful then 1 else 0)
            substituted := m.substituted + (if c.quality = .substituted then 1 else 0) } →
          x = { g with
            state := .filed, continued := true, caller := s.call.record.caller
            duration := some (min 65535 ((s.now - m.openedAt) / 100000)) } →
          v = { s with store := { s.store with free := free } } →
          (m.cells.length + 1 < 2048 → s.offerFile c = ({ v with
            file := { s.file with records := s.file.records.map fun r =>
              if r.number = m.number then g else r } }, none)) ∧
          (2048 ≤ m.cells.length + 1 → s.offerFile c = ({ v with
            file := { s.file with records := s.file.records.map fun r =>
              if r.number = m.number then x else r }
            link := s.link.queueNotice (.messageFiled (x.summary s.now) .length) }, none)))) ∧
      (s.file.receiving = none →
        (24 ≤ s.file.records.length → s.offerFile c =
          (s.notice (.fileFull s.file.records.length
            (s.file.records.countP fun m => m.state == .filed)), some .fileFull)) ∧
        (s.file.records.length < 24 →
          (s.store.freeCount ≤ 24 → s.offerFile c = (s, some (.space .file .reserve))) ∧
          (24 < s.store.freeCount → ∀ (first : Nat) (candidate : Nat → Nat),
            first = (if s.file.lastNumber < 255 then s.file.lastNumber + 1 else 1) →
            (∀ j, candidate j = (first - 1 + j) % 255 + 1) →
            ∃ k, candidate k ∉ s.file.records.map Message.number ∧
              (∀ j, j < k → candidate j ∈ s.file.records.map Message.number) ∧
              s.offerFile c = ({ s with
                store := { s.store with free := s.store.free.tail }
                file := { s.file with
                  records := s.file.records ++ [
                    { number := candidate k, state := .receiving, kind := s.call.record.kind
                      part := min 15 (s.file.lastPart + 1), continued := false, cells := [c]
                      chain := s.store.free.take 1
                      doubtful := if c.quality = .doubtful then 1 else 0
                      substituted := if c.quality = .substituted then 1 else 0
                      lost := 0, openedAt := s.now, duration := none, caller := none }]
                  lastNumber := candidate k
                  lastPart := min 15 (s.file.lastPart + 1) } }, none))))))

/-- A delivery tries each destination and its stand-in; the quota counts; losses open the episode. R23 to R32 in the
Route Table, R15 to R17 in the Character Store. -/
def Obligations.DeliveryAndQuota : Prop :=
  (∀ (n : RouteName) (c : Cell) (s : State),
    ((s.routes.get n).state = .suspended →
      (s.deliver n c).state = s ∧ (s.deliver n c).placed = 0 ∧
      (s.deliver n c).lost = (s.routes.get n).destinations.count ∧ (s.deliver n c).loss = none) ∧
    (s.deliver n c).placed + (s.deliver n c).lost = (s.routes.get n).destinations.count ∧
    (s.deliver n c).state.routes = s.routes ∧
    (s.present n c).2.1 = (s.deliver n c).placed ∧
    ((s.present n c).1.routes.get n).placed =
      (if 0 < (s.deliver n c).placed then min 65535 ((s.routes.get n).placed + 1)
       else (s.routes.get n).placed) ∧
    ((s.present n c).1.routes.get n).lost =
      min 65535 ((s.routes.get n).lost + (s.deliver n c).lost) ∧
    (∀ m, m ≠ n → (s.present n c).1.routes.get m = s.routes.get m)) ∧
  (∀ (n : RouteName) (s : State) (r : Route), r = s.routes.get n →
    ((r.reload = 0 ∨ r.state = .suspended ∨ r.counter = 0) → s.countQuota n = s) ∧
    (r.reload ≠ 0 → r.state ≠ .suspended →
      (2 ≤ r.counter →
        s.countQuota n = { s with routes := s.routes.put n { r with counter := r.counter - 1 } }) ∧
      (r.counter = 1 → ∃ q, s.countQuota n = { s with
          routes := s.routes.put n q
          link := s.link.queueNotice (.quota n r.action r.reload r.placed) } ∧
        (r.action = .notify → q = { r with counter := r.reload }) ∧
        (r.action = .divert → q = { r with counter := 0, state := .diverted }) ∧
        (r.action = .suspend → q = { r with counter := 0, state := .suspended })))) ∧
  (∀ (n : RouteName) (c : Cell) (s u : State) (r : Route) (d : Delivery), r = s.routes.get n →
    d = s.deliver n c →
    u = { d.state with routes := s.routes.put n { r with
      placed := if 0 < d.placed then min 65535 (r.placed + 1) else r.placed
      lost := min 65535 (r.lost + d.lost) } } →
    s.present n c = (u.countQuota n, d.placed, d.loss)) ∧
  (∀ (n : RouteName) (c : Cell) (s : State),
    (∀ p t, p = (if n = .keyedLocal then SpoolName.pLocal else .pLine) →
      t = (if n = .keyedLocal then SpaceTarget.pLocal else .pLine) →
      ((s.routes.get n).state = .diverted → s.tryPlace n .print c = (s, some .diverted)) ∧
      ((s.routes.get n).state ≠ .diverted →
        (s.printer.status ≠ .idle → s.printer.status ≠ .cycle →
          s.tryPlace n .print c = (s, some .printer)) ∧
        (s.printer.status = .idle ∨ s.printer.status = .cycle →
          (∀ r, s.store.spoolRefusal p = some r →
            s.tryPlace n .print c = (s, some (.space t r))) ∧
          (s.store.spoolRefusal p = none → s.tryPlace n .print c =
            ({ s with store := s.store.append p { cell := c, stream := none } }, none))))) ∧
    (∀ k, k = (if n = .keyedLocal then Stream.loc else .line) →
      (s.punch.status ≠ .onIdle → s.punch.status ≠ .cycle →
        s.tryPlace n .punch c = (s, some .puncher)) ∧
      (s.punch.status = .onIdle ∨ s.punch.status = .cycle →
        (s.punch.owner ≠ none → s.punch.owner ≠ some k →
          s.tryPlace n .punch c = (s, some .owned)) ∧
        (s.punch.owner = none ∨ s.punch.owner = some k →
          (∀ r, s.store.spoolRefusal .punch = some r →
            s.tryPlace n .punch c = (s, some (.space .punch r))) ∧
          (s.store.spoolRefusal .punch = none → ∀ st,
            st = s.store.append .punch { cell := c, stream := some k } →
            (s.punch.owner = none → s.tryPlace n .punch c = ({ s with
              store := st
              punch := { s.punch with
                owner := some k, tapeCase := .unknown, lineRelease := .none
                leader := if k = .line then s.opt .leaderCount else 0
                localRelease := false, submittedRelease := false, clearRelease := false
                releaseTimer := none } }, none)) ∧
            (s.punch.owner = some k → s.tryPlace n .punch c = ({ s with
              store := st
              punch := { s.punch with lineRelease :=
                if k = .line then .none else s.punch.lineRelease } }, none)))))) ∧
    s.tryPlace n .file c = s.offerFile c) ∧
  ((∀ (n : RouteName) (c : Cell) (s : State) (r : Route), r = s.routes.get n → r.state ≠ .suspended →
    s.deliver n c = Delivery.deliverTo n r c (Delivery.deliverTo n r c (Delivery.deliverTo n r c
      { state := s, placed := 0, lost := 0, tried := [], loss := none } .print) .punch) .file) ∧
  (∀ (n : RouteName) (c : Cell) (r : Route) (d : Delivery) (p : Place) (member : Place → Bool)
      (first : Option (SpaceTarget × SpaceReason) → Cause → Option (SpaceTarget × SpaceReason)),
    (member .print = r.destinations.print ∧ member .punch = r.destinations.punch ∧
      member .file = r.destinations.file) →
    (∀ l t why, first none (.space t why) = some (t, why) ∧ first (some l) (.space t why) = some l) →
    (∀ l e, (∀ t why, e ≠ .space t why) → first l e = l) →
    (member p = false → d.deliverTo n r c p = d) ∧
    (member p = true →
      (∀ u, d.state.tryPlace n p c = (u, none) →
        d.deliverTo n r c p = { d with state := u, placed := d.placed + 1 }) ∧
      (∀ u e v, d.state.tryPlace n p c = (u, some e) →
        v = { d with state := u, loss := first d.loss e } →
        ((p = .file ∨ (p = .print ∧ r.printStandIn = none) ∨ (p = .punch ∧ r.punchStandIn = none)) →
          d.deliverTo n r c p = { v with lost := d.lost + 1 }) ∧
        (∀ q, (p = .print ∧ r.printStandIn = some q) ∨ (p = .punch ∧ r.punchStandIn = some q) →
          (member q = true ∨ q ∈ d.tried → d.deliverTo n r c p = { v with lost := d.lost + 1 }) ∧
          (member q = false → q ∉ d.tried →
            (∀ x, u.tryPlace n q c = (x, none) → d.deliverTo n r c p =
              { v with state := x, placed := d.placed + 1, tried := q :: d.tried }) ∧
            (∀ x g, u.tryPlace n q c = (x, some g) → d.deliverTo n r c p =
              { v with state := x, lost := d.lost + 1, tried := q :: d.tried,
                       loss := first v.loss g })))))) ∧
  (∀ (s : State),
    (∀ target why, s.store.episode = .closed → ∀ u, u = { s with
        store := { s.store with episode := .opened }
        link := s.link.queueNotice (.overflow target why s.store.free.length) } →
      (s.opt .breakOnOverflow = 1 → s.call.state = .connected →
        s.reportLoss (some (target, why)) = { u with ltx := { s.ltx with breakRequest := true } }) ∧
      (s.opt .breakOnOverflow ≠ 1 ∨ s.call.state ≠ .connected →
        s.reportLoss (some (target, why)) = u)) ∧
    (∀ l, s.store.episode = .opened → s.reportLoss (some l) = s) ∧
    (s.store.episode = .opened →
      s.reportLoss none = { s with store := { s.store with episode := .closed } }) ∧
    (s.store.episode = .closed → s.reportLoss none = s)))

end Statements
end

