-- ==== Sys2Proof/Laws/Carry.lean ====
section
/-! SUPPORT. The choices that follow a step neither read nor write the Control Link: they leave it as it is, and come to
the same whatever it holds. -/

namespace Sys2Proof.Machine

/-- A state with another link. -/
abbrev State.withLink (s : State) (l : Link) : State := { s with link := l }

variable (s : State) (l : Link)

theorem ite_withLink (p : Prop) [Decidable p] (a b : State) :
    (if p then a else b).withLink l = if p then a.withLink l else b.withLink l :=
  apply_ite (State.withLink · l) p a b

theorem State.startTrailer_withLink : (s.withLink l).startTrailer = s.startTrailer.withLink l := by
  unfold State.startTrailer; rw [ite_withLink]; rfl

theorem State.testReleases_withLink : (s.withLink l).testReleases = s.testReleases.withLink l := by
  unfold State.testReleases; rw [State.startTrailer_withLink]; dsimp only; rw [ite_withLink]; rfl

theorem State.reviewHoldWait_withLink : (s.withLink l).reviewHoldWait = s.reviewHoldWait.withLink l := by
  unfold State.reviewHoldWait; simp only [ite_withLink]; rfl

theorem State.reviewWithdrawn_withLink :
    (s.withLink l).reviewWithdrawn = s.reviewWithdrawn.withLink l := by
  unfold State.reviewWithdrawn State.tellPrinter; simp only [ite_withLink]; rfl

theorem State.runReleaseTimer_withLink : (s.withLink l).runReleaseTimer = s.runReleaseTimer.withLink l := by
  unfold State.runReleaseTimer; rw [ite_withLink]
  cases h : s.punch.releaseTimer <;> rfl

theorem State.printCell_withLink (n : PrintSpool) (c : Cell) :
    (s.withLink l).printCell n c = (s.printCell n c).withLink l := by
  unfold State.printCell; dsimp only
  cases h : s.printer.newlineOwed
  · simp only [ite_withLink]; rfl
  · rfl
  · rfl

theorem State.printFrom_withLink (n : PrintSpool) : (s.withLink l).printFrom n = (s.printFrom n).withLink l := by
  unfold State.printFrom
  show (match s.printHead n with | some c => (s.withLink l).printCell n c | none => s.withLink l) = _
  cases s.printHead n
  · rfl
  · exact State.printCell_withLink ..

theorem State.printChoiceItem_withLink : (s.withLink l).printChoiceItem = s.printChoiceItem.withLink l := by
  unfold State.printChoiceItem
  have ha : (s.withLink l).arbitrate = s.arbitrate := rfl
  have hw : (s.withLink l).printWork = s.printWork := rfl
  have he : ∀ n, (s.withLink l).printSpoolEmpty n = s.printSpoolEmpty n := fun _ => rfl
  rw [ha, hw]; simp only [he]
  have hg : ∀ n, ({ s.withLink l with printer := s.printer.grant n }).printFrom n =
      (State.printFrom { s with printer := s.printer.grant n } n).withLink l := fun n =>
    State.printFrom_withLink { s with printer := s.printer.grant n } l n
  cases h : s.printer.current <;> dsimp only <;> simp only [ite_withLink, State.printFrom_withLink]
  · cases s.arbitrate with
    | none => rfl
    | some n => simp only [hg]; rfl
  · cases s.arbitrate with
    | none => rfl
    | some n => simp only [hg]; rfl

theorem State.printChoice_withLink : (s.withLink l).printChoice = s.printChoice.withLink l := by
  unfold State.printChoice; rw [State.printChoiceItem_withLink]; exact (ite_withLink ..).symm

theorem State.punchCell_withLink (e : Entry) : (s.withLink l).punchCell e = (s.punchCell e).withLink l := by
  unfold State.punchCell; rw [ite_withLink]; rfl

theorem State.punchChoiceItem_withLink : (s.withLink l).punchChoiceItem = s.punchChoiceItem.withLink l := by
  unfold State.punchChoiceItem
  cases h : s.store.punch.cells <;> cases hc : s.punch.committed <;>
    simp only [ite_withLink, State.punchCell_withLink] <;> rfl

theorem State.punchChoice_withLink : (s.withLink l).punchChoice = s.punchChoice.withLink l := by
  unfold State.punchChoice; rw [ite_withLink, ← State.punchChoiceItem_withLink]; rfl

theorem State.drive_withLink : (s.withLink l).drive = s.drive.withLink l := by
  unfold State.drive
  rw [State.testReleases_withLink, State.reviewHoldWait_withLink,
    State.reviewWithdrawn_withLink]
  show ((State.placeDemands _).withLink l).printChoice.punchChoice.lapseDemands.runReleaseTimer = _
  rw [State.printChoice_withLink, State.punchChoice_withLink]
  show ((State.lapseDemands _).withLink l).runReleaseTimer = _
  rw [State.runReleaseTimer_withLink]

theorem State.sendItem_withLink : (s.withLink l).sendItem = s.sendItem.withLink l := by
  unfold State.sendItem State.keyAnswerback State.keySend State.keyEnquiry
  rw [ite_withLink, ite_withLink]
  cases h : s.ltx.answerback with
  | none =>
    cases hs : s.store.send.cells <;> simp only [ite_withLink] <;> rfl
  | some i =>
    dsimp only
    cases hs : s.isl.answerback[i]? <;> simp only [ite_withLink] <;> rfl

theorem State.sendChoice_withLink : (s.withLink l).sendChoice = s.sendChoice.withLink l := by
  unfold State.sendChoice; rw [ite_withLink, ← State.sendItem_withLink]

theorem State.carryOn_withLink : (s.withLink l).carryOn = s.carryOn.withLink l := by
  unfold State.carryOn; rw [State.drive_withLink, State.sendChoice_withLink]

/-- The choices leave the link as it is. -/
@[simp] theorem State.carryOn_link : s.carryOn.link = s.link := by
  have h := congrArg (fun t : State => t.link) (State.carryOn_withLink s s.link)
  exact h

/-- The Line Sender's choice leaves the link as it is. -/
@[simp] theorem State.sendChoice_link : s.sendChoice.link = s.link := by
  have h := congrArg (fun t : State => t.link) (State.sendChoice_withLink s s.link)
  exact h

end Sys2Proof.Machine
end

