-- ==== Sys2Proof/Laws/State.lean ====
section
/-! SUPPORT. For each operation that updates State, one lemma for each field: the value it gives the field it changes, and
that it leaves the others as they are. -/

namespace Sys2Proof.Machine

@[simp] theorem State.advance_store (s : State) (t : Nat) : (s.advance t).store = s.store := rfl
@[simp] theorem State.advance_routes (s : State) (t : Nat) : (s.advance t).routes = s.routes := rfl
@[simp] theorem State.advance_timing (s : State) (t : Nat) : (s.advance t).timing = s.timing := rfl
@[simp] theorem State.advance_lrx (s : State) (t : Nat) : (s.advance t).lrx = s.lrx := rfl
@[simp] theorem State.advance_ltx (s : State) (t : Nat) : (s.advance t).ltx = s.ltx := rfl
@[simp] theorem State.advance_call (s : State) (t : Nat) : (s.advance t).call = s.call := rfl
@[simp] theorem State.advance_file (s : State) (t : Nat) : (s.advance t).file = s.file := rfl
@[simp] theorem State.advance_printer (s : State) (t : Nat) : (s.advance t).printer = s.printer := rfl
@[simp] theorem State.advance_punch (s : State) (t : Nat) : (s.advance t).punch = s.punch := rfl
@[simp] theorem State.advance_keyboard (s : State) (t : Nat) : (s.advance t).keyboard = s.keyboard := rfl
@[simp] theorem State.advance_motor (s : State) (t : Nat) : (s.advance t).motor = s.motor := rfl
@[simp] theorem State.advance_link (s : State) (t : Nat) : (s.advance t).link = s.link := rfl
@[simp] theorem State.advance_isl (s : State) (t : Nat) : (s.advance t).isl = s.isl := rfl
@[simp] theorem State.advance_freeIndex (s : State) (t : Nat) : (s.advance t).freeIndex = s.freeIndex := rfl
@[simp] theorem State.advance_pending (s : State) (t : Nat) : (s.advance t).pending = s.pending := rfl
@[simp] theorem State.advance_now (s : State) (t : Nat) :
    (s.advance t).now = max s.now t := rfl

@[simp] theorem State.notice_store (s : State) (body : NoticeBody) : (s.notice body).store = s.store := rfl
@[simp] theorem State.notice_routes (s : State) (body : NoticeBody) : (s.notice body).routes = s.routes := rfl
@[simp] theorem State.notice_timing (s : State) (body : NoticeBody) : (s.notice body).timing = s.timing := rfl
@[simp] theorem State.notice_lrx (s : State) (body : NoticeBody) : (s.notice body).lrx = s.lrx := rfl
@[simp] theorem State.notice_ltx (s : State) (body : NoticeBody) : (s.notice body).ltx = s.ltx := rfl
@[simp] theorem State.notice_call (s : State) (body : NoticeBody) : (s.notice body).call = s.call := rfl
@[simp] theorem State.notice_file (s : State) (body : NoticeBody) : (s.notice body).file = s.file := rfl
@[simp] theorem State.notice_printer (s : State) (body : NoticeBody) : (s.notice body).printer = s.printer := rfl
@[simp] theorem State.notice_punch (s : State) (body : NoticeBody) : (s.notice body).punch = s.punch := rfl
@[simp] theorem State.notice_keyboard (s : State) (body : NoticeBody) : (s.notice body).keyboard = s.keyboard := rfl
@[simp] theorem State.notice_motor (s : State) (body : NoticeBody) : (s.notice body).motor = s.motor := rfl
@[simp] theorem State.notice_isl (s : State) (body : NoticeBody) : (s.notice body).isl = s.isl := rfl
@[simp] theorem State.notice_now (s : State) (body : NoticeBody) : (s.notice body).now = s.now := rfl
@[simp] theorem State.notice_freeIndex (s : State) (body : NoticeBody) :
    (s.notice body).freeIndex = s.freeIndex := rfl
@[simp] theorem State.notice_pending (s : State) (body : NoticeBody) : (s.notice body).pending = s.pending := rfl
@[simp] theorem State.notice_link (s : State) (body : NoticeBody) :
    (s.notice body).link = s.link.queueNotice body := rfl

@[simp] theorem State.reply_store (s : State) (r : Reply) : (s.reply r).store = s.store := rfl
@[simp] theorem State.reply_routes (s : State) (r : Reply) : (s.reply r).routes = s.routes := rfl
@[simp] theorem State.reply_timing (s : State) (r : Reply) : (s.reply r).timing = s.timing := rfl
@[simp] theorem State.reply_lrx (s : State) (r : Reply) : (s.reply r).lrx = s.lrx := rfl
@[simp] theorem State.reply_ltx (s : State) (r : Reply) : (s.reply r).ltx = s.ltx := rfl
@[simp] theorem State.reply_call (s : State) (r : Reply) : (s.reply r).call = s.call := rfl
@[simp] theorem State.reply_file (s : State) (r : Reply) : (s.reply r).file = s.file := rfl
@[simp] theorem State.reply_printer (s : State) (r : Reply) : (s.reply r).printer = s.printer := rfl
@[simp] theorem State.reply_punch (s : State) (r : Reply) : (s.reply r).punch = s.punch := rfl
@[simp] theorem State.reply_keyboard (s : State) (r : Reply) : (s.reply r).keyboard = s.keyboard := rfl
@[simp] theorem State.reply_motor (s : State) (r : Reply) : (s.reply r).motor = s.motor := rfl
@[simp] theorem State.reply_isl (s : State) (r : Reply) : (s.reply r).isl = s.isl := rfl
@[simp] theorem State.reply_now (s : State) (r : Reply) : (s.reply r).now = s.now := rfl
@[simp] theorem State.reply_freeIndex (s : State) (r : Reply) : (s.reply r).freeIndex = s.freeIndex := rfl
@[simp] theorem State.reply_pending (s : State) (r : Reply) : (s.reply r).pending = s.pending := rfl
@[simp] theorem State.reply_link (s : State) (r : Reply) :
    (s.reply r).link = { s.link with pendingReply := .awaited (some r) } := rfl

@[simp] theorem State.accept_store (s : State) (kind : Byte) (r : Result) : (s.accept kind r).store = s.store := rfl
@[simp] theorem State.accept_routes (s : State) (kind : Byte) (r : Result) :
    (s.accept kind r).routes = s.routes := rfl
@[simp] theorem State.accept_timing (s : State) (kind : Byte) (r : Result) :
    (s.accept kind r).timing = s.timing := rfl
@[simp] theorem State.accept_lrx (s : State) (kind : Byte) (r : Result) : (s.accept kind r).lrx = s.lrx := rfl
@[simp] theorem State.accept_ltx (s : State) (kind : Byte) (r : Result) : (s.accept kind r).ltx = s.ltx := rfl
@[simp] theorem State.accept_call (s : State) (kind : Byte) (r : Result) : (s.accept kind r).call = s.call := rfl
@[simp] theorem State.accept_file (s : State) (kind : Byte) (r : Result) : (s.accept kind r).file = s.file := rfl
@[simp] theorem State.accept_printer (s : State) (kind : Byte) (r : Result) :
    (s.accept kind r).printer = s.printer := rfl
@[simp] theorem State.accept_punch (s : State) (kind : Byte) (r : Result) : (s.accept kind r).punch = s.punch := rfl
@[simp] theorem State.accept_keyboard (s : State) (kind : Byte) (r : Result) :
    (s.accept kind r).keyboard = s.keyboard := rfl
@[simp] theorem State.accept_motor (s : State) (kind : Byte) (r : Result) : (s.accept kind r).motor = s.motor := rfl
@[simp] theorem State.accept_isl (s : State) (kind : Byte) (r : Result) : (s.accept kind r).isl = s.isl := rfl
@[simp] theorem State.accept_now (s : State) (kind : Byte) (r : Result) : (s.accept kind r).now = s.now := rfl
@[simp] theorem State.accept_freeIndex (s : State) (kind : Byte) (r : Result) :
    (s.accept kind r).freeIndex = s.freeIndex := rfl
@[simp] theorem State.accept_pending (s : State) (kind : Byte) (r : Result) :
    (s.accept kind r).pending = s.pending := rfl

@[simp] theorem State.refuse_store (s : State) (kind : Byte) (r : Reason) : (s.refuse kind r).store = s.store := rfl
@[simp] theorem State.refuse_routes (s : State) (kind : Byte) (r : Reason) :
    (s.refuse kind r).routes = s.routes := rfl
@[simp] theorem State.refuse_timing (s : State) (kind : Byte) (r : Reason) :
    (s.refuse kind r).timing = s.timing := rfl
@[simp] theorem State.refuse_lrx (s : State) (kind : Byte) (r : Reason) : (s.refuse kind r).lrx = s.lrx := rfl
@[simp] theorem State.refuse_ltx (s : State) (kind : Byte) (r : Reason) : (s.refuse kind r).ltx = s.ltx := rfl
@[simp] theorem State.refuse_call (s : State) (kind : Byte) (r : Reason) : (s.refuse kind r).call = s.call := rfl
@[simp] theorem State.refuse_file (s : State) (kind : Byte) (r : Reason) : (s.refuse kind r).file = s.file := rfl
@[simp] theorem State.refuse_printer (s : State) (kind : Byte) (r : Reason) :
    (s.refuse kind r).printer = s.printer := rfl
@[simp] theorem State.refuse_punch (s : State) (kind : Byte) (r : Reason) : (s.refuse kind r).punch = s.punch := rfl
@[simp] theorem State.refuse_keyboard (s : State) (kind : Byte) (r : Reason) :
    (s.refuse kind r).keyboard = s.keyboard := rfl
@[simp] theorem State.refuse_motor (s : State) (kind : Byte) (r : Reason) : (s.refuse kind r).motor = s.motor := rfl
@[simp] theorem State.refuse_isl (s : State) (kind : Byte) (r : Reason) : (s.refuse kind r).isl = s.isl := rfl
@[simp] theorem State.refuse_now (s : State) (kind : Byte) (r : Reason) : (s.refuse kind r).now = s.now := rfl
@[simp] theorem State.refuse_freeIndex (s : State) (kind : Byte) (r : Reason) :
    (s.refuse kind r).freeIndex = s.freeIndex := rfl
@[simp] theorem State.refuse_pending (s : State) (kind : Byte) (r : Reason) :
    (s.refuse kind r).pending = s.pending := rfl

@[simp] theorem State.setDemand_store (s : State) (d : Demand) : (s.setDemand d).store = s.store := rfl
@[simp] theorem State.setDemand_routes (s : State) (d : Demand) : (s.setDemand d).routes = s.routes := rfl
@[simp] theorem State.setDemand_timing (s : State) (d : Demand) : (s.setDemand d).timing = s.timing := rfl
@[simp] theorem State.setDemand_lrx (s : State) (d : Demand) : (s.setDemand d).lrx = s.lrx := rfl
@[simp] theorem State.setDemand_ltx (s : State) (d : Demand) : (s.setDemand d).ltx = s.ltx := rfl
@[simp] theorem State.setDemand_call (s : State) (d : Demand) : (s.setDemand d).call = s.call := rfl
@[simp] theorem State.setDemand_file (s : State) (d : Demand) : (s.setDemand d).file = s.file := rfl
@[simp] theorem State.setDemand_printer (s : State) (d : Demand) : (s.setDemand d).printer = s.printer := rfl
@[simp] theorem State.setDemand_punch (s : State) (d : Demand) : (s.setDemand d).punch = s.punch := rfl
@[simp] theorem State.setDemand_keyboard (s : State) (d : Demand) : (s.setDemand d).keyboard = s.keyboard := rfl
@[simp] theorem State.setDemand_link (s : State) (d : Demand) : (s.setDemand d).link = s.link := rfl
@[simp] theorem State.setDemand_isl (s : State) (d : Demand) : (s.setDemand d).isl = s.isl := rfl
@[simp] theorem State.setDemand_now (s : State) (d : Demand) : (s.setDemand d).now = s.now := rfl
@[simp] theorem State.setDemand_freeIndex (s : State) (d : Demand) : (s.setDemand d).freeIndex = s.freeIndex := rfl
@[simp] theorem State.setDemand_pending (s : State) (d : Demand) : (s.setDemand d).pending = s.pending := rfl

@[simp] theorem State.demandCall_store (s : State) (on : Bool) : (s.demandCall on).store = s.store := rfl
@[simp] theorem State.demandCall_routes (s : State) (on : Bool) : (s.demandCall on).routes = s.routes := rfl
@[simp] theorem State.demandCall_timing (s : State) (on : Bool) : (s.demandCall on).timing = s.timing := rfl
@[simp] theorem State.demandCall_lrx (s : State) (on : Bool) : (s.demandCall on).lrx = s.lrx := rfl
@[simp] theorem State.demandCall_ltx (s : State) (on : Bool) : (s.demandCall on).ltx = s.ltx := rfl
@[simp] theorem State.demandCall_call (s : State) (on : Bool) : (s.demandCall on).call = s.call := rfl
@[simp] theorem State.demandCall_file (s : State) (on : Bool) : (s.demandCall on).file = s.file := rfl
@[simp] theorem State.demandCall_printer (s : State) (on : Bool) : (s.demandCall on).printer = s.printer := rfl
@[simp] theorem State.demandCall_punch (s : State) (on : Bool) : (s.demandCall on).punch = s.punch := rfl
@[simp] theorem State.demandCall_keyboard (s : State) (on : Bool) : (s.demandCall on).keyboard = s.keyboard := rfl
@[simp] theorem State.demandCall_link (s : State) (on : Bool) : (s.demandCall on).link = s.link := rfl
@[simp] theorem State.demandCall_isl (s : State) (on : Bool) : (s.demandCall on).isl = s.isl := rfl
@[simp] theorem State.demandCall_now (s : State) (on : Bool) : (s.demandCall on).now = s.now := rfl
@[simp] theorem State.demandCall_freeIndex (s : State) (on : Bool) : (s.demandCall on).freeIndex = s.freeIndex := rfl
@[simp] theorem State.demandCall_pending (s : State) (on : Bool) : (s.demandCall on).pending = s.pending := rfl

@[simp] theorem State.restartMotor_store (s : State) : s.restartMotor.store = s.store := rfl
@[simp] theorem State.restartMotor_routes (s : State) : s.restartMotor.routes = s.routes := rfl
@[simp] theorem State.restartMotor_timing (s : State) : s.restartMotor.timing = s.timing := rfl
@[simp] theorem State.restartMotor_lrx (s : State) : s.restartMotor.lrx = s.lrx := rfl
@[simp] theorem State.restartMotor_ltx (s : State) : s.restartMotor.ltx = s.ltx := rfl
@[simp] theorem State.restartMotor_call (s : State) : s.restartMotor.call = s.call := rfl
@[simp] theorem State.restartMotor_file (s : State) : s.restartMotor.file = s.file := rfl
@[simp] theorem State.restartMotor_printer (s : State) : s.restartMotor.printer = s.printer := rfl
@[simp] theorem State.restartMotor_punch (s : State) : s.restartMotor.punch = s.punch := rfl
@[simp] theorem State.restartMotor_keyboard (s : State) : s.restartMotor.keyboard = s.keyboard := rfl
@[simp] theorem State.restartMotor_link (s : State) : s.restartMotor.link = s.link := rfl
@[simp] theorem State.restartMotor_isl (s : State) : s.restartMotor.isl = s.isl := rfl
@[simp] theorem State.restartMotor_now (s : State) : s.restartMotor.now = s.now := rfl
@[simp] theorem State.restartMotor_freeIndex (s : State) : s.restartMotor.freeIndex = s.freeIndex := rfl
@[simp] theorem State.restartMotor_pending (s : State) : s.restartMotor.pending = s.pending := rfl

@[simp] theorem State.withSettle_store (s : State) (m : Mechanism) (r : Settle) :
    (s.withSettle m r).store = s.store := by
  unfold State.withSettle; split <;> rfl
@[simp] theorem State.withSettle_routes (s : State) (m : Mechanism) (r : Settle) :
    (s.withSettle m r).routes = s.routes := by
  unfold State.withSettle; split <;> rfl
@[simp] theorem State.withSettle_timing (s : State) (m : Mechanism) (r : Settle) :
    (s.withSettle m r).timing = s.timing := by
  unfold State.withSettle; split <;> rfl
@[simp] theorem State.withSettle_lrx (s : State) (m : Mechanism) (r : Settle) :
    (s.withSettle m r).lrx = s.lrx := by
  unfold State.withSettle; split <;> rfl
@[simp] theorem State.withSettle_ltx (s : State) (m : Mechanism) (r : Settle) :
    (s.withSettle m r).ltx = s.ltx := by
  unfold State.withSettle; split <;> rfl
@[simp] theorem State.withSettle_call (s : State) (m : Mechanism) (r : Settle) :
    (s.withSettle m r).call = s.call := by
  unfold State.withSettle; split <;> rfl
@[simp] theorem State.withSettle_file (s : State) (m : Mechanism) (r : Settle) :
    (s.withSettle m r).file = s.file := by
  unfold State.withSettle; split <;> rfl
@[simp] theorem State.withSettle_printer (s : State) (m : Mechanism) (r : Settle) :
    (s.withSettle m r).printer = s.printer := by
  unfold State.withSettle; split <;> rfl
@[simp] theorem State.withSettle_punch (s : State) (m : Mechanism) (r : Settle) :
    (s.withSettle m r).punch = s.punch := by
  unfold State.withSettle; split <;> rfl
@[simp] theorem State.withSettle_keyboard (s : State) (m : Mechanism) (r : Settle) :
    (s.withSettle m r).keyboard = s.keyboard := by
  unfold State.withSettle; split <;> rfl
@[simp] theorem State.withSettle_link (s : State) (m : Mechanism) (r : Settle) :
    (s.withSettle m r).link = s.link := by
  unfold State.withSettle; split <;> rfl
@[simp] theorem State.withSettle_isl (s : State) (m : Mechanism) (r : Settle) :
    (s.withSettle m r).isl = s.isl := by
  unfold State.withSettle; split <;> rfl
@[simp] theorem State.withSettle_now (s : State) (m : Mechanism) (r : Settle) :
    (s.withSettle m r).now = s.now := by
  unfold State.withSettle; split <;> rfl
@[simp] theorem State.withSettle_freeIndex (s : State) (m : Mechanism) (r : Settle) :
    (s.withSettle m r).freeIndex = s.freeIndex := by
  unfold State.withSettle; split <;> rfl
@[simp] theorem State.withSettle_pending (s : State) (m : Mechanism) (r : Settle) :
    (s.withSettle m r).pending = s.pending := by
  unfold State.withSettle; split <;> rfl

@[simp] theorem State.ringBell_store (s : State) : s.ringBell.store = s.store := rfl
@[simp] theorem State.ringBell_routes (s : State) : s.ringBell.routes = s.routes := rfl
@[simp] theorem State.ringBell_timing (s : State) : s.ringBell.timing = s.timing := rfl
@[simp] theorem State.ringBell_lrx (s : State) : s.ringBell.lrx = s.lrx := rfl
@[simp] theorem State.ringBell_ltx (s : State) : s.ringBell.ltx = s.ltx := rfl
@[simp] theorem State.ringBell_call (s : State) : s.ringBell.call = s.call := rfl
@[simp] theorem State.ringBell_file (s : State) : s.ringBell.file = s.file := rfl
@[simp] theorem State.ringBell_printer (s : State) : s.ringBell.printer = s.printer := rfl
@[simp] theorem State.ringBell_punch (s : State) : s.ringBell.punch = s.punch := rfl
@[simp] theorem State.ringBell_keyboard (s : State) : s.ringBell.keyboard = s.keyboard := rfl
@[simp] theorem State.ringBell_link (s : State) : s.ringBell.link = s.link := rfl
@[simp] theorem State.ringBell_isl (s : State) : s.ringBell.isl = s.isl := rfl
@[simp] theorem State.ringBell_now (s : State) : s.ringBell.now = s.now := rfl
@[simp] theorem State.ringBell_freeIndex (s : State) : s.ringBell.freeIndex = s.freeIndex := rfl
@[simp] theorem State.ringBell_pending (s : State) : s.ringBell.pending = s.pending := rfl
@[simp] theorem State.ringBell_motor (s : State) :
    s.ringBell.motor = { s.motor with bell := some (s.now + Config.bell) } := rfl

@[simp] theorem State.printerNotice_store (s : State) (cause : PrinterCause) :
    (s.printerNotice cause).store = s.store := rfl
@[simp] theorem State.printerNotice_routes (s : State) (cause : PrinterCause) :
    (s.printerNotice cause).routes = s.routes := rfl
@[simp] theorem State.printerNotice_timing (s : State) (cause : PrinterCause) :
    (s.printerNotice cause).timing = s.timing := rfl
@[simp] theorem State.printerNotice_lrx (s : State) (cause : PrinterCause) :
    (s.printerNotice cause).lrx = s.lrx := rfl
@[simp] theorem State.printerNotice_ltx (s : State) (cause : PrinterCause) :
    (s.printerNotice cause).ltx = s.ltx := rfl
@[simp] theorem State.printerNotice_call (s : State) (cause : PrinterCause) :
    (s.printerNotice cause).call = s.call := rfl
@[simp] theorem State.printerNotice_file (s : State) (cause : PrinterCause) :
    (s.printerNotice cause).file = s.file := rfl
@[simp] theorem State.printerNotice_printer (s : State) (cause : PrinterCause) :
    (s.printerNotice cause).printer = s.printer := rfl
@[simp] theorem State.printerNotice_punch (s : State) (cause : PrinterCause) :
    (s.printerNotice cause).punch = s.punch := rfl
@[simp] theorem State.printerNotice_keyboard (s : State) (cause : PrinterCause) :
    (s.printerNotice cause).keyboard = s.keyboard := rfl
@[simp] theorem State.printerNotice_motor (s : State) (cause : PrinterCause) :
    (s.printerNotice cause).motor = s.motor := rfl
@[simp] theorem State.printerNotice_isl (s : State) (cause : PrinterCause) :
    (s.printerNotice cause).isl = s.isl := rfl
@[simp] theorem State.printerNotice_now (s : State) (cause : PrinterCause) :
    (s.printerNotice cause).now = s.now := rfl
@[simp] theorem State.printerNotice_pending (s : State) (cause : PrinterCause) :
    (s.printerNotice cause).pending = s.pending := rfl

@[simp] theorem State.noticeNoPaper_store (s : State) (before : PrinterState) :
    (s.noticeNoPaper before).store = s.store := by
  unfold State.noticeNoPaper; split <;> rfl
@[simp] theorem State.noticeNoPaper_routes (s : State) (before : PrinterState) :
    (s.noticeNoPaper before).routes = s.routes := by
  unfold State.noticeNoPaper; split <;> rfl
@[simp] theorem State.noticeNoPaper_timing (s : State) (before : PrinterState) :
    (s.noticeNoPaper before).timing = s.timing := by
  unfold State.noticeNoPaper; split <;> rfl
@[simp] theorem State.noticeNoPaper_lrx (s : State) (before : PrinterState) :
    (s.noticeNoPaper before).lrx = s.lrx := by
  unfold State.noticeNoPaper; split <;> rfl
@[simp] theorem State.noticeNoPaper_ltx (s : State) (before : PrinterState) :
    (s.noticeNoPaper before).ltx = s.ltx := by
  unfold State.noticeNoPaper; split <;> rfl
@[simp] theorem State.noticeNoPaper_call (s : State) (before : PrinterState) :
    (s.noticeNoPaper before).call = s.call := by
  unfold State.noticeNoPaper; split <;> rfl
@[simp] theorem State.noticeNoPaper_file (s : State) (before : PrinterState) :
    (s.noticeNoPaper before).file = s.file := by
  unfold State.noticeNoPaper; split <;> rfl
@[simp] theorem State.noticeNoPaper_printer (s : State) (before : PrinterState) :
    (s.noticeNoPaper before).printer = s.printer := by
  unfold State.noticeNoPaper; split <;> rfl
@[simp] theorem State.noticeNoPaper_punch (s : State) (before : PrinterState) :
    (s.noticeNoPaper before).punch = s.punch := by
  unfold State.noticeNoPaper; split <;> rfl
@[simp] theorem State.noticeNoPaper_keyboard (s : State) (before : PrinterState) :
    (s.noticeNoPaper before).keyboard = s.keyboard := by
  unfold State.noticeNoPaper; split <;> rfl
@[simp] theorem State.noticeNoPaper_motor (s : State) (before : PrinterState) :
    (s.noticeNoPaper before).motor = s.motor := by
  unfold State.noticeNoPaper; split <;> rfl
@[simp] theorem State.noticeNoPaper_isl (s : State) (before : PrinterState) :
    (s.noticeNoPaper before).isl = s.isl := by
  unfold State.noticeNoPaper; split <;> rfl
@[simp] theorem State.noticeNoPaper_now (s : State) (before : PrinterState) :
    (s.noticeNoPaper before).now = s.now := by
  unfold State.noticeNoPaper; split <;> rfl
@[simp] theorem State.noticeNoPaper_pending (s : State) (before : PrinterState) :
    (s.noticeNoPaper before).pending = s.pending := by
  unfold State.noticeNoPaper; split <;> rfl

@[simp] theorem State.punchNotice_store (s : State) (cause : PunchCause) :
    (s.punchNotice cause).store = s.store := rfl
@[simp] theorem State.punchNotice_routes (s : State) (cause : PunchCause) :
    (s.punchNotice cause).routes = s.routes := rfl
@[simp] theorem State.punchNotice_timing (s : State) (cause : PunchCause) :
    (s.punchNotice cause).timing = s.timing := rfl
@[simp] theorem State.punchNotice_lrx (s : State) (cause : PunchCause) : (s.punchNotice cause).lrx = s.lrx := rfl
@[simp] theorem State.punchNotice_ltx (s : State) (cause : PunchCause) : (s.punchNotice cause).ltx = s.ltx := rfl
@[simp] theorem State.punchNotice_call (s : State) (cause : PunchCause) : (s.punchNotice cause).call = s.call := rfl
@[simp] theorem State.punchNotice_file (s : State) (cause : PunchCause) : (s.punchNotice cause).file = s.file := rfl
@[simp] theorem State.punchNotice_printer (s : State) (cause : PunchCause) :
    (s.punchNotice cause).printer = s.printer := rfl
@[simp] theorem State.punchNotice_punch (s : State) (cause : PunchCause) :
    (s.punchNotice cause).punch = s.punch := rfl
@[simp] theorem State.punchNotice_keyboard (s : State) (cause : PunchCause) :
    (s.punchNotice cause).keyboard = s.keyboard := rfl
@[simp] theorem State.punchNotice_motor (s : State) (cause : PunchCause) :
    (s.punchNotice cause).motor = s.motor := rfl
@[simp] theorem State.punchNotice_isl (s : State) (cause : PunchCause) : (s.punchNotice cause).isl = s.isl := rfl
@[simp] theorem State.punchNotice_now (s : State) (cause : PunchCause) : (s.punchNotice cause).now = s.now := rfl
@[simp] theorem State.punchNotice_pending (s : State) (cause : PunchCause) :
    (s.punchNotice cause).pending = s.pending := rfl

@[simp] theorem State.noticeTapeOut_store (s : State) (before : PunchState) :
    (s.noticeTapeOut before).store = s.store := by
  unfold State.noticeTapeOut; split <;> rfl
@[simp] theorem State.noticeTapeOut_routes (s : State) (before : PunchState) :
    (s.noticeTapeOut before).routes = s.routes := by
  unfold State.noticeTapeOut; split <;> rfl
@[simp] theorem State.noticeTapeOut_timing (s : State) (before : PunchState) :
    (s.noticeTapeOut before).timing = s.timing := by
  unfold State.noticeTapeOut; split <;> rfl
@[simp] theorem State.noticeTapeOut_lrx (s : State) (before : PunchState) :
    (s.noticeTapeOut before).lrx = s.lrx := by
  unfold State.noticeTapeOut; split <;> rfl
@[simp] theorem State.noticeTapeOut_ltx (s : State) (before : PunchState) :
    (s.noticeTapeOut before).ltx = s.ltx := by
  unfold State.noticeTapeOut; split <;> rfl
@[simp] theorem State.noticeTapeOut_call (s : State) (before : PunchState) :
    (s.noticeTapeOut before).call = s.call := by
  unfold State.noticeTapeOut; split <;> rfl
@[simp] theorem State.noticeTapeOut_file (s : State) (before : PunchState) :
    (s.noticeTapeOut before).file = s.file := by
  unfold State.noticeTapeOut; split <;> rfl
@[simp] theorem State.noticeTapeOut_printer (s : State) (before : PunchState) :
    (s.noticeTapeOut before).printer = s.printer := by
  unfold State.noticeTapeOut; split <;> rfl
@[simp] theorem State.noticeTapeOut_punch (s : State) (before : PunchState) :
    (s.noticeTapeOut before).punch = s.punch := by
  unfold State.noticeTapeOut; split <;> rfl
@[simp] theorem State.noticeTapeOut_keyboard (s : State) (before : PunchState) :
    (s.noticeTapeOut before).keyboard = s.keyboard := by
  unfold State.noticeTapeOut; split <;> rfl
@[simp] theorem State.noticeTapeOut_motor (s : State) (before : PunchState) :
    (s.noticeTapeOut before).motor = s.motor := by
  unfold State.noticeTapeOut; split <;> rfl
@[simp] theorem State.noticeTapeOut_isl (s : State) (before : PunchState) :
    (s.noticeTapeOut before).isl = s.isl := by
  unfold State.noticeTapeOut; split <;> rfl
@[simp] theorem State.noticeTapeOut_now (s : State) (before : PunchState) :
    (s.noticeTapeOut before).now = s.now := by
  unfold State.noticeTapeOut; split <;> rfl
@[simp] theorem State.noticeTapeOut_pending (s : State) (before : PunchState) :
    (s.noticeTapeOut before).pending = s.pending := by
  unfold State.noticeTapeOut; split <;> rfl

@[simp] theorem State.dropFeedHeld_store (s : State) :
    s.dropFeedHeld.store = s.store := by
  unfold State.dropFeedHeld; split <;> rfl
@[simp] theorem State.dropFeedHeld_routes (s : State) :
    s.dropFeedHeld.routes = s.routes := by
  unfold State.dropFeedHeld; split <;> rfl
@[simp] theorem State.dropFeedHeld_timing (s : State) :
    s.dropFeedHeld.timing = s.timing := by
  unfold State.dropFeedHeld; split <;> rfl
@[simp] theorem State.dropFeedHeld_lrx (s : State) :
    s.dropFeedHeld.lrx = s.lrx := by
  unfold State.dropFeedHeld; split <;> rfl
@[simp] theorem State.dropFeedHeld_ltx (s : State) :
    s.dropFeedHeld.ltx = s.ltx := by
  unfold State.dropFeedHeld; split <;> rfl
@[simp] theorem State.dropFeedHeld_call (s : State) :
    s.dropFeedHeld.call = s.call := by
  unfold State.dropFeedHeld; split <;> rfl
@[simp] theorem State.dropFeedHeld_file (s : State) :
    s.dropFeedHeld.file = s.file := by
  unfold State.dropFeedHeld; split <;> rfl
@[simp] theorem State.dropFeedHeld_printer (s : State) :
    s.dropFeedHeld.printer = s.printer := by
  unfold State.dropFeedHeld; split <;> rfl
@[simp] theorem State.dropFeedHeld_keyboard (s : State) :
    s.dropFeedHeld.keyboard = s.keyboard := by
  unfold State.dropFeedHeld; split <;> rfl
@[simp] theorem State.dropFeedHeld_motor (s : State) :
    s.dropFeedHeld.motor = s.motor := by
  unfold State.dropFeedHeld; split <;> rfl
@[simp] theorem State.dropFeedHeld_link (s : State) :
    s.dropFeedHeld.link = s.link := by
  unfold State.dropFeedHeld; split <;> rfl
@[simp] theorem State.dropFeedHeld_isl (s : State) :
    s.dropFeedHeld.isl = s.isl := by
  unfold State.dropFeedHeld; split <;> rfl
@[simp] theorem State.dropFeedHeld_now (s : State) :
    s.dropFeedHeld.now = s.now := by
  unfold State.dropFeedHeld; split <;> rfl
@[simp] theorem State.dropFeedHeld_freeIndex (s : State) :
    s.dropFeedHeld.freeIndex = s.freeIndex := by
  unfold State.dropFeedHeld; split <;> rfl
@[simp] theorem State.dropFeedHeld_pending (s : State) :
    s.dropFeedHeld.pending = s.pending := by
  unfold State.dropFeedHeld; split <;> rfl

@[simp] theorem State.claimPunch_store (s : State) (st : Stream) :
    (s.claimPunch st).store = s.store := by
  unfold State.claimPunch; split <;> rfl
@[simp] theorem State.claimPunch_routes (s : State) (st : Stream) :
    (s.claimPunch st).routes = s.routes := by
  unfold State.claimPunch; split <;> rfl
@[simp] theorem State.claimPunch_timing (s : State) (st : Stream) :
    (s.claimPunch st).timing = s.timing := by
  unfold State.claimPunch; split <;> rfl
@[simp] theorem State.claimPunch_lrx (s : State) (st : Stream) :
    (s.claimPunch st).lrx = s.lrx := by
  unfold State.claimPunch; split <;> rfl
@[simp] theorem State.claimPunch_ltx (s : State) (st : Stream) :
    (s.claimPunch st).ltx = s.ltx := by
  unfold State.claimPunch; split <;> rfl
@[simp] theorem State.claimPunch_call (s : State) (st : Stream) :
    (s.claimPunch st).call = s.call := by
  unfold State.claimPunch; split <;> rfl
@[simp] theorem State.claimPunch_file (s : State) (st : Stream) :
    (s.claimPunch st).file = s.file := by
  unfold State.claimPunch; split <;> rfl
@[simp] theorem State.claimPunch_printer (s : State) (st : Stream) :
    (s.claimPunch st).printer = s.printer := by
  unfold State.claimPunch; split <;> rfl
@[simp] theorem State.claimPunch_keyboard (s : State) (st : Stream) :
    (s.claimPunch st).keyboard = s.keyboard := by
  unfold State.claimPunch; split <;> rfl
@[simp] theorem State.claimPunch_motor (s : State) (st : Stream) :
    (s.claimPunch st).motor = s.motor := by
  unfold State.claimPunch; split <;> rfl
@[simp] theorem State.claimPunch_link (s : State) (st : Stream) :
    (s.claimPunch st).link = s.link := by
  unfold State.claimPunch; split <;> rfl
@[simp] theorem State.claimPunch_isl (s : State) (st : Stream) :
    (s.claimPunch st).isl = s.isl := by
  unfold State.claimPunch; split <;> rfl
@[simp] theorem State.claimPunch_now (s : State) (st : Stream) :
    (s.claimPunch st).now = s.now := by
  unfold State.claimPunch; split <;> rfl
@[simp] theorem State.claimPunch_freeIndex (s : State) (st : Stream) :
    (s.claimPunch st).freeIndex = s.freeIndex := by
  unfold State.claimPunch; split <;> rfl
@[simp] theorem State.claimPunch_pending (s : State) (st : Stream) :
    (s.claimPunch st).pending = s.pending := by
  unfold State.claimPunch; split <;> rfl

@[simp] theorem State.lineCellPlaced_store (s : State) (st : Stream) :
    (s.lineCellPlaced st).store = s.store := by
  unfold State.lineCellPlaced; split <;> rfl
@[simp] theorem State.lineCellPlaced_routes (s : State) (st : Stream) :
    (s.lineCellPlaced st).routes = s.routes := by
  unfold State.lineCellPlaced; split <;> rfl
@[simp] theorem State.lineCellPlaced_timing (s : State) (st : Stream) :
    (s.lineCellPlaced st).timing = s.timing := by
  unfold State.lineCellPlaced; split <;> rfl
@[simp] theorem State.lineCellPlaced_lrx (s : State) (st : Stream) :
    (s.lineCellPlaced st).lrx = s.lrx := by
  unfold State.lineCellPlaced; split <;> rfl
@[simp] theorem State.lineCellPlaced_ltx (s : State) (st : Stream) :
    (s.lineCellPlaced st).ltx = s.ltx := by
  unfold State.lineCellPlaced; split <;> rfl
@[simp] theorem State.lineCellPlaced_call (s : State) (st : Stream) :
    (s.lineCellPlaced st).call = s.call := by
  unfold State.lineCellPlaced; split <;> rfl
@[simp] theorem State.lineCellPlaced_file (s : State) (st : Stream) :
    (s.lineCellPlaced st).file = s.file := by
  unfold State.lineCellPlaced; split <;> rfl
@[simp] theorem State.lineCellPlaced_printer (s : State) (st : Stream) :
    (s.lineCellPlaced st).printer = s.printer := by
  unfold State.lineCellPlaced; split <;> rfl
@[simp] theorem State.lineCellPlaced_keyboard (s : State) (st : Stream) :
    (s.lineCellPlaced st).keyboard = s.keyboard := by
  unfold State.lineCellPlaced; split <;> rfl
@[simp] theorem State.lineCellPlaced_motor (s : State) (st : Stream) :
    (s.lineCellPlaced st).motor = s.motor := by
  unfold State.lineCellPlaced; split <;> rfl
@[simp] theorem State.lineCellPlaced_link (s : State) (st : Stream) :
    (s.lineCellPlaced st).link = s.link := by
  unfold State.lineCellPlaced; split <;> rfl
@[simp] theorem State.lineCellPlaced_isl (s : State) (st : Stream) :
    (s.lineCellPlaced st).isl = s.isl := by
  unfold State.lineCellPlaced; split <;> rfl
@[simp] theorem State.lineCellPlaced_now (s : State) (st : Stream) :
    (s.lineCellPlaced st).now = s.now := by
  unfold State.lineCellPlaced; split <;> rfl
@[simp] theorem State.lineCellPlaced_freeIndex (s : State) (st : Stream) :
    (s.lineCellPlaced st).freeIndex = s.freeIndex := by
  unfold State.lineCellPlaced; split <;> rfl
@[simp] theorem State.lineCellPlaced_pending (s : State) (st : Stream) :
    (s.lineCellPlaced st).pending = s.pending := by
  unfold State.lineCellPlaced; split <;> rfl

@[simp] theorem State.releasePunch_store (s : State) : s.releasePunch.store = s.store := rfl
@[simp] theorem State.releasePunch_routes (s : State) : s.releasePunch.routes = s.routes := rfl
@[simp] theorem State.releasePunch_timing (s : State) : s.releasePunch.timing = s.timing := rfl
@[simp] theorem State.releasePunch_lrx (s : State) : s.releasePunch.lrx = s.lrx := rfl
@[simp] theorem State.releasePunch_ltx (s : State) : s.releasePunch.ltx = s.ltx := rfl
@[simp] theorem State.releasePunch_call (s : State) : s.releasePunch.call = s.call := rfl
@[simp] theorem State.releasePunch_file (s : State) : s.releasePunch.file = s.file := rfl
@[simp] theorem State.releasePunch_printer (s : State) : s.releasePunch.printer = s.printer := rfl
@[simp] theorem State.releasePunch_keyboard (s : State) : s.releasePunch.keyboard = s.keyboard := rfl
@[simp] theorem State.releasePunch_motor (s : State) : s.releasePunch.motor = s.motor := rfl
@[simp] theorem State.releasePunch_link (s : State) : s.releasePunch.link = s.link := rfl
@[simp] theorem State.releasePunch_isl (s : State) : s.releasePunch.isl = s.isl := rfl
@[simp] theorem State.releasePunch_now (s : State) : s.releasePunch.now = s.now := rfl
@[simp] theorem State.releasePunch_freeIndex (s : State) : s.releasePunch.freeIndex = s.freeIndex := rfl
@[simp] theorem State.releasePunch_pending (s : State) : s.releasePunch.pending = s.pending := rfl
@[simp] theorem State.releasePunch_punch (s : State) :
    s.releasePunch.punch = { s.punch with owner := none, tapeCase := .unknown, lineRelease := .none, localRelease := false, submittedRelease := false, clearRelease := false, releaseTimer := none } := rfl

@[simp] theorem State.startTrailer_store (s : State) :
    s.startTrailer.store = s.store := by
  unfold State.startTrailer; split <;> rfl
@[simp] theorem State.startTrailer_routes (s : State) :
    s.startTrailer.routes = s.routes := by
  unfold State.startTrailer; split <;> rfl
@[simp] theorem State.startTrailer_timing (s : State) :
    s.startTrailer.timing = s.timing := by
  unfold State.startTrailer; split <;> rfl
@[simp] theorem State.startTrailer_lrx (s : State) :
    s.startTrailer.lrx = s.lrx := by
  unfold State.startTrailer; split <;> rfl
@[simp] theorem State.startTrailer_ltx (s : State) :
    s.startTrailer.ltx = s.ltx := by
  unfold State.startTrailer; split <;> rfl
@[simp] theorem State.startTrailer_call (s : State) :
    s.startTrailer.call = s.call := by
  unfold State.startTrailer; split <;> rfl
@[simp] theorem State.startTrailer_file (s : State) :
    s.startTrailer.file = s.file := by
  unfold State.startTrailer; split <;> rfl
@[simp] theorem State.startTrailer_printer (s : State) :
    s.startTrailer.printer = s.printer := by
  unfold State.startTrailer; split <;> rfl
@[simp] theorem State.startTrailer_keyboard (s : State) :
    s.startTrailer.keyboard = s.keyboard := by
  unfold State.startTrailer; split <;> rfl
@[simp] theorem State.startTrailer_motor (s : State) :
    s.startTrailer.motor = s.motor := by
  unfold State.startTrailer; split <;> rfl
@[simp] theorem State.startTrailer_link (s : State) :
    s.startTrailer.link = s.link := by
  unfold State.startTrailer; split <;> rfl
@[simp] theorem State.startTrailer_isl (s : State) :
    s.startTrailer.isl = s.isl := by
  unfold State.startTrailer; split <;> rfl
@[simp] theorem State.startTrailer_now (s : State) :
    s.startTrailer.now = s.now := by
  unfold State.startTrailer; split <;> rfl
@[simp] theorem State.startTrailer_freeIndex (s : State) :
    s.startTrailer.freeIndex = s.freeIndex := by
  unfold State.startTrailer; split <;> rfl
@[simp] theorem State.startTrailer_pending (s : State) :
    s.startTrailer.pending = s.pending := by
  unfold State.startTrailer; split <;> rfl

@[simp] theorem State.runReleaseTimer_store (s : State) :
    s.runReleaseTimer.store = s.store := by
  unfold State.runReleaseTimer; dsimp only; repeat' split
  all_goals rfl
@[simp] theorem State.runReleaseTimer_routes (s : State) :
    s.runReleaseTimer.routes = s.routes := by
  unfold State.runReleaseTimer; dsimp only; repeat' split
  all_goals rfl
@[simp] theorem State.runReleaseTimer_timing (s : State) :
    s.runReleaseTimer.timing = s.timing := by
  unfold State.runReleaseTimer; dsimp only; repeat' split
  all_goals rfl
@[simp] theorem State.runReleaseTimer_lrx (s : State) :
    s.runReleaseTimer.lrx = s.lrx := by
  unfold State.runReleaseTimer; dsimp only; repeat' split
  all_goals rfl
@[simp] theorem State.runReleaseTimer_ltx (s : State) :
    s.runReleaseTimer.ltx = s.ltx := by
  unfold State.runReleaseTimer; dsimp only; repeat' split
  all_goals rfl
@[simp] theorem State.runReleaseTimer_call (s : State) :
    s.runReleaseTimer.call = s.call := by
  unfold State.runReleaseTimer; dsimp only; repeat' split
  all_goals rfl
@[simp] theorem State.runReleaseTimer_file (s : State) :
    s.runReleaseTimer.file = s.file := by
  unfold State.runReleaseTimer; dsimp only; repeat' split
  all_goals rfl
@[simp] theorem State.runReleaseTimer_printer (s : State) :
    s.runReleaseTimer.printer = s.printer := by
  unfold State.runReleaseTimer; dsimp only; repeat' split
  all_goals rfl
@[simp] theorem State.runReleaseTimer_keyboard (s : State) :
    s.runReleaseTimer.keyboard = s.keyboard := by
  unfold State.runReleaseTimer; dsimp only; repeat' split
  all_goals rfl
@[simp] theorem State.runReleaseTimer_motor (s : State) :
    s.runReleaseTimer.motor = s.motor := by
  unfold State.runReleaseTimer; dsimp only; repeat' split
  all_goals rfl
@[simp] theorem State.runReleaseTimer_link (s : State) :
    s.runReleaseTimer.link = s.link := by
  unfold State.runReleaseTimer; dsimp only; repeat' split
  all_goals rfl
@[simp] theorem State.runReleaseTimer_isl (s : State) :
    s.runReleaseTimer.isl = s.isl := by
  unfold State.runReleaseTimer; dsimp only; repeat' split
  all_goals rfl
@[simp] theorem State.runReleaseTimer_now (s : State) :
    s.runReleaseTimer.now = s.now := by
  unfold State.runReleaseTimer; dsimp only; repeat' split
  all_goals rfl
@[simp] theorem State.runReleaseTimer_freeIndex (s : State) :
    s.runReleaseTimer.freeIndex = s.freeIndex := by
  unfold State.runReleaseTimer; dsimp only; repeat' split
  all_goals rfl
@[simp] theorem State.runReleaseTimer_pending (s : State) :
    s.runReleaseTimer.pending = s.pending := by
  unfold State.runReleaseTimer; dsimp only; repeat' split
  all_goals rfl

@[simp] theorem State.startPunchCycle_store (s : State) (code : Code) :
    (s.startPunchCycle code).store = s.store := rfl
@[simp] theorem State.startPunchCycle_routes (s : State) (code : Code) :
    (s.startPunchCycle code).routes = s.routes := rfl
@[simp] theorem State.startPunchCycle_timing (s : State) (code : Code) :
    (s.startPunchCycle code).timing = s.timing := rfl
@[simp] theorem State.startPunchCycle_lrx (s : State) (code : Code) : (s.startPunchCycle code).lrx = s.lrx := rfl
@[simp] theorem State.startPunchCycle_ltx (s : State) (code : Code) : (s.startPunchCycle code).ltx = s.ltx := rfl
@[simp] theorem State.startPunchCycle_call (s : State) (code : Code) : (s.startPunchCycle code).call = s.call := rfl
@[simp] theorem State.startPunchCycle_file (s : State) (code : Code) : (s.startPunchCycle code).file = s.file := rfl
@[simp] theorem State.startPunchCycle_printer (s : State) (code : Code) :
    (s.startPunchCycle code).printer = s.printer := rfl
@[simp] theorem State.startPunchCycle_keyboard (s : State) (code : Code) :
    (s.startPunchCycle code).keyboard = s.keyboard := rfl
@[simp] theorem State.startPunchCycle_motor (s : State) (code : Code) :
    (s.startPunchCycle code).motor = s.motor := rfl
@[simp] theorem State.startPunchCycle_link (s : State) (code : Code) : (s.startPunchCycle code).link = s.link := rfl
@[simp] theorem State.startPunchCycle_isl (s : State) (code : Code) : (s.startPunchCycle code).isl = s.isl := rfl
@[simp] theorem State.startPunchCycle_now (s : State) (code : Code) : (s.startPunchCycle code).now = s.now := rfl
@[simp] theorem State.startPunchCycle_freeIndex (s : State) (code : Code) :
    (s.startPunchCycle code).freeIndex = s.freeIndex := rfl
@[simp] theorem State.startPunchCycle_pending (s : State) (code : Code) :
    (s.startPunchCycle code).pending = s.pending := rfl

@[simp] theorem State.takePunchHead_routes (s : State) : s.takePunchHead.routes = s.routes := rfl
@[simp] theorem State.takePunchHead_timing (s : State) : s.takePunchHead.timing = s.timing := rfl
@[simp] theorem State.takePunchHead_lrx (s : State) : s.takePunchHead.lrx = s.lrx := rfl
@[simp] theorem State.takePunchHead_ltx (s : State) : s.takePunchHead.ltx = s.ltx := rfl
@[simp] theorem State.takePunchHead_call (s : State) : s.takePunchHead.call = s.call := rfl
@[simp] theorem State.takePunchHead_file (s : State) : s.takePunchHead.file = s.file := rfl
@[simp] theorem State.takePunchHead_printer (s : State) : s.takePunchHead.printer = s.printer := rfl
@[simp] theorem State.takePunchHead_keyboard (s : State) : s.takePunchHead.keyboard = s.keyboard := rfl
@[simp] theorem State.takePunchHead_motor (s : State) : s.takePunchHead.motor = s.motor := rfl
@[simp] theorem State.takePunchHead_link (s : State) : s.takePunchHead.link = s.link := rfl
@[simp] theorem State.takePunchHead_isl (s : State) : s.takePunchHead.isl = s.isl := rfl
@[simp] theorem State.takePunchHead_now (s : State) : s.takePunchHead.now = s.now := rfl
@[simp] theorem State.takePunchHead_freeIndex (s : State) : s.takePunchHead.freeIndex = s.freeIndex := rfl
@[simp] theorem State.takePunchHead_pending (s : State) : s.takePunchHead.pending = s.pending := rfl

@[simp] theorem State.startPrintCycle_store (s : State) (code : Code) (r : CodeClass) (k : PrintCycleKind) :
    (s.startPrintCycle code r k).store = s.store := rfl
@[simp] theorem State.startPrintCycle_routes (s : State) (code : Code) (r : CodeClass) (k : PrintCycleKind) :
    (s.startPrintCycle code r k).routes = s.routes := rfl
@[simp] theorem State.startPrintCycle_timing (s : State) (code : Code) (r : CodeClass) (k : PrintCycleKind) :
    (s.startPrintCycle code r k).timing = s.timing := rfl
@[simp] theorem State.startPrintCycle_lrx (s : State) (code : Code) (r : CodeClass) (k : PrintCycleKind) :
    (s.startPrintCycle code r k).lrx = s.lrx := rfl
@[simp] theorem State.startPrintCycle_ltx (s : State) (code : Code) (r : CodeClass) (k : PrintCycleKind) :
    (s.startPrintCycle code r k).ltx = s.ltx := rfl
@[simp] theorem State.startPrintCycle_call (s : State) (code : Code) (r : CodeClass) (k : PrintCycleKind) :
    (s.startPrintCycle code r k).call = s.call := rfl
@[simp] theorem State.startPrintCycle_file (s : State) (code : Code) (r : CodeClass) (k : PrintCycleKind) :
    (s.startPrintCycle code r k).file = s.file := rfl
@[simp] theorem State.startPrintCycle_punch (s : State) (code : Code) (r : CodeClass) (k : PrintCycleKind) :
    (s.startPrintCycle code r k).punch = s.punch := rfl
@[simp] theorem State.startPrintCycle_keyboard (s : State) (code : Code) (r : CodeClass) (k : PrintCycleKind) :
    (s.startPrintCycle code r k).keyboard = s.keyboard := rfl
@[simp] theorem State.startPrintCycle_motor (s : State) (code : Code) (r : CodeClass) (k : PrintCycleKind) :
    (s.startPrintCycle code r k).motor = s.motor := rfl
@[simp] theorem State.startPrintCycle_link (s : State) (code : Code) (r : CodeClass) (k : PrintCycleKind) :
    (s.startPrintCycle code r k).link = s.link := rfl
@[simp] theorem State.startPrintCycle_isl (s : State) (code : Code) (r : CodeClass) (k : PrintCycleKind) :
    (s.startPrintCycle code r k).isl = s.isl := rfl
@[simp] theorem State.startPrintCycle_now (s : State) (code : Code) (r : CodeClass) (k : PrintCycleKind) :
    (s.startPrintCycle code r k).now = s.now := rfl
@[simp] theorem State.startPrintCycle_freeIndex (s : State) (code : Code) (r : CodeClass) (k : PrintCycleKind) :
    (s.startPrintCycle code r k).freeIndex = s.freeIndex := rfl
@[simp] theorem State.startPrintCycle_pending (s : State) (code : Code) (r : CodeClass) (k : PrintCycleKind) :
    (s.startPrintCycle code r k).pending = s.pending := rfl

@[simp] theorem State.insertCr_store (s : State) (k : PrintCycleKind) : (s.insertCr k).store = s.store := rfl
@[simp] theorem State.insertCr_routes (s : State) (k : PrintCycleKind) : (s.insertCr k).routes = s.routes := rfl
@[simp] theorem State.insertCr_timing (s : State) (k : PrintCycleKind) : (s.insertCr k).timing = s.timing := rfl
@[simp] theorem State.insertCr_lrx (s : State) (k : PrintCycleKind) : (s.insertCr k).lrx = s.lrx := rfl
@[simp] theorem State.insertCr_ltx (s : State) (k : PrintCycleKind) : (s.insertCr k).ltx = s.ltx := rfl
@[simp] theorem State.insertCr_call (s : State) (k : PrintCycleKind) : (s.insertCr k).call = s.call := rfl
@[simp] theorem State.insertCr_file (s : State) (k : PrintCycleKind) : (s.insertCr k).file = s.file := rfl
@[simp] theorem State.insertCr_punch (s : State) (k : PrintCycleKind) : (s.insertCr k).punch = s.punch := rfl
@[simp] theorem State.insertCr_keyboard (s : State) (k : PrintCycleKind) : (s.insertCr k).keyboard = s.keyboard := rfl
@[simp] theorem State.insertCr_motor (s : State) (k : PrintCycleKind) : (s.insertCr k).motor = s.motor := rfl
@[simp] theorem State.insertCr_link (s : State) (k : PrintCycleKind) : (s.insertCr k).link = s.link := rfl
@[simp] theorem State.insertCr_isl (s : State) (k : PrintCycleKind) : (s.insertCr k).isl = s.isl := rfl
@[simp] theorem State.insertCr_now (s : State) (k : PrintCycleKind) : (s.insertCr k).now = s.now := rfl
@[simp] theorem State.insertCr_freeIndex (s : State) (k : PrintCycleKind) :
    (s.insertCr k).freeIndex = s.freeIndex := rfl
@[simp] theorem State.insertCr_pending (s : State) (k : PrintCycleKind) : (s.insertCr k).pending = s.pending := rfl

@[simp] theorem State.insertLf_store (s : State) : s.insertLf.store = s.store := rfl
@[simp] theorem State.insertLf_routes (s : State) : s.insertLf.routes = s.routes := rfl
@[simp] theorem State.insertLf_timing (s : State) : s.insertLf.timing = s.timing := rfl
@[simp] theorem State.insertLf_lrx (s : State) : s.insertLf.lrx = s.lrx := rfl
@[simp] theorem State.insertLf_ltx (s : State) : s.insertLf.ltx = s.ltx := rfl
@[simp] theorem State.insertLf_call (s : State) : s.insertLf.call = s.call := rfl
@[simp] theorem State.insertLf_file (s : State) : s.insertLf.file = s.file := rfl
@[simp] theorem State.insertLf_punch (s : State) : s.insertLf.punch = s.punch := rfl
@[simp] theorem State.insertLf_keyboard (s : State) : s.insertLf.keyboard = s.keyboard := rfl
@[simp] theorem State.insertLf_motor (s : State) : s.insertLf.motor = s.motor := rfl
@[simp] theorem State.insertLf_link (s : State) : s.insertLf.link = s.link := rfl
@[simp] theorem State.insertLf_isl (s : State) : s.insertLf.isl = s.isl := rfl
@[simp] theorem State.insertLf_now (s : State) : s.insertLf.now = s.now := rfl
@[simp] theorem State.insertLf_freeIndex (s : State) : s.insertLf.freeIndex = s.freeIndex := rfl
@[simp] theorem State.insertLf_pending (s : State) : s.insertLf.pending = s.pending := rfl

@[simp] theorem State.reviewHoldWait_store (s : State) :
    s.reviewHoldWait.store = s.store := by
  unfold State.reviewHoldWait; dsimp only; repeat' split
  all_goals rfl
@[simp] theorem State.reviewHoldWait_routes (s : State) :
    s.reviewHoldWait.routes = s.routes := by
  unfold State.reviewHoldWait; dsimp only; repeat' split
  all_goals rfl
@[simp] theorem State.reviewHoldWait_timing (s : State) :
    s.reviewHoldWait.timing = s.timing := by
  unfold State.reviewHoldWait; dsimp only; repeat' split
  all_goals rfl
@[simp] theorem State.reviewHoldWait_lrx (s : State) :
    s.reviewHoldWait.lrx = s.lrx := by
  unfold State.reviewHoldWait; dsimp only; repeat' split
  all_goals rfl
@[simp] theorem State.reviewHoldWait_ltx (s : State) :
    s.reviewHoldWait.ltx = s.ltx := by
  unfold State.reviewHoldWait; dsimp only; repeat' split
  all_goals rfl
@[simp] theorem State.reviewHoldWait_call (s : State) :
    s.reviewHoldWait.call = s.call := by
  unfold State.reviewHoldWait; dsimp only; repeat' split
  all_goals rfl
@[simp] theorem State.reviewHoldWait_file (s : State) :
    s.reviewHoldWait.file = s.file := by
  unfold State.reviewHoldWait; dsimp only; repeat' split
  all_goals rfl
@[simp] theorem State.reviewHoldWait_punch (s : State) :
    s.reviewHoldWait.punch = s.punch := by
  unfold State.reviewHoldWait; dsimp only; repeat' split
  all_goals rfl
@[simp] theorem State.reviewHoldWait_keyboard (s : State) :
    s.reviewHoldWait.keyboard = s.keyboard := by
  unfold State.reviewHoldWait; dsimp only; repeat' split
  all_goals rfl
@[simp] theorem State.reviewHoldWait_motor (s : State) :
    s.reviewHoldWait.motor = s.motor := by
  unfold State.reviewHoldWait; dsimp only; repeat' split
  all_goals rfl
@[simp] theorem State.reviewHoldWait_link (s : State) :
    s.reviewHoldWait.link = s.link := by
  unfold State.reviewHoldWait; dsimp only; repeat' split
  all_goals rfl
@[simp] theorem State.reviewHoldWait_isl (s : State) :
    s.reviewHoldWait.isl = s.isl := by
  unfold State.reviewHoldWait; dsimp only; repeat' split
  all_goals rfl
@[simp] theorem State.reviewHoldWait_now (s : State) :
    s.reviewHoldWait.now = s.now := by
  unfold State.reviewHoldWait; dsimp only; repeat' split
  all_goals rfl
@[simp] theorem State.reviewHoldWait_freeIndex (s : State) :
    s.reviewHoldWait.freeIndex = s.freeIndex := by
  unfold State.reviewHoldWait; dsimp only; repeat' split
  all_goals rfl
@[simp] theorem State.reviewHoldWait_pending (s : State) :
    s.reviewHoldWait.pending = s.pending := by
  unfold State.reviewHoldWait; dsimp only; repeat' split
  all_goals rfl

@[simp] theorem State.printEffects_store (s : State) (c : PrintCycle) : (s.printEffects c).store = s.store := rfl
@[simp] theorem State.printEffects_routes (s : State) (c : PrintCycle) : (s.printEffects c).routes = s.routes := rfl
@[simp] theorem State.printEffects_timing (s : State) (c : PrintCycle) : (s.printEffects c).timing = s.timing := rfl
@[simp] theorem State.printEffects_lrx (s : State) (c : PrintCycle) : (s.printEffects c).lrx = s.lrx := rfl
@[simp] theorem State.printEffects_ltx (s : State) (c : PrintCycle) : (s.printEffects c).ltx = s.ltx := rfl
@[simp] theorem State.printEffects_call (s : State) (c : PrintCycle) : (s.printEffects c).call = s.call := rfl
@[simp] theorem State.printEffects_file (s : State) (c : PrintCycle) : (s.printEffects c).file = s.file := rfl
@[simp] theorem State.printEffects_punch (s : State) (c : PrintCycle) : (s.printEffects c).punch = s.punch := rfl
@[simp] theorem State.printEffects_keyboard (s : State) (c : PrintCycle) :
    (s.printEffects c).keyboard = s.keyboard := rfl
@[simp] theorem State.printEffects_motor (s : State) (c : PrintCycle) : (s.printEffects c).motor = s.motor := rfl
@[simp] theorem State.printEffects_link (s : State) (c : PrintCycle) : (s.printEffects c).link = s.link := rfl
@[simp] theorem State.printEffects_isl (s : State) (c : PrintCycle) : (s.printEffects c).isl = s.isl := rfl
@[simp] theorem State.printEffects_now (s : State) (c : PrintCycle) : (s.printEffects c).now = s.now := rfl
@[simp] theorem State.printEffects_freeIndex (s : State) (c : PrintCycle) :
    (s.printEffects c).freeIndex = s.freeIndex := rfl
@[simp] theorem State.printEffects_pending (s : State) (c : PrintCycle) :
    (s.printEffects c).pending = s.pending := rfl

@[simp] theorem State.countQuota_store (s : State) (n : RouteName) :
    (s.countQuota n).store = s.store := by
  unfold State.countQuota; dsimp only; repeat' split
  all_goals rfl
@[simp] theorem State.countQuota_timing (s : State) (n : RouteName) :
    (s.countQuota n).timing = s.timing := by
  unfold State.countQuota; dsimp only; repeat' split
  all_goals rfl
@[simp] theorem State.countQuota_lrx (s : State) (n : RouteName) :
    (s.countQuota n).lrx = s.lrx := by
  unfold State.countQuota; dsimp only; repeat' split
  all_goals rfl
@[simp] theorem State.countQuota_ltx (s : State) (n : RouteName) :
    (s.countQuota n).ltx = s.ltx := by
  unfold State.countQuota; dsimp only; repeat' split
  all_goals rfl
@[simp] theorem State.countQuota_call (s : State) (n : RouteName) :
    (s.countQuota n).call = s.call := by
  unfold State.countQuota; dsimp only; repeat' split
  all_goals rfl
@[simp] theorem State.countQuota_file (s : State) (n : RouteName) :
    (s.countQuota n).file = s.file := by
  unfold State.countQuota; dsimp only; repeat' split
  all_goals rfl
@[simp] theorem State.countQuota_printer (s : State) (n : RouteName) :
    (s.countQuota n).printer = s.printer := by
  unfold State.countQuota; dsimp only; repeat' split
  all_goals rfl
@[simp] theorem State.countQuota_punch (s : State) (n : RouteName) :
    (s.countQuota n).punch = s.punch := by
  unfold State.countQuota; dsimp only; repeat' split
  all_goals rfl
@[simp] theorem State.countQuota_keyboard (s : State) (n : RouteName) :
    (s.countQuota n).keyboard = s.keyboard := by
  unfold State.countQuota; dsimp only; repeat' split
  all_goals rfl
@[simp] theorem State.countQuota_motor (s : State) (n : RouteName) :
    (s.countQuota n).motor = s.motor := by
  unfold State.countQuota; dsimp only; repeat' split
  all_goals rfl
@[simp] theorem State.countQuota_isl (s : State) (n : RouteName) :
    (s.countQuota n).isl = s.isl := by
  unfold State.countQuota; dsimp only; repeat' split
  all_goals rfl
@[simp] theorem State.countQuota_now (s : State) (n : RouteName) :
    (s.countQuota n).now = s.now := by
  unfold State.countQuota; dsimp only; repeat' split
  all_goals rfl
@[simp] theorem State.countQuota_freeIndex (s : State) (n : RouteName) :
    (s.countQuota n).freeIndex = s.freeIndex := by
  unfold State.countQuota; dsimp only; repeat' split
  all_goals rfl
@[simp] theorem State.countQuota_pending (s : State) (n : RouteName) :
    (s.countQuota n).pending = s.pending := by
  unfold State.countQuota; dsimp only; repeat' split
  all_goals rfl

@[simp] theorem State.rearm_store (s : State) (n : RouteName) : (s.rearm n).store = s.store := rfl
@[simp] theorem State.rearm_timing (s : State) (n : RouteName) : (s.rearm n).timing = s.timing := rfl
@[simp] theorem State.rearm_lrx (s : State) (n : RouteName) : (s.rearm n).lrx = s.lrx := rfl
@[simp] theorem State.rearm_ltx (s : State) (n : RouteName) : (s.rearm n).ltx = s.ltx := rfl
@[simp] theorem State.rearm_call (s : State) (n : RouteName) : (s.rearm n).call = s.call := rfl
@[simp] theorem State.rearm_file (s : State) (n : RouteName) : (s.rearm n).file = s.file := rfl
@[simp] theorem State.rearm_printer (s : State) (n : RouteName) : (s.rearm n).printer = s.printer := rfl
@[simp] theorem State.rearm_punch (s : State) (n : RouteName) : (s.rearm n).punch = s.punch := rfl
@[simp] theorem State.rearm_keyboard (s : State) (n : RouteName) : (s.rearm n).keyboard = s.keyboard := rfl
@[simp] theorem State.rearm_motor (s : State) (n : RouteName) : (s.rearm n).motor = s.motor := rfl
@[simp] theorem State.rearm_link (s : State) (n : RouteName) : (s.rearm n).link = s.link := rfl
@[simp] theorem State.rearm_isl (s : State) (n : RouteName) : (s.rearm n).isl = s.isl := rfl
@[simp] theorem State.rearm_now (s : State) (n : RouteName) : (s.rearm n).now = s.now := rfl
@[simp] theorem State.rearm_freeIndex (s : State) (n : RouteName) : (s.rearm n).freeIndex = s.freeIndex := rfl
@[simp] theorem State.rearm_pending (s : State) (n : RouteName) : (s.rearm n).pending = s.pending := rfl
@[simp] theorem State.rearm_routes (s : State) (n : RouteName) :
    (s.rearm n).routes = s.routes.put n (s.routes.get n).rearm := rfl

@[simp] theorem State.startKeying_store (s : State) (code : Code) (k : Case) (source : KeyingSource) :
    (s.startKeying code k source).store = s.store := rfl
@[simp] theorem State.startKeying_routes (s : State) (code : Code) (k : Case) (source : KeyingSource) :
    (s.startKeying code k source).routes = s.routes := rfl
@[simp] theorem State.startKeying_timing (s : State) (code : Code) (k : Case) (source : KeyingSource) :
    (s.startKeying code k source).timing = s.timing := rfl
@[simp] theorem State.startKeying_lrx (s : State) (code : Code) (k : Case) (source : KeyingSource) :
    (s.startKeying code k source).lrx = s.lrx := rfl
@[simp] theorem State.startKeying_call (s : State) (code : Code) (k : Case) (source : KeyingSource) :
    (s.startKeying code k source).call = s.call := rfl
@[simp] theorem State.startKeying_file (s : State) (code : Code) (k : Case) (source : KeyingSource) :
    (s.startKeying code k source).file = s.file := rfl
@[simp] theorem State.startKeying_printer (s : State) (code : Code) (k : Case) (source : KeyingSource) :
    (s.startKeying code k source).printer = s.printer := rfl
@[simp] theorem State.startKeying_punch (s : State) (code : Code) (k : Case) (source : KeyingSource) :
    (s.startKeying code k source).punch = s.punch := rfl
@[simp] theorem State.startKeying_keyboard (s : State) (code : Code) (k : Case) (source : KeyingSource) :
    (s.startKeying code k source).keyboard = s.keyboard := rfl
@[simp] theorem State.startKeying_motor (s : State) (code : Code) (k : Case) (source : KeyingSource) :
    (s.startKeying code k source).motor = s.motor := rfl
@[simp] theorem State.startKeying_link (s : State) (code : Code) (k : Case) (source : KeyingSource) :
    (s.startKeying code k source).link = s.link := rfl
@[simp] theorem State.startKeying_isl (s : State) (code : Code) (k : Case) (source : KeyingSource) :
    (s.startKeying code k source).isl = s.isl := rfl
@[simp] theorem State.startKeying_now (s : State) (code : Code) (k : Case) (source : KeyingSource) :
    (s.startKeying code k source).now = s.now := rfl
@[simp] theorem State.startKeying_freeIndex (s : State) (code : Code) (k : Case) (source : KeyingSource) :
    (s.startKeying code k source).freeIndex = s.freeIndex := rfl
@[simp] theorem State.startKeying_pending (s : State) (code : Code) (k : Case) (source : KeyingSource) :
    (s.startKeying code k source).pending = s.pending := rfl

@[simp] theorem State.keyBreak_store (s : State) : s.keyBreak.store = s.store := rfl
@[simp] theorem State.keyBreak_routes (s : State) : s.keyBreak.routes = s.routes := rfl
@[simp] theorem State.keyBreak_timing (s : State) : s.keyBreak.timing = s.timing := rfl
@[simp] theorem State.keyBreak_lrx (s : State) : s.keyBreak.lrx = s.lrx := rfl
@[simp] theorem State.keyBreak_call (s : State) : s.keyBreak.call = s.call := rfl
@[simp] theorem State.keyBreak_file (s : State) : s.keyBreak.file = s.file := rfl
@[simp] theorem State.keyBreak_printer (s : State) : s.keyBreak.printer = s.printer := rfl
@[simp] theorem State.keyBreak_punch (s : State) : s.keyBreak.punch = s.punch := rfl
@[simp] theorem State.keyBreak_keyboard (s : State) : s.keyBreak.keyboard = s.keyboard := rfl
@[simp] theorem State.keyBreak_motor (s : State) : s.keyBreak.motor = s.motor := rfl
@[simp] theorem State.keyBreak_link (s : State) : s.keyBreak.link = s.link := rfl
@[simp] theorem State.keyBreak_isl (s : State) : s.keyBreak.isl = s.isl := rfl
@[simp] theorem State.keyBreak_now (s : State) : s.keyBreak.now = s.now := rfl
@[simp] theorem State.keyBreak_freeIndex (s : State) : s.keyBreak.freeIndex = s.freeIndex := rfl
@[simp] theorem State.keyBreak_pending (s : State) : s.keyBreak.pending = s.pending := rfl
@[simp] theorem State.keyBreak_ltx (s : State) :
    s.keyBreak.ltx = { s.ltx with breakRequest := false, activity := .breaking (s.now + s.timing.breakLen * Config.tenMs) } := rfl

@[simp] theorem State.requestBreak_store (s : State) : s.requestBreak.store = s.store := rfl
@[simp] theorem State.requestBreak_routes (s : State) : s.requestBreak.routes = s.routes := rfl
@[simp] theorem State.requestBreak_timing (s : State) : s.requestBreak.timing = s.timing := rfl
@[simp] theorem State.requestBreak_lrx (s : State) : s.requestBreak.lrx = s.lrx := rfl
@[simp] theorem State.requestBreak_call (s : State) : s.requestBreak.call = s.call := rfl
@[simp] theorem State.requestBreak_file (s : State) : s.requestBreak.file = s.file := rfl
@[simp] theorem State.requestBreak_printer (s : State) : s.requestBreak.printer = s.printer := rfl
@[simp] theorem State.requestBreak_punch (s : State) : s.requestBreak.punch = s.punch := rfl
@[simp] theorem State.requestBreak_keyboard (s : State) : s.requestBreak.keyboard = s.keyboard := rfl
@[simp] theorem State.requestBreak_motor (s : State) : s.requestBreak.motor = s.motor := rfl
@[simp] theorem State.requestBreak_link (s : State) : s.requestBreak.link = s.link := rfl
@[simp] theorem State.requestBreak_isl (s : State) : s.requestBreak.isl = s.isl := rfl
@[simp] theorem State.requestBreak_now (s : State) : s.requestBreak.now = s.now := rfl
@[simp] theorem State.requestBreak_freeIndex (s : State) : s.requestBreak.freeIndex = s.freeIndex := rfl
@[simp] theorem State.requestBreak_pending (s : State) : s.requestBreak.pending = s.pending := rfl
@[simp] theorem State.requestBreak_ltx (s : State) :
    s.requestBreak.ltx = { s.ltx with breakRequest := true } := rfl

@[simp] theorem State.requestEnquiry_store (s : State) : s.requestEnquiry.store = s.store := rfl
@[simp] theorem State.requestEnquiry_routes (s : State) : s.requestEnquiry.routes = s.routes := rfl
@[simp] theorem State.requestEnquiry_timing (s : State) : s.requestEnquiry.timing = s.timing := rfl
@[simp] theorem State.requestEnquiry_lrx (s : State) : s.requestEnquiry.lrx = s.lrx := rfl
@[simp] theorem State.requestEnquiry_call (s : State) : s.requestEnquiry.call = s.call := rfl
@[simp] theorem State.requestEnquiry_file (s : State) : s.requestEnquiry.file = s.file := rfl
@[simp] theorem State.requestEnquiry_printer (s : State) : s.requestEnquiry.printer = s.printer := rfl
@[simp] theorem State.requestEnquiry_punch (s : State) : s.requestEnquiry.punch = s.punch := rfl
@[simp] theorem State.requestEnquiry_keyboard (s : State) : s.requestEnquiry.keyboard = s.keyboard := rfl
@[simp] theorem State.requestEnquiry_motor (s : State) : s.requestEnquiry.motor = s.motor := rfl
@[simp] theorem State.requestEnquiry_link (s : State) : s.requestEnquiry.link = s.link := rfl
@[simp] theorem State.requestEnquiry_isl (s : State) : s.requestEnquiry.isl = s.isl := rfl
@[simp] theorem State.requestEnquiry_now (s : State) : s.requestEnquiry.now = s.now := rfl
@[simp] theorem State.requestEnquiry_freeIndex (s : State) : s.requestEnquiry.freeIndex = s.freeIndex := rfl
@[simp] theorem State.requestEnquiry_pending (s : State) : s.requestEnquiry.pending = s.pending := rfl
@[simp] theorem State.requestEnquiry_ltx (s : State) :
    s.requestEnquiry.ltx = { s.ltx with enquiryRequest := true } := rfl

@[simp] theorem State.setHold_store (s : State) : s.setHold.store = s.store := rfl
@[simp] theorem State.setHold_routes (s : State) : s.setHold.routes = s.routes := rfl
@[simp] theorem State.setHold_timing (s : State) : s.setHold.timing = s.timing := rfl
@[simp] theorem State.setHold_lrx (s : State) : s.setHold.lrx = s.lrx := rfl
@[simp] theorem State.setHold_call (s : State) : s.setHold.call = s.call := rfl
@[simp] theorem State.setHold_file (s : State) : s.setHold.file = s.file := rfl
@[simp] theorem State.setHold_printer (s : State) : s.setHold.printer = s.printer := rfl
@[simp] theorem State.setHold_punch (s : State) : s.setHold.punch = s.punch := rfl
@[simp] theorem State.setHold_keyboard (s : State) : s.setHold.keyboard = s.keyboard := rfl
@[simp] theorem State.setHold_motor (s : State) : s.setHold.motor = s.motor := rfl
@[simp] theorem State.setHold_link (s : State) : s.setHold.link = s.link := rfl
@[simp] theorem State.setHold_isl (s : State) : s.setHold.isl = s.isl := rfl
@[simp] theorem State.setHold_now (s : State) : s.setHold.now = s.now := rfl
@[simp] theorem State.setHold_freeIndex (s : State) : s.setHold.freeIndex = s.freeIndex := rfl
@[simp] theorem State.setHold_pending (s : State) : s.setHold.pending = s.pending := rfl
@[simp] theorem State.setHold_ltx (s : State) :
    s.setHold.ltx = { s.ltx with hold := true } := rfl

@[simp] theorem State.endHold_store (s : State) : s.endHold.store = s.store := rfl
@[simp] theorem State.endHold_routes (s : State) : s.endHold.routes = s.routes := rfl
@[simp] theorem State.endHold_timing (s : State) : s.endHold.timing = s.timing := rfl
@[simp] theorem State.endHold_lrx (s : State) : s.endHold.lrx = s.lrx := rfl
@[simp] theorem State.endHold_call (s : State) : s.endHold.call = s.call := rfl
@[simp] theorem State.endHold_file (s : State) : s.endHold.file = s.file := rfl
@[simp] theorem State.endHold_printer (s : State) : s.endHold.printer = s.printer := rfl
@[simp] theorem State.endHold_punch (s : State) : s.endHold.punch = s.punch := rfl
@[simp] theorem State.endHold_keyboard (s : State) : s.endHold.keyboard = s.keyboard := rfl
@[simp] theorem State.endHold_motor (s : State) : s.endHold.motor = s.motor := rfl
@[simp] theorem State.endHold_link (s : State) : s.endHold.link = s.link := rfl
@[simp] theorem State.endHold_isl (s : State) : s.endHold.isl = s.isl := rfl
@[simp] theorem State.endHold_now (s : State) : s.endHold.now = s.now := rfl
@[simp] theorem State.endHold_freeIndex (s : State) : s.endHold.freeIndex = s.freeIndex := rfl
@[simp] theorem State.endHold_pending (s : State) : s.endHold.pending = s.pending := rfl
@[simp] theorem State.endHold_ltx (s : State) :
    s.endHold.ltx = { s.ltx with hold := false } := rfl

@[simp] theorem State.triggerAnswerback_store (s : State) :
    s.triggerAnswerback.store = s.store := by
  unfold State.triggerAnswerback; split <;> rfl
@[simp] theorem State.triggerAnswerback_routes (s : State) :
    s.triggerAnswerback.routes = s.routes := by
  unfold State.triggerAnswerback; split <;> rfl
@[simp] theorem State.triggerAnswerback_timing (s : State) :
    s.triggerAnswerback.timing = s.timing := by
  unfold State.triggerAnswerback; split <;> rfl
@[simp] theorem State.triggerAnswerback_lrx (s : State) :
    s.triggerAnswerback.lrx = s.lrx := by
  unfold State.triggerAnswerback; split <;> rfl
@[simp] theorem State.triggerAnswerback_call (s : State) :
    s.triggerAnswerback.call = s.call := by
  unfold State.triggerAnswerback; split <;> rfl
@[simp] theorem State.triggerAnswerback_file (s : State) :
    s.triggerAnswerback.file = s.file := by
  unfold State.triggerAnswerback; split <;> rfl
@[simp] theorem State.triggerAnswerback_printer (s : State) :
    s.triggerAnswerback.printer = s.printer := by
  unfold State.triggerAnswerback; split <;> rfl
@[simp] theorem State.triggerAnswerback_punch (s : State) :
    s.triggerAnswerback.punch = s.punch := by
  unfold State.triggerAnswerback; split <;> rfl
@[simp] theorem State.triggerAnswerback_keyboard (s : State) :
    s.triggerAnswerback.keyboard = s.keyboard := by
  unfold State.triggerAnswerback; split <;> rfl
@[simp] theorem State.triggerAnswerback_motor (s : State) :
    s.triggerAnswerback.motor = s.motor := by
  unfold State.triggerAnswerback; split <;> rfl
@[simp] theorem State.triggerAnswerback_link (s : State) :
    s.triggerAnswerback.link = s.link := by
  unfold State.triggerAnswerback; split <;> rfl
@[simp] theorem State.triggerAnswerback_isl (s : State) :
    s.triggerAnswerback.isl = s.isl := by
  unfold State.triggerAnswerback; split <;> rfl
@[simp] theorem State.triggerAnswerback_now (s : State) :
    s.triggerAnswerback.now = s.now := by
  unfold State.triggerAnswerback; split <;> rfl
@[simp] theorem State.triggerAnswerback_freeIndex (s : State) :
    s.triggerAnswerback.freeIndex = s.freeIndex := by
  unfold State.triggerAnswerback; split <;> rfl
@[simp] theorem State.triggerAnswerback_pending (s : State) :
    s.triggerAnswerback.pending = s.pending := by
  unfold State.triggerAnswerback; split <;> rfl

@[simp] theorem State.resetSender_store (s : State) : s.resetSender.store = s.store := rfl
@[simp] theorem State.resetSender_routes (s : State) : s.resetSender.routes = s.routes := rfl
@[simp] theorem State.resetSender_timing (s : State) : s.resetSender.timing = s.timing := rfl
@[simp] theorem State.resetSender_lrx (s : State) : s.resetSender.lrx = s.lrx := rfl
@[simp] theorem State.resetSender_call (s : State) : s.resetSender.call = s.call := rfl
@[simp] theorem State.resetSender_file (s : State) : s.resetSender.file = s.file := rfl
@[simp] theorem State.resetSender_printer (s : State) : s.resetSender.printer = s.printer := rfl
@[simp] theorem State.resetSender_punch (s : State) : s.resetSender.punch = s.punch := rfl
@[simp] theorem State.resetSender_keyboard (s : State) : s.resetSender.keyboard = s.keyboard := rfl
@[simp] theorem State.resetSender_motor (s : State) : s.resetSender.motor = s.motor := rfl
@[simp] theorem State.resetSender_link (s : State) : s.resetSender.link = s.link := rfl
@[simp] theorem State.resetSender_isl (s : State) : s.resetSender.isl = s.isl := rfl
@[simp] theorem State.resetSender_now (s : State) : s.resetSender.now = s.now := rfl
@[simp] theorem State.resetSender_freeIndex (s : State) : s.resetSender.freeIndex = s.freeIndex := rfl
@[simp] theorem State.resetSender_pending (s : State) : s.resetSender.pending = s.pending := rfl
@[simp] theorem State.resetSender_ltx (s : State) :
    s.resetSender.ltx = Ltx.reset := rfl

@[simp] theorem State.keyingDone_store (s : State) (k : Keying) : (s.keyingDone k).store = s.store := rfl
@[simp] theorem State.keyingDone_routes (s : State) (k : Keying) : (s.keyingDone k).routes = s.routes := rfl
@[simp] theorem State.keyingDone_timing (s : State) (k : Keying) : (s.keyingDone k).timing = s.timing := rfl
@[simp] theorem State.keyingDone_lrx (s : State) (k : Keying) : (s.keyingDone k).lrx = s.lrx := rfl
@[simp] theorem State.keyingDone_file (s : State) (k : Keying) : (s.keyingDone k).file = s.file := rfl
@[simp] theorem State.keyingDone_printer (s : State) (k : Keying) : (s.keyingDone k).printer = s.printer := rfl
@[simp] theorem State.keyingDone_punch (s : State) (k : Keying) : (s.keyingDone k).punch = s.punch := rfl
@[simp] theorem State.keyingDone_keyboard (s : State) (k : Keying) : (s.keyingDone k).keyboard = s.keyboard := rfl
@[simp] theorem State.keyingDone_motor (s : State) (k : Keying) : (s.keyingDone k).motor = s.motor := rfl
@[simp] theorem State.keyingDone_link (s : State) (k : Keying) : (s.keyingDone k).link = s.link := rfl
@[simp] theorem State.keyingDone_isl (s : State) (k : Keying) : (s.keyingDone k).isl = s.isl := rfl
@[simp] theorem State.keyingDone_now (s : State) (k : Keying) : (s.keyingDone k).now = s.now := rfl
@[simp] theorem State.keyingDone_freeIndex (s : State) (k : Keying) : (s.keyingDone k).freeIndex = s.freeIndex := rfl
@[simp] theorem State.keyingDone_pending (s : State) (k : Keying) : (s.keyingDone k).pending = s.pending := rfl

@[simp] theorem State.disableReceiver_store (s : State) : s.disableReceiver.store = s.store := rfl
@[simp] theorem State.disableReceiver_routes (s : State) : s.disableReceiver.routes = s.routes := rfl
@[simp] theorem State.disableReceiver_timing (s : State) : s.disableReceiver.timing = s.timing := rfl
@[simp] theorem State.disableReceiver_ltx (s : State) : s.disableReceiver.ltx = s.ltx := rfl
@[simp] theorem State.disableReceiver_call (s : State) : s.disableReceiver.call = s.call := rfl
@[simp] theorem State.disableReceiver_file (s : State) : s.disableReceiver.file = s.file := rfl
@[simp] theorem State.disableReceiver_printer (s : State) : s.disableReceiver.printer = s.printer := rfl
@[simp] theorem State.disableReceiver_punch (s : State) : s.disableReceiver.punch = s.punch := rfl
@[simp] theorem State.disableReceiver_keyboard (s : State) : s.disableReceiver.keyboard = s.keyboard := rfl
@[simp] theorem State.disableReceiver_motor (s : State) : s.disableReceiver.motor = s.motor := rfl
@[simp] theorem State.disableReceiver_link (s : State) : s.disableReceiver.link = s.link := rfl
@[simp] theorem State.disableReceiver_isl (s : State) : s.disableReceiver.isl = s.isl := rfl
@[simp] theorem State.disableReceiver_now (s : State) : s.disableReceiver.now = s.now := rfl
@[simp] theorem State.disableReceiver_freeIndex (s : State) : s.disableReceiver.freeIndex = s.freeIndex := rfl
@[simp] theorem State.disableReceiver_pending (s : State) : s.disableReceiver.pending = s.pending := rfl
@[simp] theorem State.disableReceiver_lrx (s : State) :
    s.disableReceiver.lrx = { s.lrx with state := .disabled, guard := none } := rfl

@[simp] theorem State.enableReceiver_store (s : State) : s.enableReceiver.store = s.store := rfl
@[simp] theorem State.enableReceiver_routes (s : State) : s.enableReceiver.routes = s.routes := rfl
@[simp] theorem State.enableReceiver_timing (s : State) : s.enableReceiver.timing = s.timing := rfl
@[simp] theorem State.enableReceiver_ltx (s : State) : s.enableReceiver.ltx = s.ltx := rfl
@[simp] theorem State.enableReceiver_call (s : State) : s.enableReceiver.call = s.call := rfl
@[simp] theorem State.enableReceiver_file (s : State) : s.enableReceiver.file = s.file := rfl
@[simp] theorem State.enableReceiver_printer (s : State) : s.enableReceiver.printer = s.printer := rfl
@[simp] theorem State.enableReceiver_punch (s : State) : s.enableReceiver.punch = s.punch := rfl
@[simp] theorem State.enableReceiver_keyboard (s : State) : s.enableReceiver.keyboard = s.keyboard := rfl
@[simp] theorem State.enableReceiver_motor (s : State) : s.enableReceiver.motor = s.motor := rfl
@[simp] theorem State.enableReceiver_link (s : State) : s.enableReceiver.link = s.link := rfl
@[simp] theorem State.enableReceiver_isl (s : State) : s.enableReceiver.isl = s.isl := rfl
@[simp] theorem State.enableReceiver_now (s : State) : s.enableReceiver.now = s.now := rfl
@[simp] theorem State.enableReceiver_freeIndex (s : State) : s.enableReceiver.freeIndex = s.freeIndex := rfl
@[simp] theorem State.enableReceiver_pending (s : State) : s.enableReceiver.pending = s.pending := rfl

@[simp] theorem State.openRecord_store (s : State) (kind : CallKind) (state : CallRecordState) :
    (s.openRecord kind state).store = s.store := rfl
@[simp] theorem State.openRecord_routes (s : State) (kind : CallKind) (state : CallRecordState) :
    (s.openRecord kind state).routes = s.routes := rfl
@[simp] theorem State.openRecord_timing (s : State) (kind : CallKind) (state : CallRecordState) :
    (s.openRecord kind state).timing = s.timing := rfl
@[simp] theorem State.openRecord_lrx (s : State) (kind : CallKind) (state : CallRecordState) :
    (s.openRecord kind state).lrx = s.lrx := rfl
@[simp] theorem State.openRecord_ltx (s : State) (kind : CallKind) (state : CallRecordState) :
    (s.openRecord kind state).ltx = s.ltx := rfl
@[simp] theorem State.openRecord_file (s : State) (kind : CallKind) (state : CallRecordState) :
    (s.openRecord kind state).file = s.file := rfl
@[simp] theorem State.openRecord_printer (s : State) (kind : CallKind) (state : CallRecordState) :
    (s.openRecord kind state).printer = s.printer := rfl
@[simp] theorem State.openRecord_punch (s : State) (kind : CallKind) (state : CallRecordState) :
    (s.openRecord kind state).punch = s.punch := rfl
@[simp] theorem State.openRecord_keyboard (s : State) (kind : CallKind) (state : CallRecordState) :
    (s.openRecord kind state).keyboard = s.keyboard := rfl
@[simp] theorem State.openRecord_motor (s : State) (kind : CallKind) (state : CallRecordState) :
    (s.openRecord kind state).motor = s.motor := rfl
@[simp] theorem State.openRecord_link (s : State) (kind : CallKind) (state : CallRecordState) :
    (s.openRecord kind state).link = s.link := rfl
@[simp] theorem State.openRecord_isl (s : State) (kind : CallKind) (state : CallRecordState) :
    (s.openRecord kind state).isl = s.isl := rfl
@[simp] theorem State.openRecord_now (s : State) (kind : CallKind) (state : CallRecordState) :
    (s.openRecord kind state).now = s.now := rfl
@[simp] theorem State.openRecord_freeIndex (s : State) (kind : CallKind) (state : CallRecordState) :
    (s.openRecord kind state).freeIndex = s.freeIndex := rfl
@[simp] theorem State.openRecord_pending (s : State) (kind : CallKind) (state : CallRecordState) :
    (s.openRecord kind state).pending = s.pending := rfl
@[simp] theorem State.openRecord_call (s : State) (kind : CallKind) (state : CallRecordState) :
    (s.openRecord kind state).call = { s.call with record := { kind := kind, state := state, outcome := none, openedAt := s.now, elapsed := 0, received := 0, sent := 0, breaks := 0, lineCase := .unknown, caller := none } } := rfl

@[simp] theorem State.recordState_store (s : State) (state : CallRecordState) :
    (s.recordState state).store = s.store := rfl
@[simp] theorem State.recordState_routes (s : State) (state : CallRecordState) :
    (s.recordState state).routes = s.routes := rfl
@[simp] theorem State.recordState_timing (s : State) (state : CallRecordState) :
    (s.recordState state).timing = s.timing := rfl
@[simp] theorem State.recordState_lrx (s : State) (state : CallRecordState) : (s.recordState state).lrx = s.lrx := rfl
@[simp] theorem State.recordState_ltx (s : State) (state : CallRecordState) : (s.recordState state).ltx = s.ltx := rfl
@[simp] theorem State.recordState_file (s : State) (state : CallRecordState) :
    (s.recordState state).file = s.file := rfl
@[simp] theorem State.recordState_printer (s : State) (state : CallRecordState) :
    (s.recordState state).printer = s.printer := rfl
@[simp] theorem State.recordState_punch (s : State) (state : CallRecordState) :
    (s.recordState state).punch = s.punch := rfl
@[simp] theorem State.recordState_keyboard (s : State) (state : CallRecordState) :
    (s.recordState state).keyboard = s.keyboard := rfl
@[simp] theorem State.recordState_motor (s : State) (state : CallRecordState) :
    (s.recordState state).motor = s.motor := rfl
@[simp] theorem State.recordState_link (s : State) (state : CallRecordState) :
    (s.recordState state).link = s.link := rfl
@[simp] theorem State.recordState_isl (s : State) (state : CallRecordState) : (s.recordState state).isl = s.isl := rfl
@[simp] theorem State.recordState_now (s : State) (state : CallRecordState) : (s.recordState state).now = s.now := rfl
@[simp] theorem State.recordState_freeIndex (s : State) (state : CallRecordState) :
    (s.recordState state).freeIndex = s.freeIndex := rfl
@[simp] theorem State.recordState_pending (s : State) (state : CallRecordState) :
    (s.recordState state).pending = s.pending := rfl
@[simp] theorem State.recordState_call (s : State) (state : CallRecordState) :
    (s.recordState state).call = { s.call with record := { s.call.record with state := state } } := rfl

@[simp] theorem State.endRecord_store (s : State) (o : CallOutcome) : (s.endRecord o).store = s.store := rfl
@[simp] theorem State.endRecord_routes (s : State) (o : CallOutcome) : (s.endRecord o).routes = s.routes := rfl
@[simp] theorem State.endRecord_timing (s : State) (o : CallOutcome) : (s.endRecord o).timing = s.timing := rfl
@[simp] theorem State.endRecord_lrx (s : State) (o : CallOutcome) : (s.endRecord o).lrx = s.lrx := rfl
@[simp] theorem State.endRecord_ltx (s : State) (o : CallOutcome) : (s.endRecord o).ltx = s.ltx := rfl
@[simp] theorem State.endRecord_file (s : State) (o : CallOutcome) : (s.endRecord o).file = s.file := rfl
@[simp] theorem State.endRecord_printer (s : State) (o : CallOutcome) : (s.endRecord o).printer = s.printer := rfl
@[simp] theorem State.endRecord_punch (s : State) (o : CallOutcome) : (s.endRecord o).punch = s.punch := rfl
@[simp] theorem State.endRecord_keyboard (s : State) (o : CallOutcome) : (s.endRecord o).keyboard = s.keyboard := rfl
@[simp] theorem State.endRecord_motor (s : State) (o : CallOutcome) : (s.endRecord o).motor = s.motor := rfl
@[simp] theorem State.endRecord_link (s : State) (o : CallOutcome) : (s.endRecord o).link = s.link := rfl
@[simp] theorem State.endRecord_isl (s : State) (o : CallOutcome) : (s.endRecord o).isl = s.isl := rfl
@[simp] theorem State.endRecord_now (s : State) (o : CallOutcome) : (s.endRecord o).now = s.now := rfl
@[simp] theorem State.endRecord_freeIndex (s : State) (o : CallOutcome) :
    (s.endRecord o).freeIndex = s.freeIndex := rfl
@[simp] theorem State.endRecord_pending (s : State) (o : CallOutcome) : (s.endRecord o).pending = s.pending := rfl
@[simp] theorem State.endRecord_call (s : State) (o : CallOutcome) :
    (s.endRecord o).call = { s.call with record := { s.call.record with state := .ended, outcome := some o, elapsed := s.call.record.seconds s.now } } := rfl

@[simp] theorem State.restartIdle_store (s : State) : s.restartIdle.store = s.store := rfl
@[simp] theorem State.restartIdle_routes (s : State) : s.restartIdle.routes = s.routes := rfl
@[simp] theorem State.restartIdle_timing (s : State) : s.restartIdle.timing = s.timing := rfl
@[simp] theorem State.restartIdle_lrx (s : State) : s.restartIdle.lrx = s.lrx := rfl
@[simp] theorem State.restartIdle_ltx (s : State) : s.restartIdle.ltx = s.ltx := rfl
@[simp] theorem State.restartIdle_file (s : State) : s.restartIdle.file = s.file := rfl
@[simp] theorem State.restartIdle_printer (s : State) : s.restartIdle.printer = s.printer := rfl
@[simp] theorem State.restartIdle_punch (s : State) : s.restartIdle.punch = s.punch := rfl
@[simp] theorem State.restartIdle_keyboard (s : State) : s.restartIdle.keyboard = s.keyboard := rfl
@[simp] theorem State.restartIdle_motor (s : State) : s.restartIdle.motor = s.motor := rfl
@[simp] theorem State.restartIdle_link (s : State) : s.restartIdle.link = s.link := rfl
@[simp] theorem State.restartIdle_isl (s : State) : s.restartIdle.isl = s.isl := rfl
@[simp] theorem State.restartIdle_now (s : State) : s.restartIdle.now = s.now := rfl
@[simp] theorem State.restartIdle_freeIndex (s : State) : s.restartIdle.freeIndex = s.freeIndex := rfl
@[simp] theorem State.restartIdle_pending (s : State) : s.restartIdle.pending = s.pending := rfl
@[simp] theorem State.restartIdle_call (s : State) :
    s.restartIdle.call = { s.call with idle := if s.opt .idleClear = 0 then none else some (s.now + s.opt .idleClear * Config.second) } := rfl

@[simp] theorem State.enterCall_store (s : State) (c : CallState) : (s.enterCall c).store = s.store := rfl
@[simp] theorem State.enterCall_routes (s : State) (c : CallState) : (s.enterCall c).routes = s.routes := rfl
@[simp] theorem State.enterCall_timing (s : State) (c : CallState) : (s.enterCall c).timing = s.timing := rfl
@[simp] theorem State.enterCall_lrx (s : State) (c : CallState) : (s.enterCall c).lrx = s.lrx := rfl
@[simp] theorem State.enterCall_ltx (s : State) (c : CallState) : (s.enterCall c).ltx = s.ltx := rfl
@[simp] theorem State.enterCall_file (s : State) (c : CallState) : (s.enterCall c).file = s.file := rfl
@[simp] theorem State.enterCall_printer (s : State) (c : CallState) : (s.enterCall c).printer = s.printer := rfl
@[simp] theorem State.enterCall_punch (s : State) (c : CallState) : (s.enterCall c).punch = s.punch := rfl
@[simp] theorem State.enterCall_keyboard (s : State) (c : CallState) : (s.enterCall c).keyboard = s.keyboard := rfl
@[simp] theorem State.enterCall_motor (s : State) (c : CallState) : (s.enterCall c).motor = s.motor := rfl
@[simp] theorem State.enterCall_link (s : State) (c : CallState) : (s.enterCall c).link = s.link := rfl
@[simp] theorem State.enterCall_isl (s : State) (c : CallState) : (s.enterCall c).isl = s.isl := rfl
@[simp] theorem State.enterCall_now (s : State) (c : CallState) : (s.enterCall c).now = s.now := rfl
@[simp] theorem State.enterCall_freeIndex (s : State) (c : CallState) : (s.enterCall c).freeIndex = s.freeIndex := rfl
@[simp] theorem State.enterCall_pending (s : State) (c : CallState) : (s.enterCall c).pending = s.pending := rfl
@[simp] theorem State.enterCall_call (s : State) (c : CallState) :
    (s.enterCall c).call = { s.call.stopTimers with state := c, enteredAt := s.now } := rfl

@[simp] theorem State.copyTiming_store (s : State) : s.copyTiming.store = s.store := rfl
@[simp] theorem State.copyTiming_routes (s : State) : s.copyTiming.routes = s.routes := rfl
@[simp] theorem State.copyTiming_lrx (s : State) : s.copyTiming.lrx = s.lrx := rfl
@[simp] theorem State.copyTiming_ltx (s : State) : s.copyTiming.ltx = s.ltx := rfl
@[simp] theorem State.copyTiming_call (s : State) : s.copyTiming.call = s.call := rfl
@[simp] theorem State.copyTiming_file (s : State) : s.copyTiming.file = s.file := rfl
@[simp] theorem State.copyTiming_printer (s : State) : s.copyTiming.printer = s.printer := rfl
@[simp] theorem State.copyTiming_punch (s : State) : s.copyTiming.punch = s.punch := rfl
@[simp] theorem State.copyTiming_keyboard (s : State) : s.copyTiming.keyboard = s.keyboard := rfl
@[simp] theorem State.copyTiming_motor (s : State) : s.copyTiming.motor = s.motor := rfl
@[simp] theorem State.copyTiming_link (s : State) : s.copyTiming.link = s.link := rfl
@[simp] theorem State.copyTiming_isl (s : State) : s.copyTiming.isl = s.isl := rfl
@[simp] theorem State.copyTiming_now (s : State) : s.copyTiming.now = s.now := rfl
@[simp] theorem State.copyTiming_freeIndex (s : State) : s.copyTiming.freeIndex = s.freeIndex := rfl
@[simp] theorem State.copyTiming_pending (s : State) : s.copyTiming.pending = s.pending := rfl
@[simp] theorem State.copyTiming_timing (s : State) :
    s.copyTiming.timing = timingOf s.isl.options := rfl

@[simp] theorem State.startEnquiryDelay_store (s : State) : s.startEnquiryDelay.store = s.store := rfl
@[simp] theorem State.startEnquiryDelay_routes (s : State) : s.startEnquiryDelay.routes = s.routes := rfl
@[simp] theorem State.startEnquiryDelay_timing (s : State) : s.startEnquiryDelay.timing = s.timing := rfl
@[simp] theorem State.startEnquiryDelay_lrx (s : State) : s.startEnquiryDelay.lrx = s.lrx := rfl
@[simp] theorem State.startEnquiryDelay_ltx (s : State) : s.startEnquiryDelay.ltx = s.ltx := rfl
@[simp] theorem State.startEnquiryDelay_file (s : State) : s.startEnquiryDelay.file = s.file := rfl
@[simp] theorem State.startEnquiryDelay_printer (s : State) : s.startEnquiryDelay.printer = s.printer := rfl
@[simp] theorem State.startEnquiryDelay_punch (s : State) : s.startEnquiryDelay.punch = s.punch := rfl
@[simp] theorem State.startEnquiryDelay_keyboard (s : State) : s.startEnquiryDelay.keyboard = s.keyboard := rfl
@[simp] theorem State.startEnquiryDelay_motor (s : State) : s.startEnquiryDelay.motor = s.motor := rfl
@[simp] theorem State.startEnquiryDelay_link (s : State) : s.startEnquiryDelay.link = s.link := rfl
@[simp] theorem State.startEnquiryDelay_isl (s : State) : s.startEnquiryDelay.isl = s.isl := rfl
@[simp] theorem State.startEnquiryDelay_now (s : State) : s.startEnquiryDelay.now = s.now := rfl
@[simp] theorem State.startEnquiryDelay_freeIndex (s : State) : s.startEnquiryDelay.freeIndex = s.freeIndex := rfl
@[simp] theorem State.startEnquiryDelay_pending (s : State) : s.startEnquiryDelay.pending = s.pending := rfl
@[simp] theorem State.startEnquiryDelay_call (s : State) :
    s.startEnquiryDelay.call = { s.call with enquiryDelay := if s.opt .autoEnquiry = 0 then none else some (s.now + s.opt .autoEnquiry * Config.hundredMs) } := rfl

@[simp] theorem State.clearLineCase_store (s : State) : s.clearLineCase.store = s.store := rfl
@[simp] theorem State.clearLineCase_routes (s : State) : s.clearLineCase.routes = s.routes := rfl
@[simp] theorem State.clearLineCase_timing (s : State) : s.clearLineCase.timing = s.timing := rfl
@[simp] theorem State.clearLineCase_lrx (s : State) : s.clearLineCase.lrx = s.lrx := rfl
@[simp] theorem State.clearLineCase_ltx (s : State) : s.clearLineCase.ltx = s.ltx := rfl
@[simp] theorem State.clearLineCase_file (s : State) : s.clearLineCase.file = s.file := rfl
@[simp] theorem State.clearLineCase_printer (s : State) : s.clearLineCase.printer = s.printer := rfl
@[simp] theorem State.clearLineCase_punch (s : State) : s.clearLineCase.punch = s.punch := rfl
@[simp] theorem State.clearLineCase_keyboard (s : State) : s.clearLineCase.keyboard = s.keyboard := rfl
@[simp] theorem State.clearLineCase_motor (s : State) : s.clearLineCase.motor = s.motor := rfl
@[simp] theorem State.clearLineCase_link (s : State) : s.clearLineCase.link = s.link := rfl
@[simp] theorem State.clearLineCase_isl (s : State) : s.clearLineCase.isl = s.isl := rfl
@[simp] theorem State.clearLineCase_now (s : State) : s.clearLineCase.now = s.now := rfl
@[simp] theorem State.clearLineCase_freeIndex (s : State) : s.clearLineCase.freeIndex = s.freeIndex := rfl
@[simp] theorem State.clearLineCase_pending (s : State) : s.clearLineCase.pending = s.pending := rfl
@[simp] theorem State.clearLineCase_call (s : State) :
    s.clearLineCase.call = { s.call with record := { s.call.record with lineCase := .unknown } } := rfl

@[simp] theorem State.enterReleasing_store (s : State) : s.enterReleasing.store = s.store := rfl
@[simp] theorem State.enterReleasing_routes (s : State) : s.enterReleasing.routes = s.routes := rfl
@[simp] theorem State.enterReleasing_timing (s : State) : s.enterReleasing.timing = s.timing := rfl
@[simp] theorem State.enterReleasing_lrx (s : State) : s.enterReleasing.lrx = s.lrx := rfl
@[simp] theorem State.enterReleasing_ltx (s : State) : s.enterReleasing.ltx = s.ltx := rfl
@[simp] theorem State.enterReleasing_file (s : State) : s.enterReleasing.file = s.file := rfl
@[simp] theorem State.enterReleasing_printer (s : State) : s.enterReleasing.printer = s.printer := rfl
@[simp] theorem State.enterReleasing_punch (s : State) : s.enterReleasing.punch = s.punch := rfl
@[simp] theorem State.enterReleasing_keyboard (s : State) : s.enterReleasing.keyboard = s.keyboard := rfl
@[simp] theorem State.enterReleasing_motor (s : State) : s.enterReleasing.motor = s.motor := rfl
@[simp] theorem State.enterReleasing_link (s : State) : s.enterReleasing.link = s.link := rfl
@[simp] theorem State.enterReleasing_isl (s : State) : s.enterReleasing.isl = s.isl := rfl
@[simp] theorem State.enterReleasing_now (s : State) : s.enterReleasing.now = s.now := rfl
@[simp] theorem State.enterReleasing_freeIndex (s : State) : s.enterReleasing.freeIndex = s.freeIndex := rfl
@[simp] theorem State.enterReleasing_pending (s : State) : s.enterReleasing.pending = s.pending := rfl

@[simp] theorem State.lineReleaseDue_store (s : State) :
    s.lineReleaseDue.store = s.store := by
  unfold State.lineReleaseDue; split <;> rfl
@[simp] theorem State.lineReleaseDue_routes (s : State) :
    s.lineReleaseDue.routes = s.routes := by
  unfold State.lineReleaseDue; split <;> rfl
@[simp] theorem State.lineReleaseDue_timing (s : State) :
    s.lineReleaseDue.timing = s.timing := by
  unfold State.lineReleaseDue; split <;> rfl
@[simp] theorem State.lineReleaseDue_lrx (s : State) :
    s.lineReleaseDue.lrx = s.lrx := by
  unfold State.lineReleaseDue; split <;> rfl
@[simp] theorem State.lineReleaseDue_ltx (s : State) :
    s.lineReleaseDue.ltx = s.ltx := by
  unfold State.lineReleaseDue; split <;> rfl
@[simp] theorem State.lineReleaseDue_call (s : State) :
    s.lineReleaseDue.call = s.call := by
  unfold State.lineReleaseDue; split <;> rfl
@[simp] theorem State.lineReleaseDue_file (s : State) :
    s.lineReleaseDue.file = s.file := by
  unfold State.lineReleaseDue; split <;> rfl
@[simp] theorem State.lineReleaseDue_printer (s : State) :
    s.lineReleaseDue.printer = s.printer := by
  unfold State.lineReleaseDue; split <;> rfl
@[simp] theorem State.lineReleaseDue_keyboard (s : State) :
    s.lineReleaseDue.keyboard = s.keyboard := by
  unfold State.lineReleaseDue; split <;> rfl
@[simp] theorem State.lineReleaseDue_motor (s : State) :
    s.lineReleaseDue.motor = s.motor := by
  unfold State.lineReleaseDue; split <;> rfl
@[simp] theorem State.lineReleaseDue_link (s : State) :
    s.lineReleaseDue.link = s.link := by
  unfold State.lineReleaseDue; split <;> rfl
@[simp] theorem State.lineReleaseDue_isl (s : State) :
    s.lineReleaseDue.isl = s.isl := by
  unfold State.lineReleaseDue; split <;> rfl
@[simp] theorem State.lineReleaseDue_now (s : State) :
    s.lineReleaseDue.now = s.now := by
  unfold State.lineReleaseDue; split <;> rfl
@[simp] theorem State.lineReleaseDue_freeIndex (s : State) :
    s.lineReleaseDue.freeIndex = s.freeIndex := by
  unfold State.lineReleaseDue; split <;> rfl
@[simp] theorem State.lineReleaseDue_pending (s : State) :
    s.lineReleaseDue.pending = s.pending := by
  unfold State.lineReleaseDue; split <;> rfl

@[simp] theorem State.markLineRelease_store (s : State) :
    s.markLineRelease.store = s.store := by
  unfold State.markLineRelease; split <;> rfl
@[simp] theorem State.markLineRelease_routes (s : State) :
    s.markLineRelease.routes = s.routes := by
  unfold State.markLineRelease; split <;> rfl
@[simp] theorem State.markLineRelease_timing (s : State) :
    s.markLineRelease.timing = s.timing := by
  unfold State.markLineRelease; split <;> rfl
@[simp] theorem State.markLineRelease_lrx (s : State) :
    s.markLineRelease.lrx = s.lrx := by
  unfold State.markLineRelease; split <;> rfl
@[simp] theorem State.markLineRelease_ltx (s : State) :
    s.markLineRelease.ltx = s.ltx := by
  unfold State.markLineRelease; split <;> rfl
@[simp] theorem State.markLineRelease_call (s : State) :
    s.markLineRelease.call = s.call := by
  unfold State.markLineRelease; split <;> rfl
@[simp] theorem State.markLineRelease_file (s : State) :
    s.markLineRelease.file = s.file := by
  unfold State.markLineRelease; split <;> rfl
@[simp] theorem State.markLineRelease_printer (s : State) :
    s.markLineRelease.printer = s.printer := by
  unfold State.markLineRelease; split <;> rfl
@[simp] theorem State.markLineRelease_keyboard (s : State) :
    s.markLineRelease.keyboard = s.keyboard := by
  unfold State.markLineRelease; split <;> rfl
@[simp] theorem State.markLineRelease_motor (s : State) :
    s.markLineRelease.motor = s.motor := by
  unfold State.markLineRelease; split <;> rfl
@[simp] theorem State.markLineRelease_link (s : State) :
    s.markLineRelease.link = s.link := by
  unfold State.markLineRelease; split <;> rfl
@[simp] theorem State.markLineRelease_isl (s : State) :
    s.markLineRelease.isl = s.isl := by
  unfold State.markLineRelease; split <;> rfl
@[simp] theorem State.markLineRelease_now (s : State) :
    s.markLineRelease.now = s.now := by
  unfold State.markLineRelease; split <;> rfl
@[simp] theorem State.markLineRelease_freeIndex (s : State) :
    s.markLineRelease.freeIndex = s.freeIndex := by
  unfold State.markLineRelease; split <;> rfl
@[simp] theorem State.markLineRelease_pending (s : State) :
    s.markLineRelease.pending = s.pending := by
  unfold State.markLineRelease; split <;> rfl

@[simp] theorem State.emptySend_routes (s : State) : s.emptySend.routes = s.routes := rfl
@[simp] theorem State.emptySend_timing (s : State) : s.emptySend.timing = s.timing := rfl
@[simp] theorem State.emptySend_lrx (s : State) : s.emptySend.lrx = s.lrx := rfl
@[simp] theorem State.emptySend_ltx (s : State) : s.emptySend.ltx = s.ltx := rfl
@[simp] theorem State.emptySend_file (s : State) : s.emptySend.file = s.file := rfl
@[simp] theorem State.emptySend_printer (s : State) : s.emptySend.printer = s.printer := rfl
@[simp] theorem State.emptySend_punch (s : State) : s.emptySend.punch = s.punch := rfl
@[simp] theorem State.emptySend_keyboard (s : State) : s.emptySend.keyboard = s.keyboard := rfl
@[simp] theorem State.emptySend_motor (s : State) : s.emptySend.motor = s.motor := rfl
@[simp] theorem State.emptySend_link (s : State) : s.emptySend.link = s.link := rfl
@[simp] theorem State.emptySend_isl (s : State) : s.emptySend.isl = s.isl := rfl
@[simp] theorem State.emptySend_now (s : State) : s.emptySend.now = s.now := rfl
@[simp] theorem State.emptySend_freeIndex (s : State) : s.emptySend.freeIndex = s.freeIndex := rfl
@[simp] theorem State.emptySend_pending (s : State) : s.emptySend.pending = s.pending := rfl

@[simp] theorem State.closeEpisode_routes (s : State) : s.closeEpisode.routes = s.routes := rfl
@[simp] theorem State.closeEpisode_timing (s : State) : s.closeEpisode.timing = s.timing := rfl
@[simp] theorem State.closeEpisode_lrx (s : State) : s.closeEpisode.lrx = s.lrx := rfl
@[simp] theorem State.closeEpisode_ltx (s : State) : s.closeEpisode.ltx = s.ltx := rfl
@[simp] theorem State.closeEpisode_call (s : State) : s.closeEpisode.call = s.call := rfl
@[simp] theorem State.closeEpisode_file (s : State) : s.closeEpisode.file = s.file := rfl
@[simp] theorem State.closeEpisode_printer (s : State) : s.closeEpisode.printer = s.printer := rfl
@[simp] theorem State.closeEpisode_punch (s : State) : s.closeEpisode.punch = s.punch := rfl
@[simp] theorem State.closeEpisode_keyboard (s : State) : s.closeEpisode.keyboard = s.keyboard := rfl
@[simp] theorem State.closeEpisode_motor (s : State) : s.closeEpisode.motor = s.motor := rfl
@[simp] theorem State.closeEpisode_link (s : State) : s.closeEpisode.link = s.link := rfl
@[simp] theorem State.closeEpisode_isl (s : State) : s.closeEpisode.isl = s.isl := rfl
@[simp] theorem State.closeEpisode_now (s : State) : s.closeEpisode.now = s.now := rfl
@[simp] theorem State.closeEpisode_freeIndex (s : State) : s.closeEpisode.freeIndex = s.freeIndex := rfl
@[simp] theorem State.closeEpisode_pending (s : State) : s.closeEpisode.pending = s.pending := rfl
@[simp] theorem State.closeEpisode_store (s : State) :
    s.closeEpisode.store = { s.store with episode := .closed } := rfl

@[simp] theorem State.tellSent_store (s : State) : s.tellSent.store = s.store := rfl
@[simp] theorem State.tellSent_routes (s : State) : s.tellSent.routes = s.routes := rfl
@[simp] theorem State.tellSent_timing (s : State) : s.tellSent.timing = s.timing := rfl
@[simp] theorem State.tellSent_lrx (s : State) : s.tellSent.lrx = s.lrx := rfl
@[simp] theorem State.tellSent_ltx (s : State) : s.tellSent.ltx = s.ltx := rfl
@[simp] theorem State.tellSent_file (s : State) : s.tellSent.file = s.file := rfl
@[simp] theorem State.tellSent_printer (s : State) : s.tellSent.printer = s.printer := rfl
@[simp] theorem State.tellSent_punch (s : State) : s.tellSent.punch = s.punch := rfl
@[simp] theorem State.tellSent_keyboard (s : State) : s.tellSent.keyboard = s.keyboard := rfl
@[simp] theorem State.tellSent_motor (s : State) : s.tellSent.motor = s.motor := rfl
@[simp] theorem State.tellSent_link (s : State) : s.tellSent.link = s.link := rfl
@[simp] theorem State.tellSent_isl (s : State) : s.tellSent.isl = s.isl := rfl
@[simp] theorem State.tellSent_now (s : State) : s.tellSent.now = s.now := rfl
@[simp] theorem State.tellSent_freeIndex (s : State) : s.tellSent.freeIndex = s.freeIndex := rfl
@[simp] theorem State.tellSent_pending (s : State) : s.tellSent.pending = s.pending := rfl

@[simp] theorem State.openCapture_store (s : State) : s.openCapture.store = s.store := rfl
@[simp] theorem State.openCapture_routes (s : State) : s.openCapture.routes = s.routes := rfl
@[simp] theorem State.openCapture_timing (s : State) : s.openCapture.timing = s.timing := rfl
@[simp] theorem State.openCapture_lrx (s : State) : s.openCapture.lrx = s.lrx := rfl
@[simp] theorem State.openCapture_ltx (s : State) : s.openCapture.ltx = s.ltx := rfl
@[simp] theorem State.openCapture_file (s : State) : s.openCapture.file = s.file := rfl
@[simp] theorem State.openCapture_printer (s : State) : s.openCapture.printer = s.printer := rfl
@[simp] theorem State.openCapture_punch (s : State) : s.openCapture.punch = s.punch := rfl
@[simp] theorem State.openCapture_keyboard (s : State) : s.openCapture.keyboard = s.keyboard := rfl
@[simp] theorem State.openCapture_motor (s : State) : s.openCapture.motor = s.motor := rfl
@[simp] theorem State.openCapture_link (s : State) : s.openCapture.link = s.link := rfl
@[simp] theorem State.openCapture_isl (s : State) : s.openCapture.isl = s.isl := rfl
@[simp] theorem State.openCapture_now (s : State) : s.openCapture.now = s.now := rfl
@[simp] theorem State.openCapture_freeIndex (s : State) : s.openCapture.freeIndex = s.freeIndex := rfl
@[simp] theorem State.openCapture_pending (s : State) : s.openCapture.pending = s.pending := rfl

@[simp] theorem State.takeBreak_store (s : State) :
    s.takeBreak.store = s.store := by
  unfold State.takeBreak; split <;> rfl
@[simp] theorem State.takeBreak_routes (s : State) :
    s.takeBreak.routes = s.routes := by
  unfold State.takeBreak; split <;> rfl
@[simp] theorem State.takeBreak_timing (s : State) :
    s.takeBreak.timing = s.timing := by
  unfold State.takeBreak; split <;> rfl
@[simp] theorem State.takeBreak_lrx (s : State) :
    s.takeBreak.lrx = s.lrx := by
  unfold State.takeBreak; split <;> rfl
@[simp] theorem State.takeBreak_file (s : State) :
    s.takeBreak.file = s.file := by
  unfold State.takeBreak; split <;> rfl
@[simp] theorem State.takeBreak_printer (s : State) :
    s.takeBreak.printer = s.printer := by
  unfold State.takeBreak; split <;> rfl
@[simp] theorem State.takeBreak_punch (s : State) :
    s.takeBreak.punch = s.punch := by
  unfold State.takeBreak; split <;> rfl
@[simp] theorem State.takeBreak_keyboard (s : State) :
    s.takeBreak.keyboard = s.keyboard := by
  unfold State.takeBreak; split <;> rfl
@[simp] theorem State.takeBreak_motor (s : State) :
    s.takeBreak.motor = s.motor := by
  unfold State.takeBreak; split <;> rfl
@[simp] theorem State.takeBreak_isl (s : State) :
    s.takeBreak.isl = s.isl := by
  unfold State.takeBreak; split <;> rfl
@[simp] theorem State.takeBreak_now (s : State) :
    s.takeBreak.now = s.now := by
  unfold State.takeBreak; split <;> rfl
@[simp] theorem State.takeBreak_freeIndex (s : State) :
    s.takeBreak.freeIndex = s.freeIndex := by
  unfold State.takeBreak; split <;> rfl
@[simp] theorem State.takeBreak_pending (s : State) :
    s.takeBreak.pending = s.pending := by
  unfold State.takeBreak; split <;> rfl

@[simp] theorem State.takeBreakEnd_store (s : State) :
    s.takeBreakEnd.store = s.store := by
  unfold State.takeBreakEnd; split <;> rfl
@[simp] theorem State.takeBreakEnd_routes (s : State) :
    s.takeBreakEnd.routes = s.routes := by
  unfold State.takeBreakEnd; split <;> rfl
@[simp] theorem State.takeBreakEnd_timing (s : State) :
    s.takeBreakEnd.timing = s.timing := by
  unfold State.takeBreakEnd; split <;> rfl
@[simp] theorem State.takeBreakEnd_lrx (s : State) :
    s.takeBreakEnd.lrx = s.lrx := by
  unfold State.takeBreakEnd; split <;> rfl
@[simp] theorem State.takeBreakEnd_ltx (s : State) :
    s.takeBreakEnd.ltx = s.ltx := by
  unfold State.takeBreakEnd; split <;> rfl
@[simp] theorem State.takeBreakEnd_file (s : State) :
    s.takeBreakEnd.file = s.file := by
  unfold State.takeBreakEnd; split <;> rfl
@[simp] theorem State.takeBreakEnd_printer (s : State) :
    s.takeBreakEnd.printer = s.printer := by
  unfold State.takeBreakEnd; split <;> rfl
@[simp] theorem State.takeBreakEnd_punch (s : State) :
    s.takeBreakEnd.punch = s.punch := by
  unfold State.takeBreakEnd; split <;> rfl
@[simp] theorem State.takeBreakEnd_keyboard (s : State) :
    s.takeBreakEnd.keyboard = s.keyboard := by
  unfold State.takeBreakEnd; split <;> rfl
@[simp] theorem State.takeBreakEnd_motor (s : State) :
    s.takeBreakEnd.motor = s.motor := by
  unfold State.takeBreakEnd; split <;> rfl
@[simp] theorem State.takeBreakEnd_link (s : State) :
    s.takeBreakEnd.link = s.link := by
  unfold State.takeBreakEnd; split <;> rfl
@[simp] theorem State.takeBreakEnd_isl (s : State) :
    s.takeBreakEnd.isl = s.isl := by
  unfold State.takeBreakEnd; split <;> rfl
@[simp] theorem State.takeBreakEnd_now (s : State) :
    s.takeBreakEnd.now = s.now := by
  unfold State.takeBreakEnd; split <;> rfl
@[simp] theorem State.takeBreakEnd_freeIndex (s : State) :
    s.takeBreakEnd.freeIndex = s.freeIndex := by
  unfold State.takeBreakEnd; split <;> rfl
@[simp] theorem State.takeBreakEnd_pending (s : State) :
    s.takeBreakEnd.pending = s.pending := by
  unfold State.takeBreakEnd; split <;> rfl

@[simp] theorem State.withQuality_store (s : State) (q : LineQuality) : (s.withQuality q).store = s.store := rfl
@[simp] theorem State.withQuality_routes (s : State) (q : LineQuality) : (s.withQuality q).routes = s.routes := rfl
@[simp] theorem State.withQuality_timing (s : State) (q : LineQuality) : (s.withQuality q).timing = s.timing := rfl
@[simp] theorem State.withQuality_ltx (s : State) (q : LineQuality) : (s.withQuality q).ltx = s.ltx := rfl
@[simp] theorem State.withQuality_call (s : State) (q : LineQuality) : (s.withQuality q).call = s.call := rfl
@[simp] theorem State.withQuality_file (s : State) (q : LineQuality) : (s.withQuality q).file = s.file := rfl
@[simp] theorem State.withQuality_printer (s : State) (q : LineQuality) : (s.withQuality q).printer = s.printer := rfl
@[simp] theorem State.withQuality_punch (s : State) (q : LineQuality) : (s.withQuality q).punch = s.punch := rfl
@[simp] theorem State.withQuality_keyboard (s : State) (q : LineQuality) :
    (s.withQuality q).keyboard = s.keyboard := rfl
@[simp] theorem State.withQuality_motor (s : State) (q : LineQuality) : (s.withQuality q).motor = s.motor := rfl
@[simp] theorem State.withQuality_link (s : State) (q : LineQuality) : (s.withQuality q).link = s.link := rfl
@[simp] theorem State.withQuality_isl (s : State) (q : LineQuality) : (s.withQuality q).isl = s.isl := rfl
@[simp] theorem State.withQuality_now (s : State) (q : LineQuality) : (s.withQuality q).now = s.now := rfl
@[simp] theorem State.withQuality_freeIndex (s : State) (q : LineQuality) :
    (s.withQuality q).freeIndex = s.freeIndex := rfl
@[simp] theorem State.withQuality_pending (s : State) (q : LineQuality) : (s.withQuality q).pending = s.pending := rfl
@[simp] theorem State.withQuality_lrx (s : State) (q : LineQuality) :
    (s.withQuality q).lrx = { s.lrx with quality := q } := rfl

@[simp] theorem State.cleanCharacter_store (s : State) : s.cleanCharacter.store = s.store := rfl
@[simp] theorem State.cleanCharacter_routes (s : State) : s.cleanCharacter.routes = s.routes := rfl
@[simp] theorem State.cleanCharacter_timing (s : State) : s.cleanCharacter.timing = s.timing := rfl
@[simp] theorem State.cleanCharacter_ltx (s : State) : s.cleanCharacter.ltx = s.ltx := rfl
@[simp] theorem State.cleanCharacter_call (s : State) : s.cleanCharacter.call = s.call := rfl
@[simp] theorem State.cleanCharacter_file (s : State) : s.cleanCharacter.file = s.file := rfl
@[simp] theorem State.cleanCharacter_printer (s : State) : s.cleanCharacter.printer = s.printer := rfl
@[simp] theorem State.cleanCharacter_punch (s : State) : s.cleanCharacter.punch = s.punch := rfl
@[simp] theorem State.cleanCharacter_keyboard (s : State) : s.cleanCharacter.keyboard = s.keyboard := rfl
@[simp] theorem State.cleanCharacter_motor (s : State) : s.cleanCharacter.motor = s.motor := rfl
@[simp] theorem State.cleanCharacter_link (s : State) : s.cleanCharacter.link = s.link := rfl
@[simp] theorem State.cleanCharacter_isl (s : State) : s.cleanCharacter.isl = s.isl := rfl
@[simp] theorem State.cleanCharacter_now (s : State) : s.cleanCharacter.now = s.now := rfl
@[simp] theorem State.cleanCharacter_freeIndex (s : State) : s.cleanCharacter.freeIndex = s.freeIndex := rfl
@[simp] theorem State.cleanCharacter_pending (s : State) : s.cleanCharacter.pending = s.pending := rfl
@[simp] theorem State.cleanCharacter_lrx (s : State) :
    s.cleanCharacter.lrx = { s.lrx with poorRun := 0 } := rfl

@[simp] theorem State.receiveCase_store (s : State) (c : Code) : (s.receiveCase c).store = s.store := rfl
@[simp] theorem State.receiveCase_routes (s : State) (c : Code) : (s.receiveCase c).routes = s.routes := rfl
@[simp] theorem State.receiveCase_timing (s : State) (c : Code) : (s.receiveCase c).timing = s.timing := rfl
@[simp] theorem State.receiveCase_lrx (s : State) (c : Code) : (s.receiveCase c).lrx = s.lrx := rfl
@[simp] theorem State.receiveCase_ltx (s : State) (c : Code) : (s.receiveCase c).ltx = s.ltx := rfl
@[simp] theorem State.receiveCase_file (s : State) (c : Code) : (s.receiveCase c).file = s.file := rfl
@[simp] theorem State.receiveCase_printer (s : State) (c : Code) : (s.receiveCase c).printer = s.printer := rfl
@[simp] theorem State.receiveCase_punch (s : State) (c : Code) : (s.receiveCase c).punch = s.punch := rfl
@[simp] theorem State.receiveCase_keyboard (s : State) (c : Code) : (s.receiveCase c).keyboard = s.keyboard := rfl
@[simp] theorem State.receiveCase_motor (s : State) (c : Code) : (s.receiveCase c).motor = s.motor := rfl
@[simp] theorem State.receiveCase_link (s : State) (c : Code) : (s.receiveCase c).link = s.link := rfl
@[simp] theorem State.receiveCase_isl (s : State) (c : Code) : (s.receiveCase c).isl = s.isl := rfl
@[simp] theorem State.receiveCase_now (s : State) (c : Code) : (s.receiveCase c).now = s.now := rfl
@[simp] theorem State.receiveCase_freeIndex (s : State) (c : Code) : (s.receiveCase c).freeIndex = s.freeIndex := rfl
@[simp] theorem State.receiveCase_pending (s : State) (c : Code) : (s.receiveCase c).pending = s.pending := rfl
@[simp] theorem State.receiveCase_call (s : State) (c : Code) :
    (s.receiveCase c).call = { s.call with record := { s.call.record with lineCase := s.fmap.caseAfter c s.call.record.lineCase } } := rfl

@[simp] theorem State.receiverState_store (s : State) (r : LrxState) : (s.receiverState r).store = s.store := rfl
@[simp] theorem State.receiverState_routes (s : State) (r : LrxState) : (s.receiverState r).routes = s.routes := rfl
@[simp] theorem State.receiverState_timing (s : State) (r : LrxState) : (s.receiverState r).timing = s.timing := rfl
@[simp] theorem State.receiverState_ltx (s : State) (r : LrxState) : (s.receiverState r).ltx = s.ltx := rfl
@[simp] theorem State.receiverState_call (s : State) (r : LrxState) : (s.receiverState r).call = s.call := rfl
@[simp] theorem State.receiverState_file (s : State) (r : LrxState) : (s.receiverState r).file = s.file := rfl
@[simp] theorem State.receiverState_printer (s : State) (r : LrxState) :
    (s.receiverState r).printer = s.printer := rfl
@[simp] theorem State.receiverState_punch (s : State) (r : LrxState) : (s.receiverState r).punch = s.punch := rfl
@[simp] theorem State.receiverState_keyboard (s : State) (r : LrxState) :
    (s.receiverState r).keyboard = s.keyboard := rfl
@[simp] theorem State.receiverState_motor (s : State) (r : LrxState) : (s.receiverState r).motor = s.motor := rfl
@[simp] theorem State.receiverState_link (s : State) (r : LrxState) : (s.receiverState r).link = s.link := rfl
@[simp] theorem State.receiverState_isl (s : State) (r : LrxState) : (s.receiverState r).isl = s.isl := rfl
@[simp] theorem State.receiverState_now (s : State) (r : LrxState) : (s.receiverState r).now = s.now := rfl
@[simp] theorem State.receiverState_freeIndex (s : State) (r : LrxState) :
    (s.receiverState r).freeIndex = s.freeIndex := rfl
@[simp] theorem State.receiverState_pending (s : State) (r : LrxState) :
    (s.receiverState r).pending = s.pending := rfl
@[simp] theorem State.receiverState_lrx (s : State) (r : LrxState) :
    (s.receiverState r).lrx = { s.lrx with state := r } := rfl

@[simp] theorem State.confirmLevel_store (s : State) (level : Level) (te : Nat) :
    (s.confirmLevel level te).store = s.store := rfl
@[simp] theorem State.confirmLevel_routes (s : State) (level : Level) (te : Nat) :
    (s.confirmLevel level te).routes = s.routes := rfl
@[simp] theorem State.confirmLevel_timing (s : State) (level : Level) (te : Nat) :
    (s.confirmLevel level te).timing = s.timing := rfl
@[simp] theorem State.confirmLevel_ltx (s : State) (level : Level) (te : Nat) :
    (s.confirmLevel level te).ltx = s.ltx := rfl
@[simp] theorem State.confirmLevel_call (s : State) (level : Level) (te : Nat) :
    (s.confirmLevel level te).call = s.call := rfl
@[simp] theorem State.confirmLevel_file (s : State) (level : Level) (te : Nat) :
    (s.confirmLevel level te).file = s.file := rfl
@[simp] theorem State.confirmLevel_printer (s : State) (level : Level) (te : Nat) :
    (s.confirmLevel level te).printer = s.printer := rfl
@[simp] theorem State.confirmLevel_punch (s : State) (level : Level) (te : Nat) :
    (s.confirmLevel level te).punch = s.punch := rfl
@[simp] theorem State.confirmLevel_keyboard (s : State) (level : Level) (te : Nat) :
    (s.confirmLevel level te).keyboard = s.keyboard := rfl
@[simp] theorem State.confirmLevel_motor (s : State) (level : Level) (te : Nat) :
    (s.confirmLevel level te).motor = s.motor := rfl
@[simp] theorem State.confirmLevel_link (s : State) (level : Level) (te : Nat) :
    (s.confirmLevel level te).link = s.link := rfl
@[simp] theorem State.confirmLevel_isl (s : State) (level : Level) (te : Nat) :
    (s.confirmLevel level te).isl = s.isl := rfl
@[simp] theorem State.confirmLevel_freeIndex (s : State) (level : Level) (te : Nat) :
    (s.confirmLevel level te).freeIndex = s.freeIndex := rfl
@[simp] theorem State.confirmLevel_pending (s : State) (level : Level) (te : Nat) :
    (s.confirmLevel level te).pending = s.pending := rfl

@[simp] theorem State.startGuard_store (s : State) (stopTime : Nat) : (s.startGuard stopTime).store = s.store := rfl
@[simp] theorem State.startGuard_routes (s : State) (stopTime : Nat) :
    (s.startGuard stopTime).routes = s.routes := rfl
@[simp] theorem State.startGuard_timing (s : State) (stopTime : Nat) :
    (s.startGuard stopTime).timing = s.timing := rfl
@[simp] theorem State.startGuard_ltx (s : State) (stopTime : Nat) : (s.startGuard stopTime).ltx = s.ltx := rfl
@[simp] theorem State.startGuard_call (s : State) (stopTime : Nat) : (s.startGuard stopTime).call = s.call := rfl
@[simp] theorem State.startGuard_file (s : State) (stopTime : Nat) : (s.startGuard stopTime).file = s.file := rfl
@[simp] theorem State.startGuard_printer (s : State) (stopTime : Nat) :
    (s.startGuard stopTime).printer = s.printer := rfl
@[simp] theorem State.startGuard_punch (s : State) (stopTime : Nat) : (s.startGuard stopTime).punch = s.punch := rfl
@[simp] theorem State.startGuard_keyboard (s : State) (stopTime : Nat) :
    (s.startGuard stopTime).keyboard = s.keyboard := rfl
@[simp] theorem State.startGuard_motor (s : State) (stopTime : Nat) : (s.startGuard stopTime).motor = s.motor := rfl
@[simp] theorem State.startGuard_link (s : State) (stopTime : Nat) : (s.startGuard stopTime).link = s.link := rfl
@[simp] theorem State.startGuard_isl (s : State) (stopTime : Nat) : (s.startGuard stopTime).isl = s.isl := rfl
@[simp] theorem State.startGuard_now (s : State) (stopTime : Nat) : (s.startGuard stopTime).now = s.now := rfl
@[simp] theorem State.startGuard_freeIndex (s : State) (stopTime : Nat) :
    (s.startGuard stopTime).freeIndex = s.freeIndex := rfl
@[simp] theorem State.startGuard_pending (s : State) (stopTime : Nat) :
    (s.startGuard stopTime).pending = s.pending := rfl
@[simp] theorem State.startGuard_lrx (s : State) (stopTime : Nat) :
    (s.startGuard stopTime).lrx = { s.lrx with guard := if s.timing.guard = 0 then none else some (stopTime + s.timing.guard * Config.tenMs) } := rfl

@[simp] theorem State.printPhase_store (s : State) (c : PrintCycle) (p : PrintPhase) :
    (s.printPhase c p).store = s.store := rfl
@[simp] theorem State.printPhase_routes (s : State) (c : PrintCycle) (p : PrintPhase) :
    (s.printPhase c p).routes = s.routes := rfl
@[simp] theorem State.printPhase_timing (s : State) (c : PrintCycle) (p : PrintPhase) :
    (s.printPhase c p).timing = s.timing := rfl
@[simp] theorem State.printPhase_lrx (s : State) (c : PrintCycle) (p : PrintPhase) :
    (s.printPhase c p).lrx = s.lrx := rfl
@[simp] theorem State.printPhase_ltx (s : State) (c : PrintCycle) (p : PrintPhase) :
    (s.printPhase c p).ltx = s.ltx := rfl
@[simp] theorem State.printPhase_call (s : State) (c : PrintCycle) (p : PrintPhase) :
    (s.printPhase c p).call = s.call := rfl
@[simp] theorem State.printPhase_file (s : State) (c : PrintCycle) (p : PrintPhase) :
    (s.printPhase c p).file = s.file := rfl
@[simp] theorem State.printPhase_punch (s : State) (c : PrintCycle) (p : PrintPhase) :
    (s.printPhase c p).punch = s.punch := rfl
@[simp] theorem State.printPhase_keyboard (s : State) (c : PrintCycle) (p : PrintPhase) :
    (s.printPhase c p).keyboard = s.keyboard := rfl
@[simp] theorem State.printPhase_motor (s : State) (c : PrintCycle) (p : PrintPhase) :
    (s.printPhase c p).motor = s.motor := rfl
@[simp] theorem State.printPhase_link (s : State) (c : PrintCycle) (p : PrintPhase) :
    (s.printPhase c p).link = s.link := rfl
@[simp] theorem State.printPhase_isl (s : State) (c : PrintCycle) (p : PrintPhase) :
    (s.printPhase c p).isl = s.isl := rfl
@[simp] theorem State.printPhase_now (s : State) (c : PrintCycle) (p : PrintPhase) :
    (s.printPhase c p).now = s.now := rfl
@[simp] theorem State.printPhase_freeIndex (s : State) (c : PrintCycle) (p : PrintPhase) :
    (s.printPhase c p).freeIndex = s.freeIndex := rfl
@[simp] theorem State.printPhase_pending (s : State) (c : PrintCycle) (p : PrintPhase) :
    (s.printPhase c p).pending = s.pending := rfl
@[simp] theorem State.printPhase_printer (s : State) (c : PrintCycle) (p : PrintPhase) :
    (s.printPhase c p).printer = { s.printer with cycle := some { c with phase := p } } := rfl

@[simp] theorem State.punchPhase_store (s : State) (c : PunchCycle) (p : PunchPhase) :
    (s.punchPhase c p).store = s.store := rfl
@[simp] theorem State.punchPhase_routes (s : State) (c : PunchCycle) (p : PunchPhase) :
    (s.punchPhase c p).routes = s.routes := rfl
@[simp] theorem State.punchPhase_timing (s : State) (c : PunchCycle) (p : PunchPhase) :
    (s.punchPhase c p).timing = s.timing := rfl
@[simp] theorem State.punchPhase_lrx (s : State) (c : PunchCycle) (p : PunchPhase) :
    (s.punchPhase c p).lrx = s.lrx := rfl
@[simp] theorem State.punchPhase_ltx (s : State) (c : PunchCycle) (p : PunchPhase) :
    (s.punchPhase c p).ltx = s.ltx := rfl
@[simp] theorem State.punchPhase_call (s : State) (c : PunchCycle) (p : PunchPhase) :
    (s.punchPhase c p).call = s.call := rfl
@[simp] theorem State.punchPhase_file (s : State) (c : PunchCycle) (p : PunchPhase) :
    (s.punchPhase c p).file = s.file := rfl
@[simp] theorem State.punchPhase_printer (s : State) (c : PunchCycle) (p : PunchPhase) :
    (s.punchPhase c p).printer = s.printer := rfl
@[simp] theorem State.punchPhase_keyboard (s : State) (c : PunchCycle) (p : PunchPhase) :
    (s.punchPhase c p).keyboard = s.keyboard := rfl
@[simp] theorem State.punchPhase_motor (s : State) (c : PunchCycle) (p : PunchPhase) :
    (s.punchPhase c p).motor = s.motor := rfl
@[simp] theorem State.punchPhase_link (s : State) (c : PunchCycle) (p : PunchPhase) :
    (s.punchPhase c p).link = s.link := rfl
@[simp] theorem State.punchPhase_isl (s : State) (c : PunchCycle) (p : PunchPhase) :
    (s.punchPhase c p).isl = s.isl := rfl
@[simp] theorem State.punchPhase_now (s : State) (c : PunchCycle) (p : PunchPhase) :
    (s.punchPhase c p).now = s.now := rfl
@[simp] theorem State.punchPhase_freeIndex (s : State) (c : PunchCycle) (p : PunchPhase) :
    (s.punchPhase c p).freeIndex = s.freeIndex := rfl
@[simp] theorem State.punchPhase_pending (s : State) (c : PunchCycle) (p : PunchPhase) :
    (s.punchPhase c p).pending = s.pending := rfl
@[simp] theorem State.punchPhase_punch (s : State) (c : PunchCycle) (p : PunchPhase) :
    (s.punchPhase c p).punch = { s.punch with cycle := some { c with phase := p } } := rfl

@[simp] theorem State.startFilter_store (s : State) (input : InputPin) (asserted : Bool) :
    (s.startFilter input asserted).store = s.store := by
  unfold State.startFilter; split <;> rfl
@[simp] theorem State.startFilter_routes (s : State) (input : InputPin) (asserted : Bool) :
    (s.startFilter input asserted).routes = s.routes := by
  unfold State.startFilter; split <;> rfl
@[simp] theorem State.startFilter_timing (s : State) (input : InputPin) (asserted : Bool) :
    (s.startFilter input asserted).timing = s.timing := by
  unfold State.startFilter; split <;> rfl
@[simp] theorem State.startFilter_lrx (s : State) (input : InputPin) (asserted : Bool) :
    (s.startFilter input asserted).lrx = s.lrx := by
  unfold State.startFilter; split <;> rfl
@[simp] theorem State.startFilter_ltx (s : State) (input : InputPin) (asserted : Bool) :
    (s.startFilter input asserted).ltx = s.ltx := by
  unfold State.startFilter; split <;> rfl
@[simp] theorem State.startFilter_call (s : State) (input : InputPin) (asserted : Bool) :
    (s.startFilter input asserted).call = s.call := by
  unfold State.startFilter; split <;> rfl
@[simp] theorem State.startFilter_file (s : State) (input : InputPin) (asserted : Bool) :
    (s.startFilter input asserted).file = s.file := by
  unfold State.startFilter; split <;> rfl
@[simp] theorem State.startFilter_keyboard (s : State) (input : InputPin) (asserted : Bool) :
    (s.startFilter input asserted).keyboard = s.keyboard := by
  unfold State.startFilter; split <;> rfl
@[simp] theorem State.startFilter_motor (s : State) (input : InputPin) (asserted : Bool) :
    (s.startFilter input asserted).motor = s.motor := by
  unfold State.startFilter; split <;> rfl
@[simp] theorem State.startFilter_link (s : State) (input : InputPin) (asserted : Bool) :
    (s.startFilter input asserted).link = s.link := by
  unfold State.startFilter; split <;> rfl
@[simp] theorem State.startFilter_isl (s : State) (input : InputPin) (asserted : Bool) :
    (s.startFilter input asserted).isl = s.isl := by
  unfold State.startFilter; split <;> rfl
@[simp] theorem State.startFilter_now (s : State) (input : InputPin) (asserted : Bool) :
    (s.startFilter input asserted).now = s.now := by
  unfold State.startFilter; split <;> rfl
@[simp] theorem State.startFilter_freeIndex (s : State) (input : InputPin) (asserted : Bool) :
    (s.startFilter input asserted).freeIndex = s.freeIndex := by
  unfold State.startFilter; split <;> rfl
@[simp] theorem State.startFilter_pending (s : State) (input : InputPin) (asserted : Bool) :
    (s.startFilter input asserted).pending = s.pending := by
  unfold State.startFilter; split <;> rfl

@[simp] theorem State.confirmPosition_store (s : State) (p : Fin 64) (down : Bool) :
    (s.confirmPosition p down).store = s.store := rfl
@[simp] theorem State.confirmPosition_routes (s : State) (p : Fin 64) (down : Bool) :
    (s.confirmPosition p down).routes = s.routes := rfl
@[simp] theorem State.confirmPosition_timing (s : State) (p : Fin 64) (down : Bool) :
    (s.confirmPosition p down).timing = s.timing := rfl
@[simp] theorem State.confirmPosition_lrx (s : State) (p : Fin 64) (down : Bool) :
    (s.confirmPosition p down).lrx = s.lrx := rfl
@[simp] theorem State.confirmPosition_ltx (s : State) (p : Fin 64) (down : Bool) :
    (s.confirmPosition p down).ltx = s.ltx := rfl
@[simp] theorem State.confirmPosition_call (s : State) (p : Fin 64) (down : Bool) :
    (s.confirmPosition p down).call = s.call := rfl
@[simp] theorem State.confirmPosition_file (s : State) (p : Fin 64) (down : Bool) :
    (s.confirmPosition p down).file = s.file := rfl
@[simp] theorem State.confirmPosition_printer (s : State) (p : Fin 64) (down : Bool) :
    (s.confirmPosition p down).printer = s.printer := rfl
@[simp] theorem State.confirmPosition_punch (s : State) (p : Fin 64) (down : Bool) :
    (s.confirmPosition p down).punch = s.punch := rfl
@[simp] theorem State.confirmPosition_motor (s : State) (p : Fin 64) (down : Bool) :
    (s.confirmPosition p down).motor = s.motor := rfl
@[simp] theorem State.confirmPosition_link (s : State) (p : Fin 64) (down : Bool) :
    (s.confirmPosition p down).link = s.link := rfl
@[simp] theorem State.confirmPosition_isl (s : State) (p : Fin 64) (down : Bool) :
    (s.confirmPosition p down).isl = s.isl := rfl
@[simp] theorem State.confirmPosition_now (s : State) (p : Fin 64) (down : Bool) :
    (s.confirmPosition p down).now = s.now := rfl
@[simp] theorem State.confirmPosition_freeIndex (s : State) (p : Fin 64) (down : Bool) :
    (s.confirmPosition p down).freeIndex = s.freeIndex := rfl
@[simp] theorem State.confirmPosition_pending (s : State) (p : Fin 64) (down : Bool) :
    (s.confirmPosition p down).pending = s.pending := rfl
@[simp] theorem State.confirmPosition_keyboard (s : State) (p : Fin 64) (down : Bool) :
    (s.confirmPosition p down).keyboard = { s.keyboard with positions := s.keyboard.positions.set p.val ((s.keyboard.position p).threeSamples down) } := rfl

@[simp] theorem State.acceptKey_store (s : State) (c : Code) : (s.acceptKey c).store = s.store := rfl
@[simp] theorem State.acceptKey_routes (s : State) (c : Code) : (s.acceptKey c).routes = s.routes := rfl
@[simp] theorem State.acceptKey_timing (s : State) (c : Code) : (s.acceptKey c).timing = s.timing := rfl
@[simp] theorem State.acceptKey_lrx (s : State) (c : Code) : (s.acceptKey c).lrx = s.lrx := rfl
@[simp] theorem State.acceptKey_ltx (s : State) (c : Code) : (s.acceptKey c).ltx = s.ltx := rfl
@[simp] theorem State.acceptKey_call (s : State) (c : Code) : (s.acceptKey c).call = s.call := rfl
@[simp] theorem State.acceptKey_file (s : State) (c : Code) : (s.acceptKey c).file = s.file := rfl
@[simp] theorem State.acceptKey_printer (s : State) (c : Code) : (s.acceptKey c).printer = s.printer := rfl
@[simp] theorem State.acceptKey_punch (s : State) (c : Code) : (s.acceptKey c).punch = s.punch := rfl
@[simp] theorem State.acceptKey_motor (s : State) (c : Code) : (s.acceptKey c).motor = s.motor := rfl
@[simp] theorem State.acceptKey_link (s : State) (c : Code) : (s.acceptKey c).link = s.link := rfl
@[simp] theorem State.acceptKey_isl (s : State) (c : Code) : (s.acceptKey c).isl = s.isl := rfl
@[simp] theorem State.acceptKey_now (s : State) (c : Code) : (s.acceptKey c).now = s.now := rfl
@[simp] theorem State.acceptKey_freeIndex (s : State) (c : Code) : (s.acceptKey c).freeIndex = s.freeIndex := rfl
@[simp] theorem State.acceptKey_pending (s : State) (c : Code) : (s.acceptKey c).pending = s.pending := rfl
@[simp] theorem State.acceptKey_keyboard (s : State) (c : Code) :
    (s.acceptKey c).keyboard = { s.keyboard with kbdCase := (s.fmap.shiftCase c).getD s.keyboard.kbdCase } := rfl

@[simp] theorem State.modeEffects_store (s : State) (before after : KeyboardMode) :
    (s.modeEffects before after).store = s.store := by
  unfold State.modeEffects; dsimp only; repeat' split
  all_goals rfl
@[simp] theorem State.modeEffects_timing (s : State) (before after : KeyboardMode) :
    (s.modeEffects before after).timing = s.timing := by
  unfold State.modeEffects; dsimp only; repeat' split
  all_goals rfl
@[simp] theorem State.modeEffects_lrx (s : State) (before after : KeyboardMode) :
    (s.modeEffects before after).lrx = s.lrx := by
  unfold State.modeEffects; dsimp only; repeat' split
  all_goals rfl
@[simp] theorem State.modeEffects_ltx (s : State) (before after : KeyboardMode) :
    (s.modeEffects before after).ltx = s.ltx := by
  unfold State.modeEffects; dsimp only; repeat' split
  all_goals rfl
@[simp] theorem State.modeEffects_call (s : State) (before after : KeyboardMode) :
    (s.modeEffects before after).call = s.call := by
  unfold State.modeEffects; dsimp only; repeat' split
  all_goals rfl
@[simp] theorem State.modeEffects_file (s : State) (before after : KeyboardMode) :
    (s.modeEffects before after).file = s.file := by
  unfold State.modeEffects; dsimp only; repeat' split
  all_goals rfl
@[simp] theorem State.modeEffects_printer (s : State) (before after : KeyboardMode) :
    (s.modeEffects before after).printer = s.printer := by
  unfold State.modeEffects; dsimp only; repeat' split
  all_goals rfl
@[simp] theorem State.modeEffects_keyboard (s : State) (before after : KeyboardMode) :
    (s.modeEffects before after).keyboard = s.keyboard := by
  unfold State.modeEffects; dsimp only; repeat' split
  all_goals rfl
@[simp] theorem State.modeEffects_motor (s : State) (before after : KeyboardMode) :
    (s.modeEffects before after).motor = s.motor := by
  unfold State.modeEffects; dsimp only; repeat' split
  all_goals rfl
@[simp] theorem State.modeEffects_link (s : State) (before after : KeyboardMode) :
    (s.modeEffects before after).link = s.link := by
  unfold State.modeEffects; dsimp only; repeat' split
  all_goals rfl
@[simp] theorem State.modeEffects_isl (s : State) (before after : KeyboardMode) :
    (s.modeEffects before after).isl = s.isl := by
  unfold State.modeEffects; dsimp only; repeat' split
  all_goals rfl
@[simp] theorem State.modeEffects_now (s : State) (before after : KeyboardMode) :
    (s.modeEffects before after).now = s.now := by
  unfold State.modeEffects; dsimp only; repeat' split
  all_goals rfl
@[simp] theorem State.modeEffects_freeIndex (s : State) (before after : KeyboardMode) :
    (s.modeEffects before after).freeIndex = s.freeIndex := by
  unfold State.modeEffects; dsimp only; repeat' split
  all_goals rfl
@[simp] theorem State.modeEffects_pending (s : State) (before after : KeyboardMode) :
    (s.modeEffects before after).pending = s.pending := by
  unfold State.modeEffects; dsimp only; repeat' split
  all_goals rfl

@[simp] theorem State.endFeed_store (s : State) : s.endFeed.store = s.store := rfl
@[simp] theorem State.endFeed_routes (s : State) : s.endFeed.routes = s.routes := rfl
@[simp] theorem State.endFeed_timing (s : State) : s.endFeed.timing = s.timing := rfl
@[simp] theorem State.endFeed_lrx (s : State) : s.endFeed.lrx = s.lrx := rfl
@[simp] theorem State.endFeed_ltx (s : State) : s.endFeed.ltx = s.ltx := rfl
@[simp] theorem State.endFeed_call (s : State) : s.endFeed.call = s.call := rfl
@[simp] theorem State.endFeed_file (s : State) : s.endFeed.file = s.file := rfl
@[simp] theorem State.endFeed_printer (s : State) : s.endFeed.printer = s.printer := rfl
@[simp] theorem State.endFeed_keyboard (s : State) : s.endFeed.keyboard = s.keyboard := rfl
@[simp] theorem State.endFeed_motor (s : State) : s.endFeed.motor = s.motor := rfl
@[simp] theorem State.endFeed_link (s : State) : s.endFeed.link = s.link := rfl
@[simp] theorem State.endFeed_isl (s : State) : s.endFeed.isl = s.isl := rfl
@[simp] theorem State.endFeed_now (s : State) : s.endFeed.now = s.now := rfl
@[simp] theorem State.endFeed_freeIndex (s : State) : s.endFeed.freeIndex = s.freeIndex := rfl
@[simp] theorem State.endFeed_pending (s : State) : s.endFeed.pending = s.pending := rfl
@[simp] theorem State.endFeed_punch (s : State) :
    s.endFeed.punch = { s.punch with feedHeld := false } := rfl

@[simp] theorem State.withStop_store (s : State) (pending : Bool) : (s.withStop pending).store = s.store := rfl
@[simp] theorem State.withStop_routes (s : State) (pending : Bool) : (s.withStop pending).routes = s.routes := rfl
@[simp] theorem State.withStop_timing (s : State) (pending : Bool) : (s.withStop pending).timing = s.timing := rfl
@[simp] theorem State.withStop_lrx (s : State) (pending : Bool) : (s.withStop pending).lrx = s.lrx := rfl
@[simp] theorem State.withStop_ltx (s : State) (pending : Bool) : (s.withStop pending).ltx = s.ltx := rfl
@[simp] theorem State.withStop_file (s : State) (pending : Bool) : (s.withStop pending).file = s.file := rfl
@[simp] theorem State.withStop_printer (s : State) (pending : Bool) : (s.withStop pending).printer = s.printer := rfl
@[simp] theorem State.withStop_punch (s : State) (pending : Bool) : (s.withStop pending).punch = s.punch := rfl
@[simp] theorem State.withStop_keyboard (s : State) (pending : Bool) :
    (s.withStop pending).keyboard = s.keyboard := rfl
@[simp] theorem State.withStop_motor (s : State) (pending : Bool) : (s.withStop pending).motor = s.motor := rfl
@[simp] theorem State.withStop_link (s : State) (pending : Bool) : (s.withStop pending).link = s.link := rfl
@[simp] theorem State.withStop_isl (s : State) (pending : Bool) : (s.withStop pending).isl = s.isl := rfl
@[simp] theorem State.withStop_now (s : State) (pending : Bool) : (s.withStop pending).now = s.now := rfl
@[simp] theorem State.withStop_freeIndex (s : State) (pending : Bool) :
    (s.withStop pending).freeIndex = s.freeIndex := rfl
@[simp] theorem State.withStop_pending (s : State) (pending : Bool) : (s.withStop pending).pending = s.pending := rfl
@[simp] theorem State.withStop_call (s : State) (pending : Bool) :
    (s.withStop pending).call = { s.call with stopPending := pending } := rfl

@[simp] theorem State.dropPrintCommitment_store (s : State) (n : PrintSpool) :
    (s.dropPrintCommitment n).store = s.store := by
  unfold State.dropPrintCommitment; split <;> rfl
@[simp] theorem State.dropPrintCommitment_routes (s : State) (n : PrintSpool) :
    (s.dropPrintCommitment n).routes = s.routes := by
  unfold State.dropPrintCommitment; split <;> rfl
@[simp] theorem State.dropPrintCommitment_timing (s : State) (n : PrintSpool) :
    (s.dropPrintCommitment n).timing = s.timing := by
  unfold State.dropPrintCommitment; split <;> rfl
@[simp] theorem State.dropPrintCommitment_lrx (s : State) (n : PrintSpool) :
    (s.dropPrintCommitment n).lrx = s.lrx := by
  unfold State.dropPrintCommitment; split <;> rfl
@[simp] theorem State.dropPrintCommitment_ltx (s : State) (n : PrintSpool) :
    (s.dropPrintCommitment n).ltx = s.ltx := by
  unfold State.dropPrintCommitment; split <;> rfl
@[simp] theorem State.dropPrintCommitment_call (s : State) (n : PrintSpool) :
    (s.dropPrintCommitment n).call = s.call := by
  unfold State.dropPrintCommitment; split <;> rfl
@[simp] theorem State.dropPrintCommitment_file (s : State) (n : PrintSpool) :
    (s.dropPrintCommitment n).file = s.file := by
  unfold State.dropPrintCommitment; split <;> rfl
@[simp] theorem State.dropPrintCommitment_punch (s : State) (n : PrintSpool) :
    (s.dropPrintCommitment n).punch = s.punch := by
  unfold State.dropPrintCommitment; split <;> rfl
@[simp] theorem State.dropPrintCommitment_keyboard (s : State) (n : PrintSpool) :
    (s.dropPrintCommitment n).keyboard = s.keyboard := by
  unfold State.dropPrintCommitment; split <;> rfl
@[simp] theorem State.dropPrintCommitment_motor (s : State) (n : PrintSpool) :
    (s.dropPrintCommitment n).motor = s.motor := by
  unfold State.dropPrintCommitment; split <;> rfl
@[simp] theorem State.dropPrintCommitment_link (s : State) (n : PrintSpool) :
    (s.dropPrintCommitment n).link = s.link := by
  unfold State.dropPrintCommitment; split <;> rfl
@[simp] theorem State.dropPrintCommitment_isl (s : State) (n : PrintSpool) :
    (s.dropPrintCommitment n).isl = s.isl := by
  unfold State.dropPrintCommitment; split <;> rfl
@[simp] theorem State.dropPrintCommitment_now (s : State) (n : PrintSpool) :
    (s.dropPrintCommitment n).now = s.now := by
  unfold State.dropPrintCommitment; split <;> rfl
@[simp] theorem State.dropPrintCommitment_freeIndex (s : State) (n : PrintSpool) :
    (s.dropPrintCommitment n).freeIndex = s.freeIndex := by
  unfold State.dropPrintCommitment; split <;> rfl
@[simp] theorem State.dropPrintCommitment_pending (s : State) (n : PrintSpool) :
    (s.dropPrintCommitment n).pending = s.pending := by
  unfold State.dropPrintCommitment; split <;> rfl

@[simp] theorem State.dropPunchWork_store (s : State) :
    s.dropPunchWork.store = s.store := by
  unfold State.dropPunchWork; dsimp only; repeat' split
  all_goals rfl
@[simp] theorem State.dropPunchWork_routes (s : State) :
    s.dropPunchWork.routes = s.routes := by
  unfold State.dropPunchWork; dsimp only; repeat' split
  all_goals rfl
@[simp] theorem State.dropPunchWork_timing (s : State) :
    s.dropPunchWork.timing = s.timing := by
  unfold State.dropPunchWork; dsimp only; repeat' split
  all_goals rfl
@[simp] theorem State.dropPunchWork_lrx (s : State) :
    s.dropPunchWork.lrx = s.lrx := by
  unfold State.dropPunchWork; dsimp only; repeat' split
  all_goals rfl
@[simp] theorem State.dropPunchWork_ltx (s : State) :
    s.dropPunchWork.ltx = s.ltx := by
  unfold State.dropPunchWork; dsimp only; repeat' split
  all_goals rfl
@[simp] theorem State.dropPunchWork_call (s : State) :
    s.dropPunchWork.call = s.call := by
  unfold State.dropPunchWork; dsimp only; repeat' split
  all_goals rfl
@[simp] theorem State.dropPunchWork_file (s : State) :
    s.dropPunchWork.file = s.file := by
  unfold State.dropPunchWork; dsimp only; repeat' split
  all_goals rfl
@[simp] theorem State.dropPunchWork_printer (s : State) :
    s.dropPunchWork.printer = s.printer := by
  unfold State.dropPunchWork; dsimp only; repeat' split
  all_goals rfl
@[simp] theorem State.dropPunchWork_keyboard (s : State) :
    s.dropPunchWork.keyboard = s.keyboard := by
  unfold State.dropPunchWork; dsimp only; repeat' split
  all_goals rfl
@[simp] theorem State.dropPunchWork_motor (s : State) :
    s.dropPunchWork.motor = s.motor := by
  unfold State.dropPunchWork; dsimp only; repeat' split
  all_goals rfl
@[simp] theorem State.dropPunchWork_link (s : State) :
    s.dropPunchWork.link = s.link := by
  unfold State.dropPunchWork; dsimp only; repeat' split
  all_goals rfl
@[simp] theorem State.dropPunchWork_isl (s : State) :
    s.dropPunchWork.isl = s.isl := by
  unfold State.dropPunchWork; dsimp only; repeat' split
  all_goals rfl
@[simp] theorem State.dropPunchWork_now (s : State) :
    s.dropPunchWork.now = s.now := by
  unfold State.dropPunchWork; dsimp only; repeat' split
  all_goals rfl
@[simp] theorem State.dropPunchWork_freeIndex (s : State) :
    s.dropPunchWork.freeIndex = s.freeIndex := by
  unfold State.dropPunchWork; dsimp only; repeat' split
  all_goals rfl
@[simp] theorem State.dropPunchWork_pending (s : State) :
    s.dropPunchWork.pending = s.pending := by
  unfold State.dropPunchWork; dsimp only; repeat' split
  all_goals rfl

@[simp] theorem State.deleteRecord_routes (s : State) (m : Message) : (s.deleteRecord m).routes = s.routes := rfl
@[simp] theorem State.deleteRecord_timing (s : State) (m : Message) : (s.deleteRecord m).timing = s.timing := rfl
@[simp] theorem State.deleteRecord_lrx (s : State) (m : Message) : (s.deleteRecord m).lrx = s.lrx := rfl
@[simp] theorem State.deleteRecord_ltx (s : State) (m : Message) : (s.deleteRecord m).ltx = s.ltx := rfl
@[simp] theorem State.deleteRecord_call (s : State) (m : Message) : (s.deleteRecord m).call = s.call := rfl
@[simp] theorem State.deleteRecord_printer (s : State) (m : Message) : (s.deleteRecord m).printer = s.printer := rfl
@[simp] theorem State.deleteRecord_punch (s : State) (m : Message) : (s.deleteRecord m).punch = s.punch := rfl
@[simp] theorem State.deleteRecord_keyboard (s : State) (m : Message) :
    (s.deleteRecord m).keyboard = s.keyboard := rfl
@[simp] theorem State.deleteRecord_motor (s : State) (m : Message) : (s.deleteRecord m).motor = s.motor := rfl
@[simp] theorem State.deleteRecord_link (s : State) (m : Message) : (s.deleteRecord m).link = s.link := rfl
@[simp] theorem State.deleteRecord_isl (s : State) (m : Message) : (s.deleteRecord m).isl = s.isl := rfl
@[simp] theorem State.deleteRecord_now (s : State) (m : Message) : (s.deleteRecord m).now = s.now := rfl
@[simp] theorem State.deleteRecord_freeIndex (s : State) (m : Message) :
    (s.deleteRecord m).freeIndex = s.freeIndex := rfl
@[simp] theorem State.deleteRecord_pending (s : State) (m : Message) : (s.deleteRecord m).pending = s.pending := rfl

@[simp] theorem State.withHold_store (s : State) (h : Bool) : (s.withHold h).store = s.store := rfl
@[simp] theorem State.withHold_routes (s : State) (h : Bool) : (s.withHold h).routes = s.routes := rfl
@[simp] theorem State.withHold_timing (s : State) (h : Bool) : (s.withHold h).timing = s.timing := rfl
@[simp] theorem State.withHold_lrx (s : State) (h : Bool) : (s.withHold h).lrx = s.lrx := rfl
@[simp] theorem State.withHold_ltx (s : State) (h : Bool) : (s.withHold h).ltx = s.ltx := rfl
@[simp] theorem State.withHold_call (s : State) (h : Bool) : (s.withHold h).call = s.call := rfl
@[simp] theorem State.withHold_file (s : State) (h : Bool) : (s.withHold h).file = s.file := rfl
@[simp] theorem State.withHold_punch (s : State) (h : Bool) : (s.withHold h).punch = s.punch := rfl
@[simp] theorem State.withHold_keyboard (s : State) (h : Bool) : (s.withHold h).keyboard = s.keyboard := rfl
@[simp] theorem State.withHold_motor (s : State) (h : Bool) : (s.withHold h).motor = s.motor := rfl
@[simp] theorem State.withHold_link (s : State) (h : Bool) : (s.withHold h).link = s.link := rfl
@[simp] theorem State.withHold_isl (s : State) (h : Bool) : (s.withHold h).isl = s.isl := rfl
@[simp] theorem State.withHold_now (s : State) (h : Bool) : (s.withHold h).now = s.now := rfl
@[simp] theorem State.withHold_freeIndex (s : State) (h : Bool) : (s.withHold h).freeIndex = s.freeIndex := rfl
@[simp] theorem State.withHold_pending (s : State) (h : Bool) : (s.withHold h).pending = s.pending := rfl
@[simp] theorem State.withHold_printer (s : State) (h : Bool) :
    (s.withHold h).printer = { s.printer with hold := h } := rfl

@[simp] theorem State.withSwitch_store (s : State) (on : Bool) : (s.withSwitch on).store = s.store := rfl
@[simp] theorem State.withSwitch_routes (s : State) (on : Bool) : (s.withSwitch on).routes = s.routes := rfl
@[simp] theorem State.withSwitch_timing (s : State) (on : Bool) : (s.withSwitch on).timing = s.timing := rfl
@[simp] theorem State.withSwitch_lrx (s : State) (on : Bool) : (s.withSwitch on).lrx = s.lrx := rfl
@[simp] theorem State.withSwitch_ltx (s : State) (on : Bool) : (s.withSwitch on).ltx = s.ltx := rfl
@[simp] theorem State.withSwitch_call (s : State) (on : Bool) : (s.withSwitch on).call = s.call := rfl
@[simp] theorem State.withSwitch_file (s : State) (on : Bool) : (s.withSwitch on).file = s.file := rfl
@[simp] theorem State.withSwitch_printer (s : State) (on : Bool) : (s.withSwitch on).printer = s.printer := rfl
@[simp] theorem State.withSwitch_keyboard (s : State) (on : Bool) : (s.withSwitch on).keyboard = s.keyboard := rfl
@[simp] theorem State.withSwitch_motor (s : State) (on : Bool) : (s.withSwitch on).motor = s.motor := rfl
@[simp] theorem State.withSwitch_link (s : State) (on : Bool) : (s.withSwitch on).link = s.link := rfl
@[simp] theorem State.withSwitch_isl (s : State) (on : Bool) : (s.withSwitch on).isl = s.isl := rfl
@[simp] theorem State.withSwitch_now (s : State) (on : Bool) : (s.withSwitch on).now = s.now := rfl
@[simp] theorem State.withSwitch_freeIndex (s : State) (on : Bool) : (s.withSwitch on).freeIndex = s.freeIndex := rfl
@[simp] theorem State.withSwitch_pending (s : State) (on : Bool) : (s.withSwitch on).pending = s.pending := rfl
@[simp] theorem State.withSwitch_punch (s : State) (on : Bool) :
    (s.withSwitch on).punch = { s.punch with switch := on } := rfl

@[simp] theorem State.handOverValues_store (s : State) (l : Loaded) : (s.handOverValues l).store = s.store := rfl
@[simp] theorem State.handOverValues_lrx (s : State) (l : Loaded) : (s.handOverValues l).lrx = s.lrx := rfl
@[simp] theorem State.handOverValues_ltx (s : State) (l : Loaded) : (s.handOverValues l).ltx = s.ltx := rfl
@[simp] theorem State.handOverValues_call (s : State) (l : Loaded) : (s.handOverValues l).call = s.call := rfl
@[simp] theorem State.handOverValues_file (s : State) (l : Loaded) : (s.handOverValues l).file = s.file := rfl
@[simp] theorem State.handOverValues_punch (s : State) (l : Loaded) : (s.handOverValues l).punch = s.punch := rfl
@[simp] theorem State.handOverValues_keyboard (s : State) (l : Loaded) :
    (s.handOverValues l).keyboard = s.keyboard := rfl
@[simp] theorem State.handOverValues_motor (s : State) (l : Loaded) : (s.handOverValues l).motor = s.motor := rfl
@[simp] theorem State.handOverValues_link (s : State) (l : Loaded) : (s.handOverValues l).link = s.link := rfl
@[simp] theorem State.handOverValues_isl (s : State) (l : Loaded) : (s.handOverValues l).isl = s.isl := rfl
@[simp] theorem State.handOverValues_now (s : State) (l : Loaded) : (s.handOverValues l).now = s.now := rfl
@[simp] theorem State.handOverValues_freeIndex (s : State) (l : Loaded) :
    (s.handOverValues l).freeIndex = s.freeIndex := rfl
@[simp] theorem State.handOverValues_pending (s : State) (l : Loaded) :
    (s.handOverValues l).pending = s.pending := rfl

@[simp] theorem State.startLoading_store (s : State) (occasion : LoadOccasion) :
    (s.startLoading occasion).store = s.store := rfl
@[simp] theorem State.startLoading_routes (s : State) (occasion : LoadOccasion) :
    (s.startLoading occasion).routes = s.routes := rfl
@[simp] theorem State.startLoading_timing (s : State) (occasion : LoadOccasion) :
    (s.startLoading occasion).timing = s.timing := rfl
@[simp] theorem State.startLoading_lrx (s : State) (occasion : LoadOccasion) :
    (s.startLoading occasion).lrx = s.lrx := rfl
@[simp] theorem State.startLoading_ltx (s : State) (occasion : LoadOccasion) :
    (s.startLoading occasion).ltx = s.ltx := rfl
@[simp] theorem State.startLoading_call (s : State) (occasion : LoadOccasion) :
    (s.startLoading occasion).call = s.call := rfl
@[simp] theorem State.startLoading_file (s : State) (occasion : LoadOccasion) :
    (s.startLoading occasion).file = s.file := rfl
@[simp] theorem State.startLoading_printer (s : State) (occasion : LoadOccasion) :
    (s.startLoading occasion).printer = s.printer := rfl
@[simp] theorem State.startLoading_punch (s : State) (occasion : LoadOccasion) :
    (s.startLoading occasion).punch = s.punch := rfl
@[simp] theorem State.startLoading_motor (s : State) (occasion : LoadOccasion) :
    (s.startLoading occasion).motor = s.motor := rfl
@[simp] theorem State.startLoading_link (s : State) (occasion : LoadOccasion) :
    (s.startLoading occasion).link = s.link := rfl
@[simp] theorem State.startLoading_now (s : State) (occasion : LoadOccasion) :
    (s.startLoading occasion).now = s.now := rfl
@[simp] theorem State.startLoading_freeIndex (s : State) (occasion : LoadOccasion) :
    (s.startLoading occasion).freeIndex = s.freeIndex := rfl
@[simp] theorem State.startLoading_pending (s : State) (occasion : LoadOccasion) :
    (s.startLoading occasion).pending = s.pending := rfl

@[simp] theorem State.emptyNotices_store (s : State) : s.emptyNotices.store = s.store := rfl
@[simp] theorem State.emptyNotices_routes (s : State) : s.emptyNotices.routes = s.routes := rfl
@[simp] theorem State.emptyNotices_timing (s : State) : s.emptyNotices.timing = s.timing := rfl
@[simp] theorem State.emptyNotices_lrx (s : State) : s.emptyNotices.lrx = s.lrx := rfl
@[simp] theorem State.emptyNotices_ltx (s : State) : s.emptyNotices.ltx = s.ltx := rfl
@[simp] theorem State.emptyNotices_call (s : State) : s.emptyNotices.call = s.call := rfl
@[simp] theorem State.emptyNotices_file (s : State) : s.emptyNotices.file = s.file := rfl
@[simp] theorem State.emptyNotices_printer (s : State) : s.emptyNotices.printer = s.printer := rfl
@[simp] theorem State.emptyNotices_punch (s : State) : s.emptyNotices.punch = s.punch := rfl
@[simp] theorem State.emptyNotices_keyboard (s : State) : s.emptyNotices.keyboard = s.keyboard := rfl
@[simp] theorem State.emptyNotices_motor (s : State) : s.emptyNotices.motor = s.motor := rfl
@[simp] theorem State.emptyNotices_isl (s : State) : s.emptyNotices.isl = s.isl := rfl
@[simp] theorem State.emptyNotices_now (s : State) : s.emptyNotices.now = s.now := rfl
@[simp] theorem State.emptyNotices_freeIndex (s : State) : s.emptyNotices.freeIndex = s.freeIndex := rfl
@[simp] theorem State.emptyNotices_pending (s : State) : s.emptyNotices.pending = s.pending := rfl
@[simp] theorem State.emptyNotices_link (s : State) :
    s.emptyNotices.link = { s.link with notices := [], lostMark := false } := rfl

@[simp] theorem State.restartKeyboard_store (s : State) : s.restartKeyboard.store = s.store := rfl
@[simp] theorem State.restartKeyboard_routes (s : State) : s.restartKeyboard.routes = s.routes := rfl
@[simp] theorem State.restartKeyboard_timing (s : State) : s.restartKeyboard.timing = s.timing := rfl
@[simp] theorem State.restartKeyboard_lrx (s : State) : s.restartKeyboard.lrx = s.lrx := rfl
@[simp] theorem State.restartKeyboard_ltx (s : State) : s.restartKeyboard.ltx = s.ltx := rfl
@[simp] theorem State.restartKeyboard_call (s : State) : s.restartKeyboard.call = s.call := rfl
@[simp] theorem State.restartKeyboard_file (s : State) : s.restartKeyboard.file = s.file := rfl
@[simp] theorem State.restartKeyboard_printer (s : State) : s.restartKeyboard.printer = s.printer := rfl
@[simp] theorem State.restartKeyboard_punch (s : State) : s.restartKeyboard.punch = s.punch := rfl
@[simp] theorem State.restartKeyboard_motor (s : State) : s.restartKeyboard.motor = s.motor := rfl
@[simp] theorem State.restartKeyboard_link (s : State) : s.restartKeyboard.link = s.link := rfl
@[simp] theorem State.restartKeyboard_isl (s : State) : s.restartKeyboard.isl = s.isl := rfl
@[simp] theorem State.restartKeyboard_now (s : State) : s.restartKeyboard.now = s.now := rfl
@[simp] theorem State.restartKeyboard_freeIndex (s : State) : s.restartKeyboard.freeIndex = s.freeIndex := rfl
@[simp] theorem State.restartKeyboard_pending (s : State) : s.restartKeyboard.pending = s.pending := rfl
@[simp] theorem State.restartKeyboard_keyboard (s : State) :
    s.restartKeyboard.keyboard = { s.keyboard with kbdCase := .letters } := rfl

@[simp] theorem State.writeOption_store (s : State) (n : OptionName) (v : Nat) :
    (s.writeOption n v).store = s.store := rfl
@[simp] theorem State.writeOption_routes (s : State) (n : OptionName) (v : Nat) :
    (s.writeOption n v).routes = s.routes := rfl
@[simp] theorem State.writeOption_timing (s : State) (n : OptionName) (v : Nat) :
    (s.writeOption n v).timing = s.timing := rfl
@[simp] theorem State.writeOption_lrx (s : State) (n : OptionName) (v : Nat) : (s.writeOption n v).lrx = s.lrx := rfl
@[simp] theorem State.writeOption_ltx (s : State) (n : OptionName) (v : Nat) : (s.writeOption n v).ltx = s.ltx := rfl
@[simp] theorem State.writeOption_call (s : State) (n : OptionName) (v : Nat) :
    (s.writeOption n v).call = s.call := rfl
@[simp] theorem State.writeOption_file (s : State) (n : OptionName) (v : Nat) :
    (s.writeOption n v).file = s.file := rfl
@[simp] theorem State.writeOption_printer (s : State) (n : OptionName) (v : Nat) :
    (s.writeOption n v).printer = s.printer := rfl
@[simp] theorem State.writeOption_punch (s : State) (n : OptionName) (v : Nat) :
    (s.writeOption n v).punch = s.punch := rfl
@[simp] theorem State.writeOption_keyboard (s : State) (n : OptionName) (v : Nat) :
    (s.writeOption n v).keyboard = s.keyboard := rfl
@[simp] theorem State.writeOption_motor (s : State) (n : OptionName) (v : Nat) :
    (s.writeOption n v).motor = s.motor := rfl
@[simp] theorem State.writeOption_link (s : State) (n : OptionName) (v : Nat) :
    (s.writeOption n v).link = s.link := rfl
@[simp] theorem State.writeOption_now (s : State) (n : OptionName) (v : Nat) : (s.writeOption n v).now = s.now := rfl
@[simp] theorem State.writeOption_freeIndex (s : State) (n : OptionName) (v : Nat) :
    (s.writeOption n v).freeIndex = s.freeIndex := rfl
@[simp] theorem State.writeOption_pending (s : State) (n : OptionName) (v : Nat) :
    (s.writeOption n v).pending = s.pending := rfl
@[simp] theorem State.writeOption_isl (s : State) (n : OptionName) (v : Nat) :
    (s.writeOption n v).isl = { s.isl with options := optionSet s.isl.options n v } := rfl

@[simp] theorem State.beginStore_store (s : State) (op : StoreOp) : (s.beginStore op).store = s.store := rfl
@[simp] theorem State.beginStore_routes (s : State) (op : StoreOp) : (s.beginStore op).routes = s.routes := rfl
@[simp] theorem State.beginStore_timing (s : State) (op : StoreOp) : (s.beginStore op).timing = s.timing := rfl
@[simp] theorem State.beginStore_lrx (s : State) (op : StoreOp) : (s.beginStore op).lrx = s.lrx := rfl
@[simp] theorem State.beginStore_ltx (s : State) (op : StoreOp) : (s.beginStore op).ltx = s.ltx := rfl
@[simp] theorem State.beginStore_call (s : State) (op : StoreOp) : (s.beginStore op).call = s.call := rfl
@[simp] theorem State.beginStore_file (s : State) (op : StoreOp) : (s.beginStore op).file = s.file := rfl
@[simp] theorem State.beginStore_printer (s : State) (op : StoreOp) : (s.beginStore op).printer = s.printer := rfl
@[simp] theorem State.beginStore_punch (s : State) (op : StoreOp) : (s.beginStore op).punch = s.punch := rfl
@[simp] theorem State.beginStore_keyboard (s : State) (op : StoreOp) : (s.beginStore op).keyboard = s.keyboard := rfl
@[simp] theorem State.beginStore_motor (s : State) (op : StoreOp) : (s.beginStore op).motor = s.motor := rfl
@[simp] theorem State.beginStore_link (s : State) (op : StoreOp) : (s.beginStore op).link = s.link := rfl
@[simp] theorem State.beginStore_now (s : State) (op : StoreOp) : (s.beginStore op).now = s.now := rfl
@[simp] theorem State.beginStore_freeIndex (s : State) (op : StoreOp) :
    (s.beginStore op).freeIndex = s.freeIndex := rfl
@[simp] theorem State.beginStore_pending (s : State) (op : StoreOp) : (s.beginStore op).pending = s.pending := rfl
@[simp] theorem State.beginStore_isl (s : State) (op : StoreOp) :
    (s.beginStore op).isl = { s.isl with storeOp := some op } := rfl

@[simp] theorem State.endStore_store (s : State) : s.endStore.store = s.store := rfl
@[simp] theorem State.endStore_routes (s : State) : s.endStore.routes = s.routes := rfl
@[simp] theorem State.endStore_timing (s : State) : s.endStore.timing = s.timing := rfl
@[simp] theorem State.endStore_lrx (s : State) : s.endStore.lrx = s.lrx := rfl
@[simp] theorem State.endStore_ltx (s : State) : s.endStore.ltx = s.ltx := rfl
@[simp] theorem State.endStore_call (s : State) : s.endStore.call = s.call := rfl
@[simp] theorem State.endStore_file (s : State) : s.endStore.file = s.file := rfl
@[simp] theorem State.endStore_printer (s : State) : s.endStore.printer = s.printer := rfl
@[simp] theorem State.endStore_punch (s : State) : s.endStore.punch = s.punch := rfl
@[simp] theorem State.endStore_keyboard (s : State) : s.endStore.keyboard = s.keyboard := rfl
@[simp] theorem State.endStore_motor (s : State) : s.endStore.motor = s.motor := rfl
@[simp] theorem State.endStore_link (s : State) : s.endStore.link = s.link := rfl
@[simp] theorem State.endStore_now (s : State) : s.endStore.now = s.now := rfl
@[simp] theorem State.endStore_freeIndex (s : State) : s.endStore.freeIndex = s.freeIndex := rfl
@[simp] theorem State.endStore_pending (s : State) : s.endStore.pending = s.pending := rfl
@[simp] theorem State.endStore_isl (s : State) :
    s.endStore.isl = { s.isl with storeOp := none } := rfl

@[simp] theorem State.awaitReply_store (s : State) : s.awaitReply.store = s.store := rfl
@[simp] theorem State.awaitReply_routes (s : State) : s.awaitReply.routes = s.routes := rfl
@[simp] theorem State.awaitReply_timing (s : State) : s.awaitReply.timing = s.timing := rfl
@[simp] theorem State.awaitReply_lrx (s : State) : s.awaitReply.lrx = s.lrx := rfl
@[simp] theorem State.awaitReply_ltx (s : State) : s.awaitReply.ltx = s.ltx := rfl
@[simp] theorem State.awaitReply_call (s : State) : s.awaitReply.call = s.call := rfl
@[simp] theorem State.awaitReply_file (s : State) : s.awaitReply.file = s.file := rfl
@[simp] theorem State.awaitReply_printer (s : State) : s.awaitReply.printer = s.printer := rfl
@[simp] theorem State.awaitReply_punch (s : State) : s.awaitReply.punch = s.punch := rfl
@[simp] theorem State.awaitReply_keyboard (s : State) : s.awaitReply.keyboard = s.keyboard := rfl
@[simp] theorem State.awaitReply_motor (s : State) : s.awaitReply.motor = s.motor := rfl
@[simp] theorem State.awaitReply_isl (s : State) : s.awaitReply.isl = s.isl := rfl
@[simp] theorem State.awaitReply_now (s : State) : s.awaitReply.now = s.now := rfl
@[simp] theorem State.awaitReply_freeIndex (s : State) : s.awaitReply.freeIndex = s.freeIndex := rfl
@[simp] theorem State.awaitReply_pending (s : State) : s.awaitReply.pending = s.pending := rfl
@[simp] theorem State.awaitReply_link (s : State) :
    s.awaitReply.link = { s.link with pendingReply := .awaited none } := rfl

@[simp] theorem State.withInbound_store (s : State) (i : Inbound) : (s.withInbound i).store = s.store := rfl
@[simp] theorem State.withInbound_routes (s : State) (i : Inbound) : (s.withInbound i).routes = s.routes := rfl
@[simp] theorem State.withInbound_timing (s : State) (i : Inbound) : (s.withInbound i).timing = s.timing := rfl
@[simp] theorem State.withInbound_lrx (s : State) (i : Inbound) : (s.withInbound i).lrx = s.lrx := rfl
@[simp] theorem State.withInbound_ltx (s : State) (i : Inbound) : (s.withInbound i).ltx = s.ltx := rfl
@[simp] theorem State.withInbound_call (s : State) (i : Inbound) : (s.withInbound i).call = s.call := rfl
@[simp] theorem State.withInbound_file (s : State) (i : Inbound) : (s.withInbound i).file = s.file := rfl
@[simp] theorem State.withInbound_printer (s : State) (i : Inbound) : (s.withInbound i).printer = s.printer := rfl
@[simp] theorem State.withInbound_punch (s : State) (i : Inbound) : (s.withInbound i).punch = s.punch := rfl
@[simp] theorem State.withInbound_keyboard (s : State) (i : Inbound) : (s.withInbound i).keyboard = s.keyboard := rfl
@[simp] theorem State.withInbound_motor (s : State) (i : Inbound) : (s.withInbound i).motor = s.motor := rfl
@[simp] theorem State.withInbound_isl (s : State) (i : Inbound) : (s.withInbound i).isl = s.isl := rfl
@[simp] theorem State.withInbound_now (s : State) (i : Inbound) : (s.withInbound i).now = s.now := rfl
@[simp] theorem State.withInbound_freeIndex (s : State) (i : Inbound) :
    (s.withInbound i).freeIndex = s.freeIndex := rfl
@[simp] theorem State.withInbound_pending (s : State) (i : Inbound) : (s.withInbound i).pending = s.pending := rfl
@[simp] theorem State.withInbound_link (s : State) (i : Inbound) :
    (s.withInbound i).link = { s.link with inbound := i } := rfl

@[simp] theorem State.settleAt_routes (s : State) (m : Mechanism) (elapsed : Nat) (phase : SettlePhase) :
    (s.settleAt m elapsed phase).routes = s.routes := by cases m <;> rfl
@[simp] theorem State.settleAt_timing (s : State) (m : Mechanism) (elapsed : Nat) (phase : SettlePhase) :
    (s.settleAt m elapsed phase).timing = s.timing := by cases m <;> rfl
@[simp] theorem State.settleAt_lrx (s : State) (m : Mechanism) (elapsed : Nat) (phase : SettlePhase) :
    (s.settleAt m elapsed phase).lrx = s.lrx := by cases m <;> rfl
@[simp] theorem State.settleAt_ltx (s : State) (m : Mechanism) (elapsed : Nat) (phase : SettlePhase) :
    (s.settleAt m elapsed phase).ltx = s.ltx := by cases m <;> rfl
@[simp] theorem State.settleAt_call (s : State) (m : Mechanism) (elapsed : Nat) (phase : SettlePhase) :
    (s.settleAt m elapsed phase).call = s.call := by cases m <;> rfl
@[simp] theorem State.settleAt_file (s : State) (m : Mechanism) (elapsed : Nat) (phase : SettlePhase) :
    (s.settleAt m elapsed phase).file = s.file := by cases m <;> rfl
@[simp] theorem State.settleAt_printer (s : State) (m : Mechanism) (elapsed : Nat) (phase : SettlePhase) :
    (s.settleAt m elapsed phase).printer = s.printer := by cases m <;> rfl
@[simp] theorem State.settleAt_punch (s : State) (m : Mechanism) (elapsed : Nat) (phase : SettlePhase) :
    (s.settleAt m elapsed phase).punch = s.punch := by cases m <;> rfl
@[simp] theorem State.settleAt_keyboard (s : State) (m : Mechanism) (elapsed : Nat) (phase : SettlePhase) :
    (s.settleAt m elapsed phase).keyboard = s.keyboard := by cases m <;> rfl
@[simp] theorem State.settleAt_link (s : State) (m : Mechanism) (elapsed : Nat) (phase : SettlePhase) :
    (s.settleAt m elapsed phase).link = s.link := by cases m <;> rfl
@[simp] theorem State.settleAt_isl (s : State) (m : Mechanism) (elapsed : Nat) (phase : SettlePhase) :
    (s.settleAt m elapsed phase).isl = s.isl := by cases m <;> rfl
@[simp] theorem State.settleAt_freeIndex (s : State) (m : Mechanism) (elapsed : Nat) (phase : SettlePhase) :
    (s.settleAt m elapsed phase).freeIndex = s.freeIndex := by cases m <;> rfl
@[simp] theorem State.settleAt_pending (s : State) (m : Mechanism) (elapsed : Nat) (phase : SettlePhase) :
    (s.settleAt m elapsed phase).pending = s.pending := by cases m <;> rfl
@[simp] theorem State.settleAt_store (s : State) (m : Mechanism) (elapsed : Nat) (phase : SettlePhase) :
    (s.settleAt m elapsed phase).store = s.store := by cases m <;> rfl
@[simp] theorem Keyboard.takeReading_positions (k : Keyboard) (p : Fin 64) (pass : Nat) :
    (k.takeReading p pass).positions = k.positions := rfl
@[simp] theorem Keyboard.takeReading_mode (k : Keyboard) (p : Fin 64) (pass : Nat) :
    (k.takeReading p pass).mode = k.mode := rfl
@[simp] theorem Keyboard.takeReading_kbdCase (k : Keyboard) (p : Fin 64) (pass : Nat) :
    (k.takeReading p pass).kbdCase = k.kbdCase := rfl
@[simp] theorem Keyboard.takeReading_scanStart (k : Keyboard) (p : Fin 64) (pass : Nat) :
    (k.takeReading p pass).scanStart = k.scanStart := rfl
@[simp] theorem State.atReading_store (s : State) (p : Fin 64) : (s.atReading p).store = s.store := by
  unfold State.atReading; split <;> rfl
@[simp] theorem State.atReading_routes (s : State) (p : Fin 64) : (s.atReading p).routes = s.routes := by
  unfold State.atReading; split <;> rfl
@[simp] theorem State.atReading_timing (s : State) (p : Fin 64) : (s.atReading p).timing = s.timing := by
  unfold State.atReading; split <;> rfl
@[simp] theorem State.atReading_lrx (s : State) (p : Fin 64) : (s.atReading p).lrx = s.lrx := by
  unfold State.atReading; split <;> rfl
@[simp] theorem State.atReading_ltx (s : State) (p : Fin 64) : (s.atReading p).ltx = s.ltx := by
  unfold State.atReading; split <;> rfl
@[simp] theorem State.atReading_call (s : State) (p : Fin 64) : (s.atReading p).call = s.call := by
  unfold State.atReading; split <;> rfl
@[simp] theorem State.atReading_file (s : State) (p : Fin 64) : (s.atReading p).file = s.file := by
  unfold State.atReading; split <;> rfl
@[simp] theorem State.atReading_printer (s : State) (p : Fin 64) : (s.atReading p).printer = s.printer := by
  unfold State.atReading; split <;> rfl
@[simp] theorem State.atReading_punch (s : State) (p : Fin 64) : (s.atReading p).punch = s.punch := by
  unfold State.atReading; split <;> rfl
@[simp] theorem State.atReading_motor (s : State) (p : Fin 64) : (s.atReading p).motor = s.motor := by
  unfold State.atReading; split <;> rfl
@[simp] theorem State.atReading_link (s : State) (p : Fin 64) : (s.atReading p).link = s.link := by
  unfold State.atReading; split <;> rfl
@[simp] theorem State.atReading_isl (s : State) (p : Fin 64) : (s.atReading p).isl = s.isl := by
  unfold State.atReading; split <;> rfl
@[simp] theorem State.atReading_freeIndex (s : State) (p : Fin 64) : (s.atReading p).freeIndex = s.freeIndex := by
  unfold State.atReading; split <;> rfl
@[simp] theorem State.atReading_pending (s : State) (p : Fin 64) : (s.atReading p).pending = s.pending := by
  unfold State.atReading; split <;> rfl
@[simp] theorem State.atReading_positions (s : State) (p : Fin 64) :
    (s.atReading p).keyboard.positions = s.keyboard.positions := by
  unfold State.atReading; split <;> rfl
@[simp] theorem State.atReading_mode (s : State) (p : Fin 64) :
    (s.atReading p).keyboard.mode = s.keyboard.mode := by
  unfold State.atReading; split <;> rfl
@[simp] theorem State.atReading_kbdCase (s : State) (p : Fin 64) :
    (s.atReading p).keyboard.kbdCase = s.keyboard.kbdCase := by
  unfold State.atReading; split <;> rfl
@[simp] theorem State.atReading_scanStart (s : State) (p : Fin 64) :
    (s.atReading p).keyboard.scanStart = s.keyboard.scanStart := by
  unfold State.atReading; split <;> rfl
@[simp] theorem State.atReading_now (s : State) (p : Fin 64) : (s.atReading p).now = s.keyboard.scanStart.elim s.now
    fun t => max s.now (t + stepTicks (s.keyboard.readingPass p (s.now - t)) (columnOf p)) := by
  unfold State.atReading; split <;> simp_all [State.advance]
@[simp] theorem State.tellPrinter_store (s : State) : s.tellPrinter.store = s.store := by
  unfold State.tellPrinter; split <;> rfl
@[simp] theorem State.tellPrinter_routes (s : State) : s.tellPrinter.routes = s.routes := by
  unfold State.tellPrinter; split <;> rfl
@[simp] theorem State.tellPrinter_timing (s : State) : s.tellPrinter.timing = s.timing := by
  unfold State.tellPrinter; split <;> rfl
@[simp] theorem State.tellPrinter_lrx (s : State) : s.tellPrinter.lrx = s.lrx := by
  unfold State.tellPrinter; split <;> rfl
@[simp] theorem State.tellPrinter_ltx (s : State) : s.tellPrinter.ltx = s.ltx := by
  unfold State.tellPrinter; split <;> rfl
@[simp] theorem State.tellPrinter_call (s : State) : s.tellPrinter.call = s.call := by
  unfold State.tellPrinter; split <;> rfl
@[simp] theorem State.tellPrinter_file (s : State) : s.tellPrinter.file = s.file := by
  unfold State.tellPrinter; split <;> rfl
@[simp] theorem State.tellPrinter_printer (s : State) : s.tellPrinter.printer = s.printer := by
  unfold State.tellPrinter; split <;> rfl
@[simp] theorem State.tellPrinter_punch (s : State) : s.tellPrinter.punch = s.punch := by
  unfold State.tellPrinter; split <;> rfl
@[simp] theorem State.tellPrinter_keyboard (s : State) : s.tellPrinter.keyboard = s.keyboard := by
  unfold State.tellPrinter; split <;> rfl
@[simp] theorem State.tellPrinter_link (s : State) : s.tellPrinter.link = s.link := by
  unfold State.tellPrinter; split <;> rfl
@[simp] theorem State.tellPrinter_isl (s : State) : s.tellPrinter.isl = s.isl := by
  unfold State.tellPrinter; split <;> rfl
@[simp] theorem State.tellPrinter_now (s : State) : s.tellPrinter.now = s.now := by
  unfold State.tellPrinter; split <;> rfl
@[simp] theorem State.tellPrinter_freeIndex (s : State) : s.tellPrinter.freeIndex = s.freeIndex := by
  unfold State.tellPrinter; split <;> rfl
@[simp] theorem State.tellPrinter_pending (s : State) : s.tellPrinter.pending = s.pending := by
  unfold State.tellPrinter; split <;> rfl
@[simp] theorem State.reviewWithdrawn_store (s : State) : s.reviewWithdrawn.store = s.store := by
  unfold State.reviewWithdrawn; split <;> simp
@[simp] theorem State.reviewWithdrawn_routes (s : State) : s.reviewWithdrawn.routes = s.routes := by
  unfold State.reviewWithdrawn; split <;> simp
@[simp] theorem State.reviewWithdrawn_timing (s : State) : s.reviewWithdrawn.timing = s.timing := by
  unfold State.reviewWithdrawn; split <;> simp
@[simp] theorem State.reviewWithdrawn_lrx (s : State) : s.reviewWithdrawn.lrx = s.lrx := by
  unfold State.reviewWithdrawn; split <;> simp
@[simp] theorem State.reviewWithdrawn_ltx (s : State) : s.reviewWithdrawn.ltx = s.ltx := by
  unfold State.reviewWithdrawn; split <;> simp
@[simp] theorem State.reviewWithdrawn_call (s : State) : s.reviewWithdrawn.call = s.call := by
  unfold State.reviewWithdrawn; split <;> simp
@[simp] theorem State.reviewWithdrawn_file (s : State) : s.reviewWithdrawn.file = s.file := by
  unfold State.reviewWithdrawn; split <;> simp
@[simp] theorem State.reviewWithdrawn_printer (s : State) : s.reviewWithdrawn.printer = s.printer := by
  unfold State.reviewWithdrawn; split <;> simp
@[simp] theorem State.reviewWithdrawn_punch (s : State) : s.reviewWithdrawn.punch = s.punch := by
  unfold State.reviewWithdrawn; split <;> simp
@[simp] theorem State.reviewWithdrawn_keyboard (s : State) : s.reviewWithdrawn.keyboard = s.keyboard := by
  unfold State.reviewWithdrawn; split <;> simp
@[simp] theorem State.reviewWithdrawn_link (s : State) : s.reviewWithdrawn.link = s.link := by
  unfold State.reviewWithdrawn; split <;> simp
@[simp] theorem State.reviewWithdrawn_isl (s : State) : s.reviewWithdrawn.isl = s.isl := by
  unfold State.reviewWithdrawn; split <;> simp
@[simp] theorem State.reviewWithdrawn_now (s : State) : s.reviewWithdrawn.now = s.now := by
  unfold State.reviewWithdrawn; split <;> simp
@[simp] theorem State.reviewWithdrawn_freeIndex (s : State) : s.reviewWithdrawn.freeIndex = s.freeIndex := by
  unfold State.reviewWithdrawn; split <;> simp
@[simp] theorem State.reviewWithdrawn_pending (s : State) : s.reviewWithdrawn.pending = s.pending := by
  unfold State.reviewWithdrawn; split <;> simp
@[simp] theorem State.tellPrinter_demand (s : State) : s.tellPrinter.motor.demand = s.motor.demand := by
  unfold State.tellPrinter; split <;> rfl
@[simp] theorem State.tellPrinter_state (s : State) : s.tellPrinter.motor.state = s.motor.state := by
  unfold State.tellPrinter; split <;> rfl
@[simp] theorem State.tellPrinter_printTiming (s : State) : s.tellPrinter.motor.printTiming = s.motor.printTiming := by
  unfold State.tellPrinter; split <;> rfl
@[simp] theorem State.tellPrinter_punchTiming (s : State) : s.tellPrinter.motor.punchTiming = s.motor.punchTiming := by
  unfold State.tellPrinter; split <;> rfl
@[simp] theorem State.tellPrinter_bell (s : State) : s.tellPrinter.motor.bell = s.motor.bell := by
  unfold State.tellPrinter; split <;> rfl
@[simp] theorem State.reviewWithdrawn_demand (s : State) : s.reviewWithdrawn.motor.demand = s.motor.demand := by
  unfold State.reviewWithdrawn; split <;> simp
@[simp] theorem State.reviewWithdrawn_state (s : State) : s.reviewWithdrawn.motor.state = s.motor.state := by
  unfold State.reviewWithdrawn; split <;> simp
@[simp] theorem State.reviewWithdrawn_printTiming (s : State) : s.reviewWithdrawn.motor.printTiming = s.motor.printTiming := by
  unfold State.reviewWithdrawn; split <;> simp
@[simp] theorem State.reviewWithdrawn_punchTiming (s : State) : s.reviewWithdrawn.motor.punchTiming = s.motor.punchTiming := by
  unfold State.reviewWithdrawn; split <;> simp
@[simp] theorem State.reviewWithdrawn_bell (s : State) : s.reviewWithdrawn.motor.bell = s.motor.bell := by
  unfold State.reviewWithdrawn; split <;> simp
@[simp] theorem State.placeDemands_store (s : State) : s.placeDemands.store = s.store := rfl
@[simp] theorem State.placeDemands_routes (s : State) : s.placeDemands.routes = s.routes := rfl
@[simp] theorem State.placeDemands_timing (s : State) : s.placeDemands.timing = s.timing := rfl
@[simp] theorem State.placeDemands_lrx (s : State) : s.placeDemands.lrx = s.lrx := rfl
@[simp] theorem State.placeDemands_ltx (s : State) : s.placeDemands.ltx = s.ltx := rfl
@[simp] theorem State.placeDemands_call (s : State) : s.placeDemands.call = s.call := rfl
@[simp] theorem State.placeDemands_file (s : State) : s.placeDemands.file = s.file := rfl
@[simp] theorem State.placeDemands_printer (s : State) : s.placeDemands.printer = s.printer := rfl
@[simp] theorem State.placeDemands_punch (s : State) : s.placeDemands.punch = s.punch := rfl
@[simp] theorem State.placeDemands_keyboard (s : State) : s.placeDemands.keyboard = s.keyboard := rfl
@[simp] theorem State.placeDemands_link (s : State) : s.placeDemands.link = s.link := rfl
@[simp] theorem State.placeDemands_isl (s : State) : s.placeDemands.isl = s.isl := rfl
@[simp] theorem State.placeDemands_now (s : State) : s.placeDemands.now = s.now := rfl
@[simp] theorem State.placeDemands_freeIndex (s : State) : s.placeDemands.freeIndex = s.freeIndex := rfl
@[simp] theorem State.placeDemands_pending (s : State) : s.placeDemands.pending = s.pending := rfl
@[simp] theorem State.lapseDemands_store (s : State) : s.lapseDemands.store = s.store := rfl
@[simp] theorem State.lapseDemands_routes (s : State) : s.lapseDemands.routes = s.routes := rfl
@[simp] theorem State.lapseDemands_timing (s : State) : s.lapseDemands.timing = s.timing := rfl
@[simp] theorem State.lapseDemands_lrx (s : State) : s.lapseDemands.lrx = s.lrx := rfl
@[simp] theorem State.lapseDemands_ltx (s : State) : s.lapseDemands.ltx = s.ltx := rfl
@[simp] theorem State.lapseDemands_call (s : State) : s.lapseDemands.call = s.call := rfl
@[simp] theorem State.lapseDemands_file (s : State) : s.lapseDemands.file = s.file := rfl
@[simp] theorem State.lapseDemands_printer (s : State) : s.lapseDemands.printer = s.printer := rfl
@[simp] theorem State.lapseDemands_punch (s : State) : s.lapseDemands.punch = s.punch := rfl
@[simp] theorem State.lapseDemands_keyboard (s : State) : s.lapseDemands.keyboard = s.keyboard := rfl
@[simp] theorem State.lapseDemands_link (s : State) : s.lapseDemands.link = s.link := rfl
@[simp] theorem State.lapseDemands_isl (s : State) : s.lapseDemands.isl = s.isl := rfl
@[simp] theorem State.lapseDemands_now (s : State) : s.lapseDemands.now = s.now := rfl
@[simp] theorem State.lapseDemands_freeIndex (s : State) : s.lapseDemands.freeIndex = s.freeIndex := rfl
@[simp] theorem State.lapseDemands_pending (s : State) : s.lapseDemands.pending = s.pending := rfl
@[simp] theorem State.placeDemands_demand (s : State) : s.placeDemands.motor.demand =
    { s.motor.demand with
      print := s.motor.demand.print || s.dueDemand.print,
      punch := s.motor.demand.punch || s.dueDemand.punch } := rfl
@[simp] theorem State.lapseDemands_demand (s : State) : s.lapseDemands.motor.demand = s.dueDemand := rfl

end Sys2Proof.Machine
end

