-- ==== Sys2Proof/Laws/Drive.lean ====
section
/-! SUPPORT. What the demands and the two choices can do: when a member is due, and that a choice starts a cycle only
with its member in the demand set (R131, R146, R164, R166; log 44). -/

namespace Sys2Proof.Machine

variable {s : State}

/-- With the loader READY the members that are due are those there is work for. -/
theorem State.dueDemand_of_ready (h : s.ready = true) :
    s.dueDemand = { s.motor.demand with print := s.printDemand, punch := s.punchDemand } := by
  simp [State.dueDemand, h]

/-- While the loader is LOADING the demand set only loses members. -/
theorem State.placeDemands_demand_of_loading (h : s.ready = false) :
    s.placeDemands.motor.demand = s.motor.demand := by
  have keeps : ∀ a b : Bool, (a || (b && a)) = a := by decide
  simp [State.dueDemand, h, keeps]

/-- A print choice leaves the state, or takes its item; an item that starts a cycle is taken only with PRINT placed. -/
theorem State.printChoice_cases :
    s.printChoice = s ∨
    (s.printerChooses = true ∧ s.printChoice = s.printChoiceItem ∧
      (s.motor.demand.print = true ∨ s.printChoiceItem.printer.cycle = none)) := by
  unfold State.printChoice
  dsimp only
  split
  · next h => simp only [Bool.and_eq_true, Bool.or_eq_true, Option.isNone_iff_eq_none] at h; exact .inr ⟨h.1, rfl, h.2⟩
  · exact .inl rfl

/-- A punch choice leaves the state, or takes its item with PUNCH placed. -/
theorem State.punchChoice_cases :
    s.punchChoice = s ∨
    (s.punchState = .onIdle ∧ s.motor.state = .running ∧ s.motor.demand.punch = true ∧
      s.punchChoice = s.punchChoiceItem) := by
  unfold State.punchChoice
  split
  · next h => exact .inr ⟨h.1, by simpa [State.motorRunning] using h.2.1, h.2.2, rfl⟩
  · exact .inl rfl

end Sys2Proof.Machine
end

