-- ==== Sys2Proof/Laws/Reply.lean ====
section
/-! SUPPORT. The operations of the owners do not look at the pending reply: each comes to the same whatever it holds. So a
reply may be given before or after them. -/

namespace Sys2Proof.Machine

/-- A state with another pending reply. -/
abbrev State.withReply (s : State) (p : PendingReply) : State :=
  { s with link := { s.link with pendingReply := p } }

variable (s : State) (p : PendingReply)

theorem ite_withReply (c : Prop) [Decidable c] (a b : State) :
    (if c then a else b).withReply p = if c then a.withReply p else b.withReply p :=
  apply_ite (State.withReply · p) c a b

theorem Link.queueNotice_withReply (l : Link) (b : NoticeBody) :
    Link.queueNotice { l with pendingReply := p } b = { l.queueNotice b with pendingReply := p } := by
  unfold Link.queueNotice
  dsimp only
  split
  · rfl
  · split <;> rfl

theorem State.notice_withReply (b : NoticeBody) : (s.withReply p).notice b = (s.notice b).withReply p := by
  show { s with link := Link.queueNotice { s.link with pendingReply := p } b } = _
  rw [Link.queueNotice_withReply]; rfl

theorem State.carryOn_withReply : (s.withReply p).carryOn = s.carryOn.withReply p := by
  have h := State.carryOn_withLink s { s.link with pendingReply := p }
  have hl := s.carryOn_link
  unfold State.withReply
  rw [hl]; exact h

theorem State.printerNotice_withReply (c : PrinterCause) :
    (s.withReply p).printerNotice c = (s.printerNotice c).withReply p := by
  exact congrArg (fun t : State => { t with freeIndex := s.freeIndex + 2 })
    (State.notice_withReply s p (.printerState (s.printerReport c)))

theorem State.punchNotice_withReply (c : PunchCause) :
    (s.withReply p).punchNotice c = (s.punchNotice c).withReply p := by
  exact congrArg (fun t : State => { t with freeIndex := s.freeIndex + 2 })
    (State.notice_withReply s p (.punchState (s.punchReport c)))

theorem State.noticeNoPaper_withReply (b : PrinterState) :
    (s.withReply p).noticeNoPaper b = (s.noticeNoPaper b).withReply p := by
  unfold State.noticeNoPaper
  rw [ite_withReply, ← State.printerNotice_withReply]; rfl

theorem State.noticeTapeOut_withReply (b : PunchState) :
    (s.withReply p).noticeTapeOut b = (s.noticeTapeOut b).withReply p := by
  unfold State.noticeTapeOut
  rw [ite_withReply, ← State.punchNotice_withReply]; rfl

theorem State.dropFeedHeld_withReply : (s.withReply p).dropFeedHeld = s.dropFeedHeld.withReply p := by
  unfold State.dropFeedHeld; rw [ite_withReply]; rfl

theorem State.setSwitch_withReply (on : Bool) :
    (s.withReply p).setSwitch on = (s.setSwitch on).withReply p := by
  unfold State.setSwitch
  show (((s.withSwitch on).withReply p).noticeTapeOut s.punchState).dropFeedHeld = _
  rw [State.noticeTapeOut_withReply, State.dropFeedHeld_withReply]

theorem State.enterConnected_withReply : (s.withReply p).enterConnected = s.enterConnected.withReply p := by
  unfold State.enterConnected; dsimp only; rw [← State.notice_withReply]; rfl

theorem State.tryConnect_withReply : (s.withReply p).tryConnect = s.tryConnect.withReply p := by
  unfold State.tryConnect; rw [ite_withReply, ← State.enterConnected_withReply]; rfl

theorem State.enterAnswering_withReply : (s.withReply p).enterAnswering = s.enterAnswering.withReply p := by
  unfold State.enterAnswering; dsimp only; rw [← State.tryConnect_withReply]; rfl

theorem State.enterCalling_withReply : (s.withReply p).enterCalling = s.enterCalling.withReply p := by
  unfold State.enterCalling; dsimp only; rw [← State.tryConnect_withReply]; rfl

theorem State.enterOffered_withReply : (s.withReply p).enterOffered = s.enterOffered.withReply p := by
  unfold State.enterOffered; dsimp only; rw [← State.notice_withReply]; rfl

theorem State.clearedNotice_withReply (o : CallOutcome) (a b c : Nat) :
    (s.withReply p).clearedNotice o a b c = (s.clearedNotice o a b c).withReply p := by
  exact State.notice_withReply ..

theorem State.failAttempt_withReply (o : CallOutcome) :
    (s.withReply p).failAttempt o = (s.failAttempt o).withReply p := by
  unfold State.failAttempt
  show (((s.endRecord o).withReply p).clearedNotice o 0 0 0).enterReleasing = _
  rw [State.clearedNotice_withReply]; rfl

theorem State.closeMessage_withReply (m : Message) (c : FilingCause) :
    (s.withReply p).closeMessage m c = (s.closeMessage m c).withReply p := by
  unfold State.closeMessage; dsimp only; rw [← State.notice_withReply]

theorem State.endFiling_withReply (c : FilingCause) :
    (s.withReply p).endFiling c = (s.endFiling c).withReply p := by
  unfold State.endFiling
  dsimp only
  cases s.file.receiving with
  | none => rfl
  | some m => dsimp only; rw [State.closeMessage_withReply]

theorem State.lineReleaseDue_withReply : (s.withReply p).lineReleaseDue = s.lineReleaseDue.withReply p := by
  unfold State.lineReleaseDue; rw [ite_withReply]

theorem State.markLineRelease_withReply : (s.withReply p).markLineRelease = s.markLineRelease.withReply p := by
  unfold State.markLineRelease; rw [ite_withReply]

theorem State.endClearing_withReply : (s.withReply p).endClearing = s.endClearing.withReply p := by
  unfold State.endClearing
  dsimp only
  cases s.call.clearCause with
  | none =>
    dsimp only; rw [← State.lineReleaseDue_withReply]; rfl
  | some c =>
    dsimp only
    rw [← State.lineReleaseDue_withReply]
    show State.lineReleaseDue (State.enterReleasing (((s.endRecord c).withReply p).clearedNotice ..)) = _
    rw [State.clearedNotice_withReply]; rfl

theorem State.beginClearing_withReply (c : CallOutcome) :
    (s.withReply p).beginClearing c = (s.beginClearing c).withReply p := by
  unfold State.beginClearing
  show ((((s.leaveLine c).withReply p).endFiling .clear).markLineRelease.closeEpisode).timeClearing = _
  rw [State.endFiling_withReply, State.markLineRelease_withReply]; rfl

theorem State.enterClearing_withReply (c : CallOutcome) :
    (s.withReply p).enterClearing c = (s.enterClearing c).withReply p := by
  unfold State.enterClearing
  dsimp only
  rw [ite_withReply, State.beginClearing_withReply, State.endClearing_withReply]; rfl

theorem State.declineOffer_withReply : (s.withReply p).declineOffer = s.declineOffer.withReply p := rfl

theorem State.stopEffect_withReply :
    (s.withReply p).stopEffect = (s.stopEffect.1.withReply p, s.stopEffect.2) := by
  unfold State.stopEffect
  dsimp only
  cases s.call.state
  case answering =>
    exact congrArg (·, false) (State.carryOn_withReply
      (((s.demandCall false).endRecord .stopService).enterCall .outOfService) p)
  case calling =>
    show ((((s.withStop true).withReply p).enterClearing .stopService).carryOn, true) = _
    rw [State.enterClearing_withReply, State.carryOn_withReply]
  case connected =>
    show ((((s.withStop true).withReply p).enterClearing .stopService).carryOn, true) = _
    rw [State.enterClearing_withReply, State.carryOn_withReply]
  all_goals rfl

theorem State.tellPrinter_withReply : (s.withReply p).tellPrinter = s.tellPrinter.withReply p := by
  unfold State.tellPrinter; rw [ite_withReply]; rfl

theorem State.resetPrinter_withReply : (s.withReply p).resetPrinter = s.resetPrinter.withReply p := by
  unfold State.resetPrinter
  rw [ite_withReply, ← State.tellPrinter_withReply, ← State.noticeNoPaper_withReply]; rfl

theorem State.resetPunch_withReply : (s.withReply p).resetPunch = s.resetPunch.withReply p := by
  unfold State.resetPunch
  rw [← State.noticeTapeOut_withReply]; rfl

theorem State.modeEffects_withReply (b a : KeyboardMode) :
    (s.withReply p).modeEffects b a = (s.modeEffects b a).withReply p := by
  unfold State.modeEffects
  dsimp only
  repeat' split
  all_goals rfl

theorem State.changeMode_withReply (m : KeyboardMode) :
    (s.withReply p).changeMode m = (s.changeMode m).withReply p := by
  unfold State.changeMode
  dsimp only
  rw [State.modeEffects_withReply]

theorem State.claimFor_withReply (t : SubmitTarget) :
    (s.withReply p).claimFor t = (s.claimFor t).withReply p := by
  cases t
  · rfl
  · rfl
  · show (s.withReply p).claimPunch .submitted = _
    unfold State.claimPunch State.claimFor State.claimPunch
    rw [ite_withReply]; rfl

theorem State.spoolEmptied_withReply (n : SpoolName) :
    (s.withReply p).spoolEmptied n = (s.spoolEmptied n).withReply p := by
  cases n
  case send => rfl
  case punch =>
    unfold State.spoolEmptied State.dropPunchWork
    dsimp only
    rw [ite_withReply]
  all_goals
    unfold State.spoolEmptied State.dropPrintCommitment
    dsimp only
    rw [ite_withReply]

end Sys2Proof.Machine
end

