-- ==== Sys2Proof/Laws/Link.lean ====
section
/-! SUPPORT. What the Control Link does with a command frame: a frame in turn, of a kind and length that pass, reaches its
owner, whose reply overwrites the awaited one. -/

namespace Sys2Proof.Machine

/-- A frame in turn, of a kind and length that pass, on a READY loader, is dispatched to its owner (R173). -/
theorem State.hostCommand_taken {s : State} (h : s.TakesCommands) {kind : Byte} {body : List Byte}
    (owner : State → State) (hk : isCommandKind kind = true) (hl : lengthAllowed kind body.length = true)
    (hb : body.length ≤ 48) :
    s.hostCommand kind body owner = owner (s.withReply (.awaited none)) := by
  have h1 : s.linkInTurn = true := by
    simp [State.linkInTurn, Link.freeForCommand, h.inbound, h.reply, h.answer]
  have h2 : s.awaitReply.ready = true := by
    simp [State.ready, State.awaitReply, h.loader]
  simp only [State.hostCommand, h1, hb, Config.bodyMax, State.dispatch, State.linkRefusal, hk, hl, h2,
    Bool.not_true, Bool.false_and, and_self, if_true, Bool.false_eq_true, if_false]
  rfl

/-- An accepted reply overwrites the pending one (R174). -/
@[simp] theorem State.withReply_accept (s : State) (p : PendingReply) (k : Byte) (r : Result) :
    (s.withReply p).accept k r = s.accept k r := rfl

/-- A refusal overwrites the pending reply (R174). -/
@[simp] theorem State.withReply_refuse (s : State) (p : PendingReply) (k : Byte) (r : Reason) :
    (s.withReply p).refuse k r = s.refuse k r := rfl

/-- An accepted reply is a pending reply. -/
theorem State.accept_eq (s : State) (k : Byte) (r : Result) :
    s.accept k r = s.withReply (.awaited (some (.accepted k r))) := rfl

/-- A refusal is a pending reply. -/
theorem State.refuse_eq (s : State) (k : Byte) (r : Reason) :
    s.refuse k r = s.withReply (.awaited (some (.refused k r))) := rfl

end Sys2Proof.Machine
end

