-- ==== Sys2Proof/Laws/Outbound.lean ====
section
/-! SUPPORT. What the outbound side can do: the byte times, the bytes begun, and what a hold, a release, a start and an
end of a frame leave alone; with them the reading of a key's column, which is timed by the clock too. -/

namespace Sys2Proof.Machine

theorem Link.rate_pos (l : Link) : 0 < l.rate := by
  unfold Link.rate
  repeat' split
  all_goals decide

/-! ## Byte times and the bytes begun -/

@[simp] theorem Link.byteTicks_zero (l : Link) : l.byteTicks 0 = 0 := by
  have h := l.rate_pos
  simp only [Link.byteTicks, Nat.zero_mul, Nat.zero_add]
  exact Nat.div_eq_of_lt (by omega)

theorem Link.begun_le (l : Link) (length now : Nat) (h : l.sent ≤ length) : l.begun length now ≤ length := by
  unfold Link.begun
  split
  · exact h
  · exact Nat.min_le_left ..

theorem Link.sent_le_begun (l : Link) (length now : Nat) (h : l.sent ≤ length) : l.sent ≤ l.begun length now := by
  unfold Link.begun
  split
  · exact Nat.le_refl _
  · exact Nat.le_min.2 ⟨h, by rw [Nat.add_assoc]; exact Nat.le_add_right ..⟩

/-! ## What holding and releasing can do -/

/-- A hold changes HOLD-OFF, the bytes begun and the boundary, and nothing else. -/
theorem Link.hold_frame (l : Link) (now : Nat) :
    l.hold now = { l with holdOff := true, sent := (l.hold now).sent, boundary := (l.hold now).boundary } := by
  unfold Link.hold
  split
  · rename_i h
    cases l; simp_all
  · split <;> rfl

/-- A release changes HOLD-OFF and the boundary, and nothing else. -/
theorem Link.release_frame (l : Link) (now : Nat) :
    l.release now = { l with holdOff := false, boundary := (l.release now).boundary } := by
  unfold Link.release
  split
  · rfl
  · cases l; simp_all

@[simp] theorem Link.hold_holdOff (l : Link) (now : Nat) : (l.hold now).holdOff = true := by
  rw [Link.hold_frame]
@[simp] theorem Link.release_holdOff (l : Link) (now : Nat) : (l.release now).holdOff = false := by
  rw [Link.release_frame]
@[simp] theorem Link.hold_sending (l : Link) (now : Nat) : (l.hold now).sending = l.sending := by
  rw [Link.hold_frame]
@[simp] theorem Link.release_sending (l : Link) (now : Nat) : (l.release now).sending = l.sending := by
  rw [Link.release_frame]
@[simp] theorem Link.release_sent (l : Link) (now : Nat) : (l.release now).sent = l.sent := by
  rw [Link.release_frame]

/-- A held link, and one that is sending, starts no frame. -/
theorem Link.arbitrate_busy (l : Link) (now : Nat) (h : l.sending.isSome = true ∨ l.holdOff = true) :
    l.arbitrate now = l := by
  unfold Link.arbitrate
  rw [if_pos (by simpa using h)]

/-- A free link starts the frame the arbiter chooses, if there is one. -/
theorem Link.arbitrate_free (l : Link) (now : Nat) (h : l.sending = none) (k : l.holdOff = false) :
    l.arbitrate now = match l.nextFrame with
      | some f => l.startFrame f now
      | none => l := by
  unfold Link.arbitrate
  exact if_neg (by simp [h, k])

/-! ## The column of a reading -/

/-- R148: position 8c + r is row r of column c. -/
theorem position_eq (p : Fin 64) : p.val = 8 * columnOf p + rowOf p := by
  simp only [columnOf, rowOf]
  omega

/-- A confirming reading is not before the position's third reading nor before the next reading of the scan, its step has
not ended as the clock stands, and it is the first reading of the position of which all three hold. -/
theorem Keyboard.readingPass_bounds (k : Keyboard) (p : Fin 64) (t : Nat) :
    k.thirdFrom.getD p.val 2 ≤ k.readingPass p t ∧ k.nextReading ≤ 64 * k.readingPass p t + p.val ∧
      t < (8 * k.readingPass p t + columnOf p) * 100 + 100 ∧
      (k.readingPass p t = k.thirdFrom.getD p.val 2 ∨ 64 * k.readingPass p t + p.val < k.nextReading + 64 ∨
        (8 * k.readingPass p t + columnOf p) * 100 ≤ t + 700) := by
  simp only [Keyboard.readingPass, columnPass, columnOf, Config.columns, Config.ms, Config.keyPositions]
  omega

end Sys2Proof.Machine
end

