-- ==== Sys2Proof/Laws/Route.lean ====
section
/-! SUPPORT. What a presentation to a route leaves alone: it changes the store, the Message File, the punch's ownership, the
notices and its own route, and nothing else (R23 to R32). -/

namespace Sys2Proof.Machine

/-- Two states that differ at most in the store, the file, the punch, the link and the routes. -/
structure State.SameButTraffic (s t : State) : Prop where
  timing : t.timing = s.timing
  lrx : t.lrx = s.lrx
  ltx : t.ltx = s.ltx
  call : t.call = s.call
  printer : t.printer = s.printer
  keyboard : t.keyboard = s.keyboard
  motor : t.motor = s.motor
  isl : t.isl = s.isl
  now : t.now = s.now
  freeIndex : t.freeIndex = s.freeIndex
  pending : t.pending = s.pending

theorem State.SameButTraffic.refl (s : State) : s.SameButTraffic s :=
  ⟨rfl, rfl, rfl, rfl, rfl, rfl, rfl, rfl, rfl, rfl, rfl⟩

theorem State.SameButTraffic.trans {s t u : State} (h : s.SameButTraffic t) (k : t.SameButTraffic u) :
    s.SameButTraffic u :=
  ⟨k.1.trans h.1, k.2.trans h.2, k.3.trans h.3, k.4.trans h.4, k.5.trans h.5, k.6.trans h.6, k.7.trans h.7,
    k.8.trans h.8, k.9.trans h.9, k.10.trans h.10, k.11.trans h.11⟩

theorem State.appendPunch_sameButTraffic (s : State) (st : Stream) (c : Cell) :
    s.SameButTraffic (s.appendPunch st c) := by
  constructor <;> simp [State.appendPunch]

/-- An append to PUNCH leaves the routes. -/
@[simp] theorem State.appendPunch_routes (s : State) (st : Stream) (c : Cell) :
    (s.appendPunch st c).routes = s.routes := by simp [State.appendPunch]

theorem State.closeMessage_sameButTraffic (s : State) (m : Message) (k : FilingCause) :
    s.SameButTraffic (s.closeMessage m k) := by
  constructor <;> rfl

theorem State.fileInto_sameButTraffic (s : State) (m : Message) (c : Cell) :
    s.SameButTraffic (s.fileInto m c) := by
  unfold State.fileInto State.closeIfFull
  dsimp only
  split
  · exact State.SameButTraffic.trans (by constructor <;> rfl) (State.closeMessage_sameButTraffic ..)
  · constructor <;> rfl

theorem State.offerFile_sameButTraffic (s : State) (c : Cell) : s.SameButTraffic (s.offerFile c).1 := by
  unfold State.offerFile
  repeat' split
  all_goals first
    | exact State.fileInto_sameButTraffic ..
    | constructor <;> rfl

/-- A copy filed leaves the routes. -/
@[simp] theorem State.fileInto_routes (s : State) (m : Message) (c : Cell) : (s.fileInto m c).routes = s.routes := by
  unfold State.fileInto State.closeIfFull
  dsimp only
  split <;> rfl

/-- A copy offered to FILE leaves the routes. -/
@[simp] theorem State.offerFile_routes (s : State) (c : Cell) : (s.offerFile c).1.routes = s.routes := by
  unfold State.offerFile
  repeat' split
  all_goals first
    | exact s.fileInto_routes ..
    | rfl

theorem State.tryPlace_sameButTraffic (s : State) (n : RouteName) (p : Place) (c : Cell) :
    s.SameButTraffic (s.tryPlace n p c).1 := by
  cases p
  · show s.SameButTraffic (s.tryPrint n c).1
    unfold State.tryPrint
    repeat' split
    all_goals constructor <;> rfl
  · show s.SameButTraffic (s.tryPunch n c).1
    unfold State.tryPunch
    repeat' split
    all_goals first
      | exact State.appendPunch_sameButTraffic ..
      | constructor <;> rfl
  · exact s.offerFile_sameButTraffic c

/-- A copy tried at a place leaves the routes. -/
@[simp] theorem State.tryPlace_routes (s : State) (n : RouteName) (p : Place) (c : Cell) :
    (s.tryPlace n p c).1.routes = s.routes := by
  cases p
  · show (s.tryPrint n c).1.routes = _
    unfold State.tryPrint
    repeat' split
    all_goals rfl
  · show (s.tryPunch n c).1.routes = _
    unfold State.tryPunch
    repeat' split
    all_goals simp
  · exact s.offerFile_routes c

theorem Delivery.tryStandIn_keeps (d : Delivery) (n : RouteName) (r : Route) (p : Place) (c : Cell) :
    d.state.SameButTraffic (d.tryStandIn n r p c).state ∧ (d.tryStandIn n r p c).state.routes = d.state.routes := by
  unfold Delivery.tryStandIn
  split
  · exact ⟨State.SameButTraffic.refl _, rfl⟩
  · dsimp only
    split <;> exact ⟨State.tryPlace_sameButTraffic .., State.tryPlace_routes ..⟩

theorem Delivery.deliverTo_keeps (n : RouteName) (r : Route) (c : Cell) (d : Delivery) (p : Place) :
    d.state.SameButTraffic (d.deliverTo n r c p).state ∧ (d.deliverTo n r c p).state.routes = d.state.routes := by
  unfold Delivery.deliverTo
  split
  · dsimp only
    split
    · exact ⟨State.tryPlace_sameButTraffic .., State.tryPlace_routes ..⟩
    · rename_i e _
      have h := Delivery.tryStandIn_keeps { d with
        state := (d.state.tryPlace n p c).1, loss := firstLoss d.loss (some e) } n r p c
      exact ⟨(State.tryPlace_sameButTraffic ..).trans h.1, h.2.trans (State.tryPlace_routes ..)⟩
  · exact ⟨State.SameButTraffic.refl _, rfl⟩

/-- What a delivery leaves alone (R28). -/
theorem State.deliver_keeps (s : State) (n : RouteName) (c : Cell) :
    s.SameButTraffic (s.deliver n c).state ∧ (s.deliver n c).state.routes = s.routes := by
  unfold State.deliver
  dsimp only
  split
  · exact ⟨State.SameButTraffic.refl _, rfl⟩
  · simp only [List.foldl]
    have h1 := Delivery.deliverTo_keeps n (s.routes.get n) c
      { state := s, placed := 0, lost := 0, tried := [], loss := none } .print
    have h2 := Delivery.deliverTo_keeps n (s.routes.get n) c (Delivery.deliverTo n (s.routes.get n) c
      { state := s, placed := 0, lost := 0, tried := [], loss := none } .print) .punch
    refine ⟨(h1.1.trans h2.1).trans (Delivery.deliverTo_keeps ..).1, ?_⟩
    rw [(Delivery.deliverTo_keeps ..).2, h2.2, h1.2]

/-- What a presentation leaves alone (R23). -/
theorem State.present_keeps (s : State) (n : RouteName) (c : Cell) : s.SameButTraffic (s.present n c).1 := by
  refine (s.deliver_keeps n c).1.trans ?_
  constructor <;> simp [State.present]

end Sys2Proof.Machine
end

