-- ==== Sys2Proof/Laws/Store.lean ====
section
/-! SUPPORT. What the shared operations over the filters, the Character Store and the routes can do, each said once. -/

namespace Sys2Proof.Machine

/-! ## The three-sample filter -/

/-- Three samples against the level held change it, whatever run they follow (R39). -/
theorem Filter.threeSamples_change {f : Filter} {b : Bool} (h : f.level = some (!b)) :
    f.threeSamples b = Filter.at b := by
  obtain ⟨level, run, asked⟩ := f
  subst h
  rcases Nat.lt_or_ge run 2 with h2 | h2
  · interval_cases run <;> cases b <;> rfl
  · have h3 : ¬ run < 2 := by omega
    cases b <;> simp [Filter.threeSamples, Filter.sample, Filter.at, h3]

/-- Three samples give a filter without a level theirs (R124). -/
theorem Filter.threeSamples_start {f : Filter} (h : f.level = none) (b : Bool) :
    (f.threeSamples b).level = some b := by
  obtain ⟨level, run, asked⟩ := f
  subst h
  rcases Nat.lt_or_ge run 2 with h2 | h2
  · interval_cases run <;> cases b <;> cases asked <;> rfl
  · have h3 : ¬ run < 2 := by omega
    have h4 : run ≠ 0 := by omega
    cases b <;> cases asked <;> simp [Filter.threeSamples, Filter.sample, h3, h4]

/-! ## The Character Store -/

/-- Blocks given up go to the front one at a time, so the last of them stands first (R2). -/
theorem returnBlocks_eq (blocks free : List Nat) : returnBlocks blocks free = blocks.reverse ++ free := by
  unfold returnBlocks
  induction blocks generalizing free with
  | nil => rfl
  | cons b rest ih => simp [ih]

/-- The spool that is replaced. -/
@[simp] theorem Store.spool_withSpool_self (st : Store) (n : SpoolName) (p : Spool) :
    (st.withSpool n p).spool n = p := by cases n <;> rfl

/-- The other spools stay. -/
theorem Store.spool_withSpool_ne (st : Store) {n m : SpoolName} (h : m ≠ n) (p : Spool) :
    (st.withSpool n p).spool m = st.spool m := by cases n <;> cases m <;> first | rfl | exact absurd rfl h

/-- Replacing a spool leaves the free list. -/
@[simp] theorem Store.withSpool_free (st : Store) (n : SpoolName) (p : Spool) :
    (st.withSpool n p).free = st.free := by cases n <;> rfl

/-- Replacing a spool leaves the episode. -/
@[simp] theorem Store.withSpool_episode (st : Store) (n : SpoolName) (p : Spool) :
    (st.withSpool n p).episode = st.episode := by cases n <;> rfl

/-- Taking the free list anew leaves the spools. -/
@[simp] theorem Store.spool_free (st : Store) (free : List Nat) (n : SpoolName) :
    ({ st with free := free } : Store).spool n = st.spool n := by cases n <;> rfl

/-- All an append can do: refuse, fill the tail block, or take the front free block (R6). -/
theorem Store.append_cases (st : Store) (n : SpoolName) (e : Entry) :
    ((st.spoolRefusal n).isSome = true ∧ st.append n e = st) ∨
    (st.spoolRefusal n = none ∧ (st.spool n).tailRoom = true ∧
      st.append n e = st.withSpool n { st.spool n with cells := (st.spool n).cells ++ [e] }) ∨
    (st.spoolRefusal n = none ∧ (st.spool n).tailRoom = false ∧ ∃ b rest, st.free = b :: rest ∧
      st.append n e = { st with free := rest }.withSpool n
        { chain := (st.spool n).chain ++ [b],
          headOffset := if (st.spool n).isEmpty then 0 else (st.spool n).headOffset,
          cells := (st.spool n).cells ++ [e] }) := by
  cases ht : (st.spool n).tailRoom
  · by_cases hs : n.share ≤ (st.spool n).blocksHeld
    · exact .inl (by simp [Store.spoolRefusal, Store.append, ht, hs])
    · cases hf : st.free with
      | nil => exact .inl (by simp [Store.spoolRefusal, Store.append, ht, hs, hf])
      | cons b rest =>
        refine .inr (.inr ⟨by simp [Store.spoolRefusal, ht, hs, hf], rfl, b, rest, rfl, ?_⟩)
        simp [Store.append, ht, hs, hf]
  · exact .inr (.inl (by simp [Store.spoolRefusal, Store.append, ht]))

/-- All an append and a removal leave alone: the episode (R15). -/
@[simp] theorem Store.append_episode (st : Store) (n : SpoolName) (e : Entry) :
    (st.append n e).episode = st.episode := by
  rcases st.append_cases n e with ⟨-, h⟩ | ⟨-, -, h⟩ | ⟨-, -, b, rest, -, h⟩ <;> simp [h]

/-- An append leaves the other spools. -/
theorem Store.append_other (st : Store) {n m : SpoolName} (hm : m ≠ n) (e : Entry) :
    (st.append n e).spool m = st.spool m := by
  rcases st.append_cases n e with ⟨-, h⟩ | ⟨-, -, h⟩ | ⟨-, -, b, rest, -, h⟩ <;>
    simp [h, Store.spool_withSpool_ne _ hm]

/-- All a removal can do (R9). -/
theorem Store.removeHead_cases (st : Store) (n : SpoolName) :
    ((st.spool n).cells = [] ∧ st.removeHead n = (none, st)) ∨
    (∃ e, (st.spool n).cells = [e] ∧ st.removeHead n = (some e,
      { st with free := (st.spool n).chain.reverse ++ st.free }.withSpool n Spool.empty)) ∨
    (∃ e rest, (st.spool n).cells = e :: rest ∧ rest ≠ [] ∧ (st.spool n).headOffset < 15 ∧
      st.removeHead n = (some e, st.withSpool n { st.spool n with
        cells := rest, headOffset := (st.spool n).headOffset + 1 })) ∨
    (∃ e rest, (st.spool n).cells = e :: rest ∧ rest ≠ [] ∧ 15 ≤ (st.spool n).headOffset ∧
      st.removeHead n = (some e,
        { st with free := ((st.spool n).chain.take 1).reverse ++ st.free }.withSpool n
          { chain := (st.spool n).chain.drop 1, headOffset := 0, cells := rest })) := by
  match hc : (st.spool n).cells with
  | [] => exact .inl ⟨rfl, by simp only [Store.removeHead, hc]⟩
  | [e] => exact .inr (.inl ⟨e, rfl, by simp only [Store.removeHead, hc, returnBlocks_eq]⟩)
  | e :: x :: rest =>
    by_cases ho : (st.spool n).headOffset < 15
    · refine .inr (.inr (.inl ⟨e, x :: rest, rfl, by simp, ho, ?_⟩))
      have h' : (st.spool n).headOffset + 1 < Config.blockCells := by
        simp only [Config.blockCells]; omega
      simp only [Store.removeHead, hc, if_pos h']
    · refine .inr (.inr (.inr ⟨e, x :: rest, rfl, by simp, by omega, ?_⟩))
      have h' : ¬ (st.spool n).headOffset + 1 < Config.blockCells := by
        simp only [Config.blockCells]; omega
      simp only [Store.removeHead, hc, if_neg h', returnBlocks_eq]

/-- All the emptying of a spool does (R11). -/
theorem Store.emptySpool_eq (st : Store) (n : SpoolName) :
    st.emptySpool n = ((st.spool n).cells.length,
      { st with free := (st.spool n).chain.reverse ++ st.free }.withSpool n Spool.empty) := by
  simp [Store.emptySpool, returnBlocks_eq, Spool.cellCount]

/-- A batch is taken whole or not at all (R7). -/
theorem Store.batch_cases (st : Store) (n : SpoolName) (es : List Entry) :
    (es.length ≤ st.capacity n ∧ st.batch n es = .ok (st.appendAll n es)) ∨
    (st.capacity n < es.length ∧ st.batch n es = .error (st.capacity n)) := by
  rcases Nat.lt_or_ge (st.capacity n) es.length with h | h
  · exact .inr ⟨h, by simp [Store.batch, Nat.not_le.mpr h]⟩
  · exact .inl ⟨h, by simp [Store.batch, h]⟩

end Sys2Proof.Machine
end

