-- ==== Sys2Proof/Tests/Slice0.lean ====
section
/-! SUPPORT. Tests: ill-formed rows refused, values the spec works out, one step on small states, and for each statement
with hypotheses a state that meets them. -/

namespace Sys2Proof.Tests

open Sys2Proof Sys2Proof.Machine

/-! ## Ill-formed rows -/

theorem test_loadEnd_image_too_long : (Instr.loadEnd (List.replicate 192 0)).wellFormed = false := by
  decide +kernel
theorem test_loadEnd_image_whole : (Instr.loadEnd (List.replicate 191 0)).wellFormed = true := by
  decide +kernel
theorem test_unknownCommandKind_known : (Instr.unknownCommandKind 0x27 []).wellFormed = false := by decide
theorem test_unknownCommandKind_body_too_long :
    (Instr.unknownCommandKind 0x28 (List.replicate 49 0)).wellFormed = false := by decide
theorem test_submitText_no_cell : (Instr.submitText 0 []).wellFormed = false := by decide
theorem test_submitText_too_many_cells :
    (Instr.submitText 0 (List.replicate 41 0)).wellFormed = false := by decide
theorem test_storeWrite_no_byte : (Instr.storeWrite 0 []).wellFormed = false := by decide
theorem test_storeWrite_too_many_bytes :
    (Instr.storeWrite 0 (List.replicate 17 0)).wellFormed = false := by decide
theorem test_storeOperationEnd_too_many_bytes :
    (Instr.storeOperationEnd true (List.replicate 41 0)).wellFormed = false := by decide

/-! ## Values the spec works out -/

/-- Chapter 3, the worked example of distortion: changes at 42150, 45870 and 49910 after t0 = 40000. -/
def exampleCharacter : Assembly :=
  { t0 := 40000, next := 6, code := 19, changes := [(42150, .mark), (45870, .space), (49910, .mark)] }

theorem test_sample_times :
    (List.range 7).map (sampleTime 40000 2000) = [41000, 43000, 45000, 47000, 49000, 51000, 53000] := by
  decide
theorem test_levels_at_samples :
    (List.range 7).map (fun k => levelAt exampleCharacter.changes (sampleTime 40000 2000 k)) =
      [.space, .mark, .mark, .space, .space, .mark, .mark] := by decide
theorem test_distortion_of_the_example : exampleCharacter.distortion 2000 = 8 := by decide
theorem test_largest_deviation_of_the_example : largestDeviation exampleCharacter 2000 = 150 := by decide

/-- A cell for the store's example. -/
def blankEntry : Entry :=
  { cell := { code := 0, case := .letters, origin := .received, quality := .clean }, stream := none }

/-- Chapter 1, the worked example after event 5: P-LINE with 17 cells on two blocks, 359 blocks free. -/
def exampleStore : Store :=
  { Store.reset with
    free := List.range' 25 359
    pLine := { chain := [1, 3], headOffset := 0, cells := List.replicate 17 blankEntry }
    send := { chain := [2], headOffset := 0, cells := List.replicate 5 blankEntry } }

theorem test_capacity_of_P_LINE : exampleStore.capacity .pLine = 1519 := by decide +kernel
theorem test_capacity_of_SEND : exampleStore.capacity .send = 507 := by decide +kernel
theorem test_clear_spool_SEND : (exampleStore.emptySpool .send).1 = 5 ∧
    (exampleStore.emptySpool .send).2.capacity .send = 512 ∧
    (exampleStore.emptySpool .send).2.freeCount = 360 := by decide +kernel

/-- Chapter 1, the worked example before event 2. -/
def exampleSpool : Spool := { chain := [0, 1], headOffset := 14, cells := List.replicate 18 blankEntry }

theorem test_tail_fill_of_the_example : exampleSpool.tailFill = 16 := by decide
theorem test_append_takes_the_front_block :
    (({ exampleStore with pLine := exampleSpool } : Store).append .pLine blankEntry).pLine.chain = [0, 1, 25] := by
  decide

/-- An identity of the options with a carriage-return base and step. -/
def atColumn (column : Option Nat) (width base step : Nat) : State :=
  { State.reset with
    printer := { Printer.reset with column := column, width := width }
    isl := { State.reset.isl with
      options := optionSet (optionSet Isl.defaultOptions .crBase base) .crStep step } }

theorem test_carriage_return_time : (atColumn (some 57) 80 40 2).carriageReturnTime = 154 := by decide
theorem test_carriage_return_time_limit : (atColumn (some 79) 80 250 10).carriageReturnTime = 1000 := by
  decide
theorem test_recovery_carriage_return_time : (atColumn none 72 40 2).carriageReturnTime = 182 := by decide

/-- Chapter 11, the worked example: BREAK RECOGNITION 45, LINE WIDTH 90 and ANSWER POLICY 3, all else at its default. -/
def exampleImage : List Byte :=
  [0x07, 0xD0, 24, 35, 4, 30, 45, 40, 0, 200, 4, 0, 0, 0, 0] ++
  [20, 3, 10, 0, 0, 0, 30, 0, 120, 5, 0, 0, 0, 0, 0, 0] ++
  [90, 1, 100, 40, 2, 100, 4, 12, 0, 20, 20, 0, 0, 0, 0, 0] ++
  [1, 60, 8, 8, 0, 20, 20, 20, 30, 0, 0, 0, 0, 5, 20, 0] ++
  [1, 2, 0, 0, 0, 0, 0, 0, 1, 0, 0, 0, 0, 0, 0, 0] ++
  [1, 0, 0, 0, 0, 0, 0, 0]

theorem test_basic_load_of_the_example : (loadImage .present .basic exampleImage).defaulted = 7 ∧
    optionGet (loadImage .present .basic exampleImage).options .breakRecognition = 30 ∧
    optionGet (loadImage .present .basic exampleImage).options .lineWidth = 72 ∧
    (loadImage .present .basic exampleImage).keyMap = none := by decide
theorem test_ordering_with_break_length_25 :
    optionsOrdered (optionSet Isl.defaultOptions .breakLength 25) = false := by decide
theorem test_ordering_with_break_recognition_20 :
    optionsOrdered (optionSet (optionSet Isl.defaultOptions .breakRecognition 20) .breakLength 25) = true := by
  decide

/-! ## Small states -/

/-- The loader READY after power-on, nothing else done. -/
def ready : State :=
  { State.reset with
    isl := { State.reset.isl with loader := .ready, presence := .present }
    keyboard := { Keyboard.reset with mode := .raw, scanStart := some 0 } }

/-- The Call Controller in a state, with the record that goes with it. -/
def inCall (c : CallState) : State :=
  { ready with call := { ready.call with
      state := c, record := { ready.call.record with state := c.recordState } } }

/-- CONNECTED, with the line at mark. -/
def connected : State :=
  { inCall .connected with lrx := { ready.lrx with filter := Filter.at true, state := .markRest } }

theorem ready_takesCommands : ready.TakesCommands := ⟨rfl, rfl, rfl, rfl⟩
theorem inCall_takesCommands (c : CallState) : (inCall c).TakesCommands := ⟨rfl, rfl, rfl, rfl⟩
theorem connected_takesCommands : connected.TakesCommands := ⟨rfl, rfl, rfl, rfl⟩

/-- What a step answers. -/
def next : Host.Outcome State Fault Refusal → State
  | .next s => s
  | _ => State.reset

/-! ## One step -/

theorem test_start_service : (next (exec .startService ready)).call.state = .idle := by decide
theorem test_get_status_while_loading :
    (next (exec .getStatus State.reset)).link.pendingReply ≠ .awaited (some (.refused 0x01 .notReady)) := by
  decide
theorem test_not_ready_while_loading :
    (next (exec .getCall State.reset)).link.pendingReply = .awaited (some (.refused 0x13 .notReady)) := by
  decide
theorem test_set_option_clamps :
    (next (exec (.setOption 0x20 90) ready)).link.pendingReply =
      .awaited (some (.accepted 0x04 (.optionTaken 0x20 80))) := by decide
theorem test_set_option_conflict :
    (next (exec (.setOption 0x08 25) ready)).link.pendingReply =
      .awaited (some (.refused 0x04 .conflict)) := by decide
theorem test_place_call_starts_the_motor :
    (next (exec .placeCall (inCall .idle))).motor.state = .runUp 50000 := by decide
theorem test_clear_call_marks_the_cause :
    (next (exec .clearCall (inCall .calling))).call.clearCause = some .station := by decide
theorem test_unknown_kind :
    (next (exec (.unknownCommandKind 0x40 []) ready)).link.pendingReply =
      .awaited (some (.refused 0x40 .unknownKind)) := by decide
theorem test_byte_0_of_a_full_store :
    (next (exec (.storeByte0Read (some 0xA2)) State.reset)).isl.loadKind = .full := by decide
theorem test_start_edge_at_the_change :
    (next (exec (.rxFilteredChange .space 40000) connected)).lrx.state =
      .character { t0 := 40000, next := 0, code := 0, changes := [] } := by decide
theorem test_send_answerback_empty :
    (next (exec .sendAnswerback connected)).link.pendingReply =
      .awaited (some (.accepted 0x0F (.answerback .empty))) := by decide
theorem test_raw_press_is_a_notice :
    (next (exec (.confirmedPress 5) ready)).link.notices =
      [{ body := .key 5 true, lost := false }] := by decide
theorem test_printer_hold_before :
    (next (exec .printerHold ready)).link.pendingReply =
      .awaited (some (.accepted 0x1B (.printerHold .noPaper false))) := by decide
theorem test_reload_out_of_place :
    (next (exec .reload (inCall .idle))).link.pendingReply =
      .awaited (some (.refused 0x26 .wrongState)) := by decide
theorem test_restart_loads_again : (next (exec .restart connected)).call.record.outcome = some .restart := by
  decide
theorem test_decodeTableWord_no_bits : decodeTableWord 8 0x13 = none := rfl

/-- R177, at 9600 bits a second: the hold comes in the second byte of three, so OUTBOUND_FRAME_END finds one left. -/
def heldFrame : State :=
  { ready with now := 150, link := { ready.link with
      sending := some (.notice { body := .callWithdrawn, lost := false }), boundary := 0 } }

theorem test_hold_off_between_two_bytes :
    (next (exec .outboundFrameEnd (next (exec .holdOffAssert heldFrame)))).link.sending ≠ none ∧
    (next (exec .holdOffAssert heldFrame)).link.sent = 2 ∧
    (next (exec .outboundFrameEnd (next (exec .holdOffDeassert (next (exec .holdOffAssert heldFrame)))))).link.sending =
      none := by decide
theorem test_restart_empties_the_notices :
    (next (exec .restart { connected with link := { connected.link with
      notices := [{ body := .callWithdrawn, lost := false }], lostMark := true } })).link.notices = [] := by decide
/-- R148: position 5 is row 5 of column 0 and position 12 row 4 of column 1, read in the third round at the earliest. -/
theorem test_raw_press_is_read_in_its_column :
    (next (exec (.confirmedPress 5) ready)).now = 1600 ∧ (next (exec (.confirmedPress 12) ready)).now = 1700 := by
  decide

/-- R149: a release takes three further readings of its position, 8 ms apart. -/
theorem test_release_is_confirmed_three_readings_after_the_press :
    (next (exec (.confirmedRelease 5) (next (exec (.confirmedPress 5) ready)))).now = 4000 := by decide

/-- R149, R161: in one step of column 2 position 20 acts before 21, so after 21 it is read in the next pass. -/
theorem test_lower_position_of_a_column_acts_first :
    (next (exec (.confirmedPress 21) (next (exec (.confirmedPress 20) ready)))).now = 1800 ∧
    (next (exec (.confirmedPress 20) (next (exec (.confirmedPress 21) ready)))).now = 2600 := by decide

/-- R174: while RELOAD runs a START SERVICE frame is out of turn; R91, R173: one that is in turn is refused NOT READY. -/
theorem test_start_service_while_reload_runs :
    (next (exec .startService (next (exec .reload ready)))).link.outOfTurn = .owed 0x02 ∧
    (next (exec .startService { next (exec .reload ready) with link := ready.link })).link.pendingReply =
      .awaited (some (.refused 0x02 .notReady)) := by decide

/-- In RUN-UP for CALL and PRINT, the printer mid-line with one cell in its current spool. -/
def midLineRunUp : State :=
  { ready with
    printer := { ready.printer with paper := true, current := some .pLocal, lineOpen := true, column := some 4 }
    store := { Store.reset with pLocal := { chain := [0], headOffset := 0, cells := [blankEntry] } }
    motor := { ready.motor with state := .runUp 5, demand := { call := true, print := true, punch := false } } }

/-- R165: emptying the spool takes PRINT away in the run-up, so RUNNING is not reported and no hold-wait starts. -/
theorem test_print_withdrawn_in_the_run_up_is_not_told :
    (next (exec (.clearSpool 1) midLineRunUp)).motor.printWithdrawn = true ∧
    (next (exec .runUpExpiry (next (exec (.clearSpool 1) midLineRunUp)))).motor.state = .running ∧
    (next (exec .runUpExpiry (next (exec (.clearSpool 1) midLineRunUp)))).printer.holdWait = .notWaiting ∧
    (next (exec .printerReset { next (exec .runUpExpiry (next (exec (.clearSpool 1) midLineRunUp))) with
      link := ready.link })).printer.holdWait = .waiting 200005 := by decide +kernel

/-- A punch cycle muted by PUNCH RESET in the last millisecond of its extension. -/
def mutedAtLimit : State :=
  { ready with
    punch := { ready.punch with
      tape := true
      cycle := some { code := 31, shift := some .letters, phase := .settle, feedPulse := 8, programmed := 60,
                      mode := .extended, extra := 20, muted := true } }
    motor := { ready.motor with
      state := .running, demand := { call := false, print := false, punch := true }
      punchTiming := { Settle.reset with phase := .extending, mode := .extended, programmed := 60, reached := 1059 } } }

/-- R170: PUNCH RESET acts after the report of the cycle in flight too: the fault is reported and cleared. -/
theorem test_punch_reset_acts_after_the_report :
    (next (exec (.extendedReading .punch true) mutedAtLimit)).punch.fault = false ∧
    (next (exec (.extendedReading .punch true) mutedAtLimit)).punch.tapeCase = .unknown ∧
    (next (exec (.extendedReading .punch true) mutedAtLimit)).link.notices.length = 1 := by decide

/-- The printer at the end of its last cell's cycle, PRINT the only demand. -/
def lastCell : State :=
  { ready with
    printer := { ready.printer with
      paper := true, current := some .pLocal, column := some 4, mechCase := .letters
      cycle := some { code := 1, reading := .printing, kind := .own, phase := .settle, strikePulse := 12,
                      programmed := 100, mode := .fixed, extra := 20 } }
    motor := { ready.motor with
      state := .running, demand := { call := false, print := true, punch := false }
      printTiming := { Settle.reset with phase := .settling, programmed := 100 } } }

/-- R112, R131: the choice at the end of the cycle starts the hold-wait, and then PRINT lapses. -/
theorem test_hold_wait_starts_before_print_lapses :
    (next (exec (.settleFixedEnd .printer) lastCell)).printer.holdWait = .waiting 210000 ∧
    (next (exec (.settleFixedEnd .printer) lastCell)).motor.state = .runOn (10000 + 20 * 100000) ∧
    (next (exec (.settleFixedEnd .printer) lastCell)).motor.demand.print = false := by decide
/-- R86: a far-end clear ends CLEARING at entry, here with a change to space after the run's start edge. -/
theorem test_far_end_clear_ends_clearing_at_entry :
    (next (exec .clearThreshold { connected with lrx := { connected.lrx with
      filter := Filter.at false, since := 5000
      state := .spaceRun { t0 := 0, breakAt := 30000, clearAt := 200000, char := none, broken := true } } })).call.state =
      .releasing := by decide

/-- The loader in the load of a RELOAD. -/
def reloading : LoaderState := .loading (Loading.mk .reload true .raw)

/-- The printer waiting for its paper to be restored, with one cell in P-LINE. -/
def restoring (l : LoaderState) (d : Demand) (m : MotorState) : State :=
  { ready with
    isl := { ready.isl with loader := l }
    printer := { ready.printer with restore := some 20000 }
    store := { Store.reset with pLine := { chain := [0], headOffset := 0, cells := [blankEntry] } }
    motor := { ready.motor with state := m, demand := d } }

/-- No member stands. -/
def noDemand : Demand := { call := false, print := false, punch := false }

/-- R166: while RELOAD loads no member is placed, so the motor stays OFF and no cycle starts; READY it is placed. -/
theorem test_no_member_is_placed_while_reload_loads :
    (next (exec .paperRestoreExpiry (restoring reloading noDemand .off))).motor.state = .off ∧
    (next (exec .paperRestoreExpiry (restoring .ready noDemand .off))).motor.state = .runUp 70000 ∧
    (next (exec .paperRestoreExpiry
      (restoring reloading { noDemand with punch := true } .running))).printer.cycle = none ∧
    (next (exec .paperRestoreExpiry
      (restoring reloading { noDemand with print := true } .running))).printer.cycle ≠ none := by decide

/-! ## States that meet the hypotheses of the statements

One theorem for each statement that has hypotheses, with a part for each of its clauses. A clause's state is named by what
differs from `ready` or `connected`. -/

/-- A cell. -/
def cellOf (c : Code) : Cell := { code := c, case := .letters, origin := .received, quality := .clean }

/-- A filed record of 17 cells, so of two blocks. -/
def record : Message :=
  { number := 1, state := .filed, kind := .incoming, part := 1, continued := false,
    cells := List.replicate 17 (cellOf 1), chain := [0, 1], doubtful := 0, substituted := 0, lost := 0,
    openedAt := 0, duration := some 3, caller := none }

/-- READY with records in the file and perhaps a replay. -/
def withFile (records : List Message) (replay : Option Replay) : State :=
  { ready with file := { File.reset with records := records, replay := replay } }

/-- READY with one record being replayed to the printer, ready to print. -/
def replaying (position : Nat) (t : ReplayTarget) : State :=
  { withFile [{ record with state := .replaying }] (some { number := 1, target := t, position := position }) with
    printer := { Printer.reset with paper := true }, punch := { Punch.reset with tape := true } }

/-- READY with the punch owned. -/
def owned (st : Stream) : State := { ready with punch := { ready.punch with owner := some st } }

/-- CONNECTED with the sender otherwise. -/
def sender (l : Ltx) : State := { connected with ltx := l }

/-- CONNECTED with an answerback of one code. -/
def withAnswerback : State := { connected with isl := { connected.isl with answerback := [(1, .letters)] } }

theorem withFile_takesCommands (r : List Message) (p : Option Replay) : (withFile r p).TakesCommands :=
  ⟨rfl, rfl, rfl, rfl⟩

/-- State.reset meets each invariant, and a step from it answers a next state. -/
theorem witness_invariants_store : State.reset.BlocksHeld ∧ State.reset.SpoolsShaped := by
  refine ⟨⟨?_, List.nodup_nil⟩, ⟨rfl, rfl, rfl, rfl, rfl⟩⟩
  simp [State.everyBlock, State.reset, State.powerOnValues, Store.reset, Spool.empty, File.reset]

theorem witness_invariants_file : State.reset.FileSound ∧ State.reset.NoticesSound := by
  refine ⟨⟨by decide, List.nodup_nil, by simp [State.reset, State.powerOnValues, File.reset], by decide,
    by simp [State.reset, State.powerOnValues, File.reset],
    by simp [State.reset, State.powerOnValues, File.reset]⟩, ⟨by decide, List.nodup_nil⟩⟩

theorem witness_invariants_options : State.reset.OptionsSound :=
  ⟨by decide, by decide, by decide, by decide⟩

theorem witness_invariants_carriage : State.reset.CarriageSound ∧ State.reset.ArbiterSound :=
  ⟨⟨witness_invariants_options, by decide, by simp [State.reset, State.powerOnValues, Printer.reset]⟩,
    ⟨by decide, by decide⟩⟩

theorem witness_invariants_mechanisms : State.reset.CyclesSound ∧ State.reset.PunchOwned := by
  refine ⟨⟨rfl, by decide, by decide, by decide, by decide, fun h => by cases h⟩,
    ⟨by decide, by simp [State.reset, State.powerOnValues, Store.reset, Spool.empty], by decide, by decide,
      by simp [State.reset, State.powerOnValues, Punch.reset], by decide, by decide, by decide, by decide,
      by decide, by decide, by decide⟩⟩

theorem witness_invariants_call : State.reset.CallSound :=
  ⟨⟨by decide, by decide, by decide, by decide, by decide, by decide, by decide, by decide, by decide, by decide,
    by decide⟩, by decide, by decide, by decide, by decide, by decide, by decide, by decide, by decide, rfl,
    by decide, by decide, by decide⟩

theorem witness_invariants_keyboard : State.reset.KeyboardSound := by
  refine ⟨by decide, by decide, by decide, by decide, by decide, ?_⟩
  simp [State.reset, State.powerOnValues, Isl.reset]

theorem witness_invariants_link : State.reset.LinkSound := by
  refine ⟨by decide, by decide, by decide, ?_, by decide, by decide, trivial, by decide⟩
  intro kind
  simp [State.reset, State.powerOnValues, Link.reset, Inbound.turn]

theorem witness_invariants_step : ∃ t, step State.reset = .next t := ⟨_, rfl⟩

/-! ### The Control Link -/

/-- READY with the link otherwise. -/
def withLink (l : Link) : State := { ready with link := l }

theorem witness_StepRunsTheFrontRowOrTicks : State.reset.pending = [] := rfl

theorem witness_CommandRowIsItsFrame :
    commandFrame (.setOption 0x20 72) = some (0x04, [0x20, 0, 72]) := by decide

theorem witness_LinkChecksComeBeforeTheOwner :
    (commandFrame (.unknownCommandKind 0x28 []) = some (0x28, []) ∧ ready.link.inbound = .empty ∧
      ready.link.pendingReply = .none ∧ ready.link.outOfTurn = .none ∧
      ¬ (0x01 ≤ (0x28 : Byte).toNat ∧ (0x28 : Byte).toNat ≤ 0x27) ∧
      ¬ (0x01 ≤ (0x00 : Byte).toNat ∧ (0x00 : Byte).toNat ≤ 0x27)) ∧
    (commandFrame (.submitText 0 []) = some (0x09, [0]) ∧ lengthAllowed 0x09 [(0 : Byte)].length = false) ∧
    (commandFrame .restart = some (0x27, []) ∧ lengthAllowed 0x27 ([] : List Byte).length = true ∧
      State.reset.link.inbound = .empty ∧ State.reset.link.pendingReply = .none ∧
      State.reset.link.outOfTurn = .none ∧ State.reset.isl.loader ≠ .ready) := by decide

theorem witness_LinkChecksComeBeforeTheOwner_reload :
    commandFrame .startService = some (0x02, []) ∧
    ({ next (exec .reload ready) with link := ready.link } : State).isl.loader =
      .loading { occasion := .reload, byte0Read := false, modeBefore := .raw } ∧
    ready.link.inbound = .empty ∧ ready.link.pendingReply = .none ∧ ready.link.outOfTurn = .none := by decide

theorem witness_RefusedCommandChangesNothing : ∃ t,
    commandFrame (.unknownCommandKind 0x28 []) = some (0x28, []) ∧ ready.link.inbound = .empty ∧
      ready.link.pendingReply = .none ∧ ready.link.outOfTurn = .none ∧
      exec (.unknownCommandKind 0x28 []) ready = .next t ∧
      t.link.pendingReply = .awaited (some (.refused 0x28 .unknownKind)) :=
  ⟨_, by decide, rfl, rfl, rfl, rfl, by decide⟩

theorem witness_OutOfTurnFrameIsOwedOneAnswer :
    commandFrame .getCall = some (0x13, []) ∧
    (withLink { ready.link with pendingReply := .sending }).link.pendingReply ≠ .none ∧
    (withLink { ready.link with pendingReply := .sending }).link.inbound = .empty ∧
    (withLink { ready.link with pendingReply := .sending }).link.outOfTurn = .none ∧
    (withLink { ready.link with outOfTurn := .sending }).link.outOfTurn ≠ .none ∧
    (withLink { ready.link with outOfTurn := .sending }).link.inbound = .empty := by decide

theorem witness_InboundBytesAndTimersAssembleFrames :
    (ready.link.inbound = .empty ∧ ready.link.pendingReply = .none ∧ ready.link.outOfTurn = .none) ∧
    (withLink { ready.link with pendingReply := .awaited none }).link.pendingReply ≠ .none ∧
    (withLink { ready.link with inbound := .kindReceived 9 .inTurn 2000 }).link.inbound =
      .kindReceived 9 .inTurn 2000 ∧
    (1 ≤ (48 : Byte).toNat ∧ (48 : Byte).toNat ≤ 48 ∧ 48 < (49 : Byte).toNat ∧ 1 ≤ (1 : Byte).toNat) ∧
    (withLink { ready.link with inbound := .inBody 9 .inTurn 2 [0] 2000 }).link.inbound =
      .inBody 9 .inTurn 2 [0] 2000 ∧
    (withLink { ready.link with inbound := .inBody 9 .outOfTurn 1 [0] 2000 }).link.inbound =
      .inBody 9 .outOfTurn 1 [0] 2000 ∧
    (withLink { ready.link with inbound := .discarding 2001 }).link.inbound = .discarding 2001 := by decide

/-- A reply and a notice to be sent. -/
def aReply : Reply := .accepted 0x0E .done
def aNotice : Notice := { body := .callWithdrawn, lost := false }

theorem witness_OutboundFramesGoInOrder :
    ready.link.sending = none ∧ ready.link.holdOff = false ∧
    (withLink { ready.link with sending := some (.reply aReply) }).link.sending = some (.reply aReply) ∧
    (withLink { ready.link with sending := some (.outOfTurn aReply) }).link.sending = some (.outOfTurn aReply) ∧
    (withLink { ready.link with sending := some (.notice aNotice) }).link.sending = some (.notice aNotice) ∧
    (withLink { ready.link with holdOff := true }).link.holdOff = true ∧
    (withLink { ready.link with pendingReply := .awaited (some aReply) }).link.pendingReply =
      .awaited (some aReply) ∧
    (withLink { ready.link with outOfTurn := .owed 3 }).link.outOfTurn = .owed 3 ∧
    (withLink { ready.link with outOfTurn := .owed 3 }).link.pendingReply = .none ∧
    (withLink { ready.link with notices := [aNotice] }).link.notices = [aNotice] ∧
    (withLink { ready.link with notices := [aNotice] }).link.pendingReply = .none ∧
    (withLink { ready.link with notices := [aNotice] }).link.outOfTurn = .none := by decide

/-- A notice of three bytes held after two of them, and not held. -/
def sendingFrame (holdOff : Bool) (sent : Nat) : State :=
  withLink { ready.link with sending := some (.notice aNotice), holdOff := holdOff, sent := sent, boundary := 5 }

theorem witness_OutboundFramesGoInOrder_bytes :
    (∀ h n, (sendingFrame h n).link.sending = some (.notice aNotice)) ∧
    (OutFrame.notice aNotice).bytes.length = 3 ∧
    ((sendingFrame true 2).link.holdOff = true ∧ (sendingFrame true 2).link.sent < 3) ∧
    3 ≤ (sendingFrame true 3).link.sent ∧ (sendingFrame false 0).link.holdOff = false ∧
    ({ sendingFrame false 0 with now := 5 } : State).link.boundary ≤ ({ sendingFrame false 0 with now := 5 } : State).now ∧
    ((0 : Nat) = (5 - 5) * ready.link.rate / 1000000 ∧ 0 + 0 < 3) ∧
    ready.link.sending = none ∧ ready.link.holdOff = false ∧
    (withLink { ready.link with holdOff := true }).link.sending = none ∧ ready.link.notices = [] ∧
    (∀ r, ready.link.pendingReply ≠ .awaited (some r)) ∧ (∀ k, ready.link.outOfTurn ≠ .owed k) :=
  ⟨fun _ _ => rfl, by decide, by decide, by decide, rfl, by decide, by decide, rfl, rfl, rfl, rfl,
    fun _ => by simp [ready, State.reset, State.powerOnValues, Link.reset],
    fun _ => by simp [ready, State.reset, State.powerOnValues, Link.reset]⟩

/-- A coalescable notice. -/
def overflow (n : Nat) : NoticeBody := .overflow .pLine .noBlock n

theorem witness_NoticeJoinsReplacesOrIsDropped :
    (overflow 3).coalesces (overflow 4) = true ∧
    (∀ n ∈ [aNotice], (overflow 3).coalesces n.body = false) ∧
    (∀ n ∈ List.replicate 15 aNotice, (overflow 3).coalesces n.body = false) ∧
    (List.replicate 15 aNotice).length < 16 ∧
    (∀ n ∈ List.replicate 16 aNotice, (overflow 3).coalesces n.body = false) ∧
    16 ≤ (List.replicate 16 aNotice).length := by decide

/-! ### Calls and the line -/

theorem witness_ServiceCommandsComplete :
    (∀ c, (inCall c).TakesCommands ∧ (inCall c).call.state = c) ∧
    (({ inCall .releasing with call := { (inCall .releasing).call with stopPending := true } } : State).TakesCommands) :=
  ⟨fun c => ⟨inCall_takesCommands c, rfl⟩, ⟨rfl, rfl, rfl, rfl⟩⟩

theorem witness_ServiceCommandsComplete_refused :
    (inCall .clearing).TakesCommands ∧ (inCall .clearing).call.stopPending = false ∧
    (inCall .releasing).call.stopPending = false :=
  ⟨inCall_takesCommands _, rfl, rfl⟩

theorem witness_CallCommandsCompleteByTheCallState :
    ∀ c, (inCall c).TakesCommands ∧ (inCall c).call.state = c :=
  fun c => ⟨inCall_takesCommands c, rfl⟩

theorem witness_LineCommandsComplete :
    connected.TakesCommands ∧ connected.call.state = .connected ∧
    (withAnswerback.TakesCommands ∧ withAnswerback.call.state = .connected ∧ withAnswerback.ltx.answerback = none ∧
      withAnswerback.isl.answerback ≠ []) ∧
    ((sender { Ltx.reset with answerback := some 0 }).TakesCommands ∧
      (sender { Ltx.reset with answerback := some 0 }).ltx.answerback ≠ none) ∧
    (connected.ltx.answerback = none ∧ connected.isl.answerback = []) ∧
    ((sender { Ltx.reset with hold := true }).TakesCommands ∧
      (sender { Ltx.reset with hold := true }).ltx.hold = true) ∧ connected.ltx.hold = false :=
  ⟨connected_takesCommands, rfl, ⟨⟨rfl, rfl, rfl, rfl⟩, rfl, rfl, by decide⟩,
    ⟨⟨rfl, rfl, rfl, rfl⟩, by decide⟩, ⟨rfl, rfl⟩, ⟨⟨rfl, rfl, rfl, rfl⟩, rfl⟩, rfl⟩

theorem witness_GetCallReportsTheRecord : ready.TakesCommands := ready_takesCommands

theorem witness_LineQualityIsReportedThenCleared :
    ready.TakesCommands ∧ 2 ≤ (2 : Byte).toNat := ⟨ready_takesCommands, by decide⟩

/-! ### The Message File -/

theorem witness_FileReadsReportOrAreRefused :
    (withFile [record] none).TakesCommands ∧ (withFile [record] none).file.find 1 = some record ∧
    (withFile [record] none).file.replay = none ∧
    ((replaying 0 .print).TakesCommands ∧
      (replaying 0 .print).file.find 1 = some { record with state := .replaying } ∧
      (replaying 0 .print).file.replay = some { number := 1, target := .print, position := 0 }) ∧
    (ready.TakesCommands ∧ ready.file.find 1 = none) ∧
    (1 ≤ (1 : Byte).toNat ∧ (40 : Byte).toNat ≤ 40 ∧ (0 : Byte).toNat = 0 ∧ 40 < (41 : Byte).toNat ∧
      (1 : Byte).toNat ≤ 1 ∧ 2 ≤ (2 : Byte).toNat) :=
  ⟨withFile_takesCommands .., by decide, rfl, ⟨⟨rfl, rfl, rfl, rfl⟩, by decide, rfl⟩,
    ⟨ready_takesCommands, by decide⟩, by decide⟩

theorem witness_DeleteAndReplayComplete :
    ((withFile [record] none).TakesCommands ∧ (withFile [record] none).file.find 1 = some record ∧
      record.state = .filed ∧ (withFile [record] none).file.replay = none ∧
      replayTargetOf 1 = some .punch ∧ (withFile [record] none).punch.owner = none) ∧
    ((replaying 16 .print).file.replay = some { number := 1, target := .print, position := 16 } ∧
      (replaying 16 .print).file.find 1 = some { record with state := .replaying } ∧
      record.cells[16]? = some (cellOf 1) ∧ (replaying 16 .print).replayTakes .print = true ∧
      record.cells.length ≤ 16 + 1) ∧
    ((replaying 15 .punch).replayTakes .punch = true ∧ record.cells[15]? = some (cellOf 1) ∧
      15 + 1 < record.cells.length) ∧
    ((withFile [] none).replayTakes .print = false) :=
  ⟨⟨withFile_takesCommands .., by decide, rfl, rfl, by decide, rfl⟩, by decide, by decide, by decide⟩

theorem witness_DeleteAndReplayComplete_refused :
    ((withFile [{ record with state := .receiving }] none).TakesCommands ∧
      (withFile [{ record with state := .receiving }] none).file.find (1 : Byte).toNat =
        some { record with state := .receiving } ∧
      (withFile [{ record with state := .receiving }] none).file.replay = none) ∧
    ((replaying 0 .print).TakesCommands ∧
      (replaying 0 .print).file.find (1 : Byte).toNat = some { record with state := .replaying } ∧
      (replaying 0 .print).file.replay ≠ none) ∧
    (({ withFile [record] none with punch := (owned .line).punch } : State).TakesCommands ∧
      ({ withFile [record] none with punch := (owned .line).punch } : State).file.find (1 : Byte).toNat = some record ∧
      record.state ≠ .receiving ∧
      ({ withFile [record] none with punch := (owned .line).punch } : State).punch.owner = some .line) ∧
    replayTargetOf 0 = some .print ∧ replayTargetOf 1 = some .punch :=
  ⟨⟨withFile_takesCommands .., by decide, rfl⟩, ⟨⟨rfl, rfl, rfl, rfl⟩, by decide, by decide⟩,
    ⟨⟨rfl, rfl, rfl, rfl⟩, by decide, by decide, rfl⟩, by decide⟩

/-! ### Options, routes, spools and mechanisms -/

theorem witness_OptionCommandsComplete : ready.TakesCommands ∧
    OptionName.ofOffset 0x02 = none ∧ OptionName.ofOffset 0x01 = some .unitTime ∧
    (OptionName.unitTime.spec.kind = .numeric 400 2500 ∧ 2500 = max 400 (min 2500 65535)) ∧
    (OptionName.answerPolicy.spec.kind = .codes 3 ∧ 2 < 3 ∧ 3 ≤ 3) ∧
    (OptionName.substitute.spec.kind = .cellByte ∧ 63 < 64 ∧ 64 ≤ 64) ∧
    (OptionName.breakLength.inOrdering = true ∧
      optionsOrdered (optionSet ready.isl.options .breakLength 31) = true ∧
      optionsOrdered (optionSet ready.isl.options .breakLength 30) = false) :=
  ⟨ready_takesCommands, by decide⟩

theorem witness_RouteCommandsComplete : ready.TakesCommands ∧
    (routeOf 2 = some .keyedLocal ∧ destinationsOf 3 = some { print := true, punch := true, file := false } ∧
      printStandInOf 1 = some (some .punch) ∧ punchStandInOf 1 = some (some .print) ∧
      quotaActionOf 2 = some .suspend) ∧
    (routeOf 3 = none ∧ destinationsOf 8 = none ∧ printStandInOf 3 = none ∧ punchStandInOf 3 = none ∧
      quotaActionOf 3 = none ∧ (4 : Byte).getLsbD 2 = true) ∧
    (2 ≤ (2 : Byte).toNat ∧ 3 ≤ (3 : Byte).toNat) :=
  ⟨ready_takesCommands, by decide⟩

theorem witness_SubmitAndClearMoveWholeSpools : ready.TakesCommands ∧ connected.TakesCommands ∧
    (3 ≤ (3 : Byte).toNat ∧ 64 ≤ (64 : Byte).toNat ∧ (63 : Byte).toNat < 64) ∧
    ready.call.state ≠ .connected ∧ (owned .line).punch.owner = some .line ∧
    (submitTargetOf 0 = some .send ∧ connected.call.state = .connected) ∧
    (submitTargetOf 2 = some .punch ∧ ready.punch.owner = none ∧ (owned .submitted).punch.owner = some .submitted) ∧
    1 ≤ ready.store.capacity .pSubmit ∧
    ({ ready.store with free := [] } : Store).capacity .pSubmit < 1 ∧
    (5 ≤ (5 : Byte).toNat ∧ spoolOf 4 = some .send ∧ spoolOf 3 = some .punch) ∧
    (owned .loc).punch.owner = some .loc :=
  ⟨ready_takesCommands, connected_takesCommands, by decide, by decide, rfl, by decide, by decide,
    by decide +kernel, by decide, by decide, rfl⟩

/-- A print cycle and a punch cycle in a phase. -/
def printCycle (p : PrintPhase) (r : CodeClass) (k : PrintCycleKind) : PrintCycle :=
  { code := 1, reading := r, kind := k, phase := p, strikePulse := 12, programmed := 100, mode := .fixed,
    extra := 20 }
def punchCycle (p : PunchPhase) : PunchCycle :=
  { code := 31, shift := some .letters, phase := p, feedPulse := 8, programmed := 60, mode := .fixed, extra := 20,
    muted := false }

/-- READY with a cycle of a mechanism in flight and its settle record. -/
def printing (c : PrintCycle) (r : Settle) : State :=
  { ready with printer := { ready.printer with cycle := some c, paper := true }
               motor := { ready.motor with printTiming := r } }
def punching (c : PunchCycle) (r : Settle) : State :=
  { ready with punch := { ready.punch with cycle := some c, tape := true }
               motor := { ready.motor with punchTiming := r } }

theorem witness_PrinterCommandsComplete : ready.TakesCommands ∧ ready.printer.cycle = none ∧
    (printing (printCycle .settle .printing .own) Settle.reset).TakesCommands ∧
    (printing (printCycle .settle .printing .own) Settle.reset).printer.cycle.isSome = true :=
  ⟨ready_takesCommands, rfl, ⟨rfl, rfl, rfl, rfl⟩, rfl⟩

theorem witness_PunchCommandsComplete : ready.TakesCommands ∧ (∀ st, (owned st).TakesCommands) ∧
    ((0 : Byte).toNat = 0 ∧ 1 ≤ (1 : Byte).toNat) ∧ ready.punch.owner = none ∧ ready.punch.feedRequest = none ∧
    (owned .line).punch.owner = some .line ∧ (owned .submitted).punch.owner = some .submitted ∧
    (owned .submitted).punchAtRest = true ∧
    ({ owned .submitted with punch := { (owned .submitted).punch with
        feedRequest := some { blanks := 1, ahead := 0 } } } : State).punchAtRest = false :=
  ⟨ready_takesCommands, fun _ => ⟨rfl, rfl, rfl, rfl⟩, by decide, rfl, rfl, rfl, rfl, by decide, by decide⟩

/-- READY with a key map of one entry everywhere, in a mode, and a position DOWN or UP. -/
def keyed (e : KeyEntry) (m : KeyboardMode) (down : Bool) : State :=
  { ready with
    isl := { ready.isl with keyMap := some (List.replicate 64 e) }
    keyboard := { ready.keyboard with
      mode := m, positions := Keyboard.allUp.set 5 (Filter.at down) } }

theorem witness_KeyboardModeIsSetWithItsEffects : ready.TakesCommands ∧ 4 ≤ (4 : Byte).toNat ∧
    (modeOf 0 = some .loc ∧ modeOf 3 = some .locked) ∧ ready.isl.keyMap = none ∧
    (keyed .none .line false).TakesCommands ∧ (keyed .none .line false).isl.keyMap ≠ none :=
  ⟨ready_takesCommands, by decide, by decide, rfl, ⟨rfl, rfl, rfl, rfl⟩, by decide⟩

/-- READY with a store operation, or with the store ABSENT. -/
def storing (o : Option StoreOp) (p : Presence) : State :=
  { ready with isl := { ready.isl with storeOp := o, presence := p } }

theorem witness_StoreCommandsComplete : (∀ p, (storing none p).TakesCommands) ∧
    ((0 : Byte).toNat = 0 ∧ 40 < (41 : Byte).toNat ∧ 256 < (255 : Byte).toNat + (2 : Byte).toNat ∧
      (216 : Byte).toNat + (40 : Byte).toNat ≤ 256) ∧
    ((storing none .absent).isl.presence = .absent ∧ (storing none .present).isl.presence ≠ .absent) ∧
    (16 < (15 : Byte).toNat % 16 + 2 ∧ (15 : Byte).toNat % 16 + 1 ≤ 16) ∧
    (storing (some (.read 0 2)) .present).isl.storeOp = some (.read 0 2) ∧
    [(0 : Byte), 1].length = (2 : Byte).toNat ∧
    (storing (some (.write 0 [1, 2])) .present).isl.storeOp = some (.write 0 [1, 2]) :=
  ⟨fun _ => ⟨rfl, rfl, rfl, rfl⟩, by decide, by decide, by decide, rfl, by decide, rfl⟩

/-- READY with one record in a state, the motor in a state, and a mechanism without supply in FAULT. -/
def filing1 (r : MessageState) : State := withFile [{ record with state := r }] none
def withMotor (m : MotorState) : State := { ready with motor := { ready.motor with state := m } }
def heldNoPaper : State :=
  { ready with printer := { ready.printer with fault := true, paper := false, paperOut := Filter.at true } }
def faultTapeOut : State :=
  { ready with punch := { ready.punch with fault := true, tape := false, tapeOut := Filter.at true } }
def offPunch : State := { ready with punch := { ready.punch with switch := false } }

theorem witness_ReloadAndRestartBegin : ready.TakesCommands ∧ ready.call.state = .outOfService ∧
    (connected.TakesCommands ∧ connected.call.record.state ≠ .ended ∧ connected.file.receiving = none) ∧
    ready.printer.cycle = none ∧
    ((filing1 .receiving).TakesCommands ∧ (filing1 .receiving).file.receiving = some { record with state := .receiving }) ∧
    ((replaying 3 .print).TakesCommands ∧
      (replaying 3 .print).file.replay.any (fun r => record.number = r.number) = true) ∧
    (∀ m, (withMotor m).TakesCommands ∧ (withMotor m).motor.state = m) ∧
    (∀ r, (printing (printCycle .settle r .own) Settle.reset).TakesCommands ∧
      (printing (printCycle .settle r .own) Settle.reset).printer.cycle = some (printCycle .settle r .own)) ∧
    (heldNoPaper.TakesCommands ∧ heldNoPaper.printer.status ≠ .noPaper ∧ heldNoPaper.printer.paper = false ∧
      heldNoPaper.printer.paperOut.level = some true) ∧
    (faultTapeOut.TakesCommands ∧ faultTapeOut.punch.status ≠ .tapeOut ∧ faultTapeOut.punch.switch = true ∧
      faultTapeOut.punch.tape = false ∧ faultTapeOut.punch.tapeOut.level = some true) ∧
    ready.printer.status = .noPaper ∧ ready.punch.status = .tapeOut ∧ (offPunch.punch.switch = false) :=
  ⟨ready_takesCommands, rfl, ⟨connected_takesCommands, by decide, rfl⟩, rfl, ⟨⟨rfl, rfl, rfl, rfl⟩, by decide⟩,
    ⟨⟨rfl, rfl, rfl, rfl⟩, by decide⟩, fun _ => ⟨⟨rfl, rfl, rfl, rfl⟩, rfl⟩, fun _ => ⟨⟨rfl, rfl, rfl, rfl⟩, rfl⟩,
    ⟨⟨rfl, rfl, rfl, rfl⟩, by decide⟩, ⟨⟨rfl, rfl, rfl, rfl⟩, by decide⟩, by decide, by decide, by decide⟩

/-- LOADING at an occasion. -/
def loading (o : LoadOccasion) (read : Bool) : State :=
  { State.reset with isl := { State.reset.isl with
      loader := .loading { occasion := o, byte0Read := read, modeBefore := .locked } } }

theorem witness_LoadRowsComplete :
    (∀ o r, (loading o r).isl.loader = .loading { occasion := o, byte0Read := r, modeBefore := .locked }) ∧
    (optionGet (loadImage .present .basic exampleImage).options .startInService = 0 ∧
      optionGet (loadImage .present .basic (exampleImage.set 26 1)).options .startInService = 1) ∧
    ((List.replicate 0x54 (0 : Byte)).length < 0x55 ∧ 0x55 ≤ exampleImage.length ∧
      exampleImage.length < 0xBF ∧ 0xBF ≤ (List.replicate 0xBF (0 : Byte)).length) ∧
    LoadKind.basic ≠ .none :=
  ⟨fun _ _ => rfl, by decide +kernel, by decide +kernel, by decide⟩

theorem witness_LoadRowsComplete_sections :
    (0x3E ≤ (List.replicate 0x3E (0 : Byte)).length ∧ 0x50 + 5 ≤ exampleImage.length ∧
      0x67 ≤ (List.replicate 0x67 (0 : Byte)).length ∧ 0x7C ≤ (List.replicate 0x7C (0 : Byte)).length) ∧
    (6 * 2000 + 24 * 2000 / 16 < 30 * 1000 ∧ 30 < 40 ∧ 40 < 200 ∧ ¬ 40 < 25) ∧
    ((7 : Byte).toNat < 8 ∧ ¬ (8 : Byte).toNat < 8 ∧ (3 : Byte).getLsbD 2 = false ∧ (4 : Byte).getLsbD 2 = true ∧
      3 ≤ (3 : Byte).toNat) ∧
    (([31, 27, 8, 2, 4, 0] : List Code).Nodup ∧ (9 : Code) ∉ ([31, 27, 8, 2, 4, 0] : List Code) ∧
      ¬ ([31, 31, 8, 2, 4, 0] : List Code).Nodup) ∧
    (20 < (21 : Byte).toNat ∧ (20 : Byte).toNat ≤ 20) ∧
    ((0x1F : Byte).toNat / 32 = 0 ∧ (0x3F : Byte).toNat / 32 = 1 ∧ (0x5F : Byte).toNat / 32 = 2 ∧
      (0x7F : Byte).toNat / 32 = 3 ∧ (0x83 : Byte).toNat = 0x83 ∧ 0x84 ≤ (0x84 : Byte).toNat) := by decide +kernel

theorem witness_KeysActByTheMode :
    (∀ e m d, (keyed e m d).isl.loader = .ready ∧ (keyed e m d).keyboard.positions.length = 64 ∧
      (keyed e m d).keyboard.mode = m) ∧
    ((keyed .none .raw false).keyboard.position 5).level = some false ∧
    ((keyed .none .raw true).keyboard.position 5).level = some true ∧
    (∀ e, (keyed e .loc false).keyEntry 5 = e) ∧
    ({ connected with keyboard := { connected.keyboard with mode := .line } } : State).call.state = .connected ∧
    connected.store.spoolRefusal .send = none ∧
    ({ connected.store with free := [] } : Store).spoolRefusal .send ≠ none :=
  ⟨fun _ _ _ => ⟨rfl, rfl, rfl⟩, by decide, by decide, fun _ => rfl, rfl, by decide +kernel, by decide⟩

/-- READY in LOCAL with HERE-IS everywhere and an answerback, and with P-LOCAL full. -/
def hereIs (free : List Nat) : State :=
  { keyed (.function .hereIs) .loc false with
    isl := { (keyed (.function .hereIs) .loc false).isl with answerback := [(1, .letters)] }
    store := { Store.reset with free := free } }

/-- READY in LOCAL with FEED everywhere and a punch. -/
def feedKey (p : Punch) : State := { keyed (.function .feed) .loc false with punch := p }

theorem witness_KeysActByTheMode_function_keys :
    (ready.keyboard.scanStart = some 0 ∧ State.reset.keyboard.scanStart = none) ∧
    ((hereIs [0]).keyEntry 5 = .function .hereIs ∧ (hereIs [0]).isl.answerback ≠ [] ∧
      (hereIs [0]).isl.answerback.length ≤ (hereIs [0]).store.capacity .pLocal ∧
      (hereIs []).store.capacity .pLocal < (hereIs []).isl.answerback.length ∧
      (hereIs []).ltx.answerback = none ∧ (keyed (.function .hereIs) .loc false).isl.answerback = []) ∧
    ((feedKey { Punch.reset with tape := true }).keyEntry 5 = .function .feed ∧
      (feedKey { Punch.reset with tape := true }).punch.status = .onIdle ∧
      (feedKey { Punch.reset with tape := true }).punch.owner = none ∧
      (feedKey { Punch.reset with tape := true, owner := some .loc }).punch.owner = some .loc ∧
      (feedKey { Punch.reset with tape := true, owner := some .line }).punch.owner = some .line ∧
      (feedKey Punch.reset).punch.status ≠ .onIdle ∧ (feedKey Punch.reset).punch.status ≠ .cycle) := by decide +kernel

theorem witness_KeysActByTheMode_readings :
    ready.keyboard.thirdFrom.getD 5 2 = 2 ∧ (ready.atReading 5).keyboard.thirdFrom.getD 5 2 = 5 ∧
    (ready.atReading 5).keyboard.nextReading = 134 := by decide

/-- READY with the Call Controller otherwise, and options written. -/
def withCall (c : Call) (n : OptionName) (v : Nat) : State :=
  { ready with call := c, isl := { ready.isl with options := optionSet ready.isl.options n v } }

/-! ### The receiver and the sender -/

/-- CONNECTED with the receiver in a state. -/
def receiving (r : LrxState) : State := { connected with lrx := { connected.lrx with state := r } }

/-- A space run. -/
def run (broken : Bool) : SpaceRun :=
  { t0 := 0, breakAt := 30000, clearAt := 200000, char := none, broken := broken }

/-- A space run with a character pending, and CONNECTED with the line at space in a run. -/
def runPending : SpaceRun := { run false with char := some { code := 1, distortion := 3 } }
def runAtSpace (r : SpaceRun) : State :=
  { connected with lrx := { connected.lrx with filter := Filter.at false, state := .spaceRun r } }

theorem witness_FilteredChangesReachTheReceiver :
    (connected.lrx.level ≠ .space ∧ connected.lrx.state = .markRest ∧ connected.call.state = .connected) ∧
    (∀ c, (inCall c).call.state = c ∧ (inCall c).lrx.filter = Filter.at false ∧ (inCall c).lrx.state = .disabled) ∧
    ((receiving (.character exampleCharacter)).lrx.state = .character exampleCharacter ∧
      (receiving (.character exampleCharacter)).lrx.level ≠ .space) ∧
    (∀ r, (runAtSpace r).lrx.state = .spaceRun r ∧ (runAtSpace r).lrx.filter = Filter.at false ∧
      (runAtSpace r).call.state = .connected) ∧
    (29999 < (run false).breakAt ∧ (run false).breakAt ≤ 30000 ∧ (run false).broken = false ∧ (run false).char = none ∧
      (runPending).char ≠ none) ∧
    (({ ready.lrx with filter := Filter.at false } : Lrx).level ≠ .mark ∧ (run true).broken = true ∧ 199999 < (run true).clearAt ∧ (run true).clearAt ≤ 200000) :=
  ⟨by decide, fun _ => ⟨rfl, rfl, rfl⟩, by decide, fun _ => ⟨rfl, rfl, rfl⟩, by decide, by decide⟩

theorem witness_SamplesReadTheCharacter : (∀ a, (receiving (.character a)).lrx.state = .character a) ∧
    (levelAt [] 1000 = .space ∧ levelAt [(500, .mark)] 1000 = .mark) ∧
    (1 ≤ 1 ∧ 5 ≤ 5) :=
  ⟨fun _ => rfl, by decide, by decide⟩

theorem witness_StopSampleCompletesOrHoldsTheCharacter :
    (receiving (.character exampleCharacter)).lrx.state = .character exampleCharacter ∧
    exampleCharacter.next = 6 ∧ levelAt exampleCharacter.changes 53000 = .mark ∧
    levelAt [(42150, .mark), (45870, .space)] 53000 = .space := by decide

theorem witness_StopSampleCompletesOrHoldsTheCharacter_delivery :
    (connected.lrx.poorRun + 1 < connected.opt .poorLineRun ∧ connected.opt .poorLineRun = 4 ∧
      connected.opt .poorLineRun ≤ ({ connected.lrx with poorRun := 3 } : Lrx).poorRun + 1) ∧
    ready.call.state ≠ .connected ∧ connected.call.state = .connected ∧
    (connected.opt .enquiryHandling = 0 ∧ (withCall ready.call .enquiryHandling 1).opt .enquiryHandling ≠ 0) ∧
    (withAnswerback.isl.answerback ≠ [] ∧ withAnswerback.ltx.answerback = none ∧ connected.isl.answerback = []) := by
  decide

theorem witness_DistortionFigureLiesIn0To50 : (400 ≤ 400 ∧ 400 ≤ 2500) ∧ (400 ≤ 2500 ∧ 2500 ≤ 2500) := by decide

theorem witness_ThresholdsBreakAndClear : (receiving (.spaceRun (run false))).lrx.state = .spaceRun (run false) ∧
    (receiving (.spaceRun (run true))).call.state = .connected ∧ (run false).broken = false ∧
    (run true).broken = true ∧ (run false).char = none ∧ runPending.char ≠ none ∧
    (connected.lrx.poorRun + 1 < connected.opt .poorLineRun ∧
      connected.opt .poorLineRun ≤ ({ connected.lrx with poorRun := 3 } : Lrx).poorRun + 1) := by decide

/-- A character being keyed. -/
def keying (k : KeyingSource) : Keying :=
  { cell := { code := 1, case := .letters, origin := .sent, quality := .clean }, source := k, startedAt := 0,
    unitTicks := 2000, stopTicks := 3000 }

theorem witness_SenderRowsComplete :
    (∀ k, (sender { Ltx.reset with activity := .sending (keying k) }).ltx.activity = .sending (keying k)) ∧
    (sender { Ltx.reset with activity := .breaking 7 }).ltx.activity = .breaking 7 ∧
    ({ connected with lrx := { connected.lrx with guard := some 7 } } : State).lrx.guard = some 7 :=
  ⟨fun _ => rfl, rfl, rfl⟩

theorem witness_SenderTakesTheFirstItem :
    (connected.call.state = .connected ∧ connected.ltx.activity = .idle ∧ connected.ltx.breakRequest = false ∧
      connected.defers = false ∧ connected.ltx.answerback = none ∧ connected.ltx.enquiryRequest = false ∧
      connected.store.send.cells = [] ∧ connected.ltx.hold = false) ∧
    ready.call.state ≠ .connected ∧
    (sender { Ltx.reset with breakRequest := true }).ltx.breakRequest = true ∧
    (receiving (.spaceRun (run false))).defers = true ∧
    ({ withAnswerback with ltx := { Ltx.reset with answerback := some 0 } } : State).isl.answerback[0]? =
      some (1, .letters) ∧
    (sender { Ltx.reset with enquiryRequest := true }).ltx.enquiryRequest = true ∧
    (sender { Ltx.reset with hold := true }).ltx.hold = true ∧
    exampleStore.send.cells = blankEntry :: List.replicate 4 blankEntry := by decide

theorem witness_KeyedCharacterShapesTx : 0 < (keying .send).unitTicks ∧
    (1999 < (keying .send).unitTicks) ∧ ((4 + 1) * 2000 ≤ 11999 ∧ 11999 < (4 + 2) * 2000) ∧ 6 * 2000 ≤ 12000 ∧
    connected.call.state = .connected ∧ (inCall .calling).call.state = .calling ∧
    (inCall .offered).call.state ≠ .connected ∧ (inCall .offered).call.state ≠ .calling := by decide

/-! ### Call timers and the motor -/

/-- The Call Controller in a state with the motor in another and a member placed or not. -/
def powered (c : Call) (m : MotorState) (call : Bool) : State :=
  { ready with call := c, motor := { ready.motor with
      state := m, demand := { call := call, print := false, punch := false } } }

theorem witness_AttemptsBeginAndEnd :
    (∀ due, (withCall { ready.call with recognition := some due } .answerPolicy 2).call.recognition = some due) ∧
    ((withCall ready.call .answerPolicy 0).opt .answerPolicy = 0 ∧
      (withCall ready.call .answerPolicy 1).opt .answerPolicy = 1 ∧
      (withCall ready.call .answerPolicy 2).opt .answerPolicy = 2) ∧
    (∀ c, (withCall { ready.call with state := c, withdrawal := some 5 } .offerTime 9).call.withdrawal = some 5) ∧
    ((withCall { ready.call with offer := some 5 } .offerDefault 0).opt .offerDefault = 0 ∧
      (withCall { ready.call with offer := some 5 } .offerDefault 1).opt .offerDefault = 1) ∧
    (withCall { ready.call with confirm := some 5 } .offerTime 9).call.confirm = some 5 :=
  ⟨fun _ => rfl, by decide, fun _ => rfl, by decide, rfl⟩

theorem witness_AttemptsBeginAndEnd_entries :
    ((next (exec .acceptCall (inCall .offered))).motor.state ≠ .running) ∧
    (State.demandCall (powered ready.call .running false) true).motor.state = .running ∧
    (connected.lrx.level = .mark ∧
      connected.lrx.since + connected.opt .callRecognition * 1000 ≤ ({ connected with now := 20000 } : State).now ∧
      ¬ connected.lrx.since + connected.opt .callRecognition * 1000 ≤ ({ connected with now := 19999 } : State).now) := by
  decide

theorem witness_ConnectionRowsComplete :
    (∀ c m b, (powered c m b).motor.state = m ∧ (powered c m b).call = c) ∧
    (powered ready.call (.runUp 5) false).motor.demand.isEmpty = true ∧
    (powered ready.call (.runUp 5) true).motor.demand.isEmpty = false ∧
    ({ ready.call with state := .calling, markTiming := some 5 } : Call).markTiming = some 5 ∧
    5 ≤ max ready.now 5 ∧ ready.call.markTiming = none ∧
    (MotorState.running = .running ∧ MotorState.off ≠ .running) ∧
    ({ ready.motor with bell := some 5 } : Motor).bell = some 5 ∧
    ({ ready.call with idle := some 5, enquiryDelay := some 5, capture := some { due := 5, count := 1 } } :
      Call).capture = some { due := 5, count := 1 } :=
  ⟨fun _ _ _ => ⟨rfl, rfl⟩, by decide, by decide, rfl, by decide, rfl, by decide, rfl, rfl⟩

theorem witness_ConnectionRowsComplete_mark_still_timed :
    (powered { ready.call with state := .calling, markTiming := some 6 } (.runUp 5) true).call.markTiming = some 6 ∧
    max (powered { ready.call with state := .calling, markTiming := some 6 } (.runUp 5) true).now 5 < 6 ∧
    (powered { ready.call with state := .calling, markTiming := some 6 } (.runUp 5) true).motor.demand.isEmpty =
      false := by decide

theorem witness_EntryToClearingTakesItsSteps :
    ¬ (connected.lrx.level = .space ∧ connected.lrx.since + connected.timing.clearRec * 1000 ≤ connected.now) ∧
    (({ ready with now := 200000 } : State).lrx.level = .space ∧
      ({ ready with now := 200000 } : State).lrx.since +
        ({ ready with now := 200000 } : State).timing.clearRec * 1000 ≤
          ({ ready with now := 200000 } : State).now) ∧
    (owned .line).punch.owner = some .line ∧
    ready.file.records.countP (fun m => m.state == .receiving) ≤ 1 := by decide

theorem witness_EntryToClearingTakesItsSteps_records :
    (CallOutcome.farEnd = .farEnd ∧ CallOutcome.station ≠ .farEnd) ∧ connected.file.receiving = none ∧
    (withFile [{ record with state := .receiving }] none).file.receiving = some { record with state := .receiving } ∧
    ({ Punch.reset with lineRelease := .marked } : Punch).lineRelease = .marked := by decide

theorem witness_ClearingAndReleasingRowsComplete :
    (∀ c, (inCall c).call.clearCause = none) ∧
    ({ ready.call with clearCause := some .station, clearing := some 5, clearSpace := some 5 } :
      Call).clearCause = some .station ∧
    ({ ready.call with releasing := some 5, stopPending := true } : Call).releasing = some 5 ∧
    ready.call.stopPending = false :=
  ⟨fun _ => rfl, rfl, rfl, rfl⟩

theorem witness_DemandsFollowTheWorkAndMoveTheMotor :
    (powered ready.call .off false).motor.demand.isEmpty = true ∧
    (powered ready.call .running true).motor.demand.isEmpty = false ∧
    (powered ready.call (.runOn 5) false).motor.state = .runOn 5 ∧
    (powered ready.call (.runUp 5) true).motor.state = .runUp 5 := by decide

theorem witness_DemandsFollowTheWorkAndMoveTheMotor_withdrawn :
    (midLineRunUp.setDemand { call := true, print := false, punch := false }).motor.state = .runUp 5 ∧
    ((powered ready.call .running true).setDemand { call := true, print := false, punch := false }).motor.state =
      .running ∧
    ((powered ready.call .off false).setDemand { call := false, print := false, punch := false }).motor.state =
      .off := by decide

theorem witness_DemandsFollowTheWorkAndMoveTheMotor_loading :
    ready.isl.loader = .ready ∧ (restoring reloading noDemand .off).isl.loader ≠ .ready ∧
    (restoring reloading noDemand .off).motor.demand.print = false := by decide

/-! ### Mechanisms -/

theorem witness_CycleAndSettleRowsComplete :
    (∀ c r, (printing c r).printer.cycle = some c ∧ (printing c r).settle .printer = r) ∧
    (∀ c r, (punching c r).punch.cycle = some c ∧ (punching c r).settle .punch = r) ∧
    ((printCycle (.select 5) .bell .own).phase = .select 5 ∧ (printCycle (.strike 5) .bell .own).phase = .strike 5) ∧
    ((punchCycle (.punch 5)).phase = .punch 5 ∧ (punchCycle (.feed 5)).phase = .feed 5) ∧
    ((999 : Nat) + 1 < 1 + 1000 ∧ 1 + 1000 ≤ 1001) :=
  ⟨fun _ _ => ⟨rfl, rfl⟩, fun _ _ => ⟨rfl, rfl⟩, by decide, by decide, by decide⟩

theorem witness_CycleAndSettleRowsComplete_elapsed :
    Settle.reset.phase = .idle ∧ ({ Settle.reset with phase := .settling } : Settle).phase ≠ .idle := by decide

theorem witness_ReportsEndTheCycles :
    (∀ r k, (printing (printCycle .settle r k) Settle.reset).printer.cycle = some (printCycle .settle r k) ∧
      (printing (printCycle .settle r k) Settle.reset).printer.resetPending = false) ∧
    ({ printing (printCycle .settle .space .own) Settle.reset with printer :=
      { (printing (printCycle .settle .space .own) Settle.reset).printer with resetPending := true } } :
        State).printer.resetPending = true ∧
    (printing (printCycle .settle .space .own) Settle.reset).printer.column = none ∧
    (atColumn (some 71) 72 40 2).printer.column = some 71 ∧
    ((punching (punchCycle .settle) Settle.reset).punch.cycle = some (punchCycle .settle) ∧
      (punching (punchCycle .settle) Settle.reset).punch.fault = false) :=
  ⟨fun _ _ => ⟨rfl, rfl⟩, by decide, by decide, by decide, by decide⟩

theorem witness_ReportsEndTheCycles_muted :
    mutedAtLimit.punch.cycle.map PunchCycle.muted = some true ∧ (punchCycle .settle).muted = false ∧
    mutedAtLimit.punch.fault = false := by decide

/-- The printer IDLE under a RUNNING motor with PRINT placed, otherwise as given, with cells in P-LINE. -/
def idlePrinter (p : Printer) (line : List Entry) : State :=
  { ready with
    motor := { ready.motor with state := .running, demand := { call := true, print := true, punch := false } }
    printer := p
    store := { Store.reset with pLine := { chain := [0], headOffset := 0, cells := line } } }

theorem witness_PrinterMakesTheCycleTheCellNeeds :
    (atColumn none 72 40 2).printer.newlineOwed = .none ∧ (atColumn none 72 40 2).printer.column = none ∧
    (1 : Code) ≠ (atColumn none 72 40 2).isl.functionMap.carriageReturn ∧
    (8 : Code) = (atColumn none 72 40 2).isl.functionMap.carriageReturn ∧
    (FunctionMap.default.reading 1 .letters = .printing ∧ (atColumn (some 71) 72 40 2).printer.column = some 71 ∧
      (atColumn (some 71) 72 40 2).printer.width ≤ 71 + 1 ∧ (atColumn (some 71) 72 40 2).opt .autoNewline = 1) ∧
    (FunctionMap.default.needsShift 1 .letters .unknown = true ∧
      FunctionMap.default.needsShift 1 .letters .letters = false) ∧
    ({ ready.printer with newlineOwed := .crAndLf } : Printer).newlineOwed = .crAndLf ∧
    ({ ready.printer with newlineOwed := .lfOnly } : Printer).newlineOwed = .lfOnly := by decide

theorem witness_PrinterMakesTheCycleTheCellNeeds_timing :
    (ready.printCell .pLine (cellOf 1)).printer.cycle.isSome = true ∧
    ((ready.printCell .pLine (cellOf 1)).printer.cycle.map PrintCycle.reading = some .carriageReturn) := by decide

theorem witness_PrinterArbitratesAtLineBoundaries :
    ready.printer.status ≠ .idle ∧
    (idlePrinter { Printer.reset with paper := true } [blankEntry]).printer.status = .idle ∧
    (idlePrinter { Printer.reset with paper := true } [blankEntry]).motor.state = .running ∧
    (idlePrinter { Printer.reset with paper := true } [blankEntry]).printHead .pLine = some blankEntry.cell ∧
    (idlePrinter { Printer.reset with paper := true } [blankEntry]).printWork = true ∧
    (idlePrinter { Printer.reset with paper := true } []).printWork = false ∧
    ({ Printer.reset with current := some .pLine, committed := true } : Printer).committed = true ∧
    ({ Printer.reset with current := some .pLine, lineOpen := true } : Printer).lineOpen = true ∧
    (idlePrinter { Printer.reset with current := some .pLocal, lineOpen := true, holdWait := .expired }
      []).printHead .pLocal = none ∧
    ({ Printer.reset with holdWait := .waiting 5 } : Printer).holdWait = .waiting 5 := by decide

theorem witness_PrinterArbitratesAtLineBoundaries_grant :
    ({ Printer.reset with current := some .pLocal } : Printer).current = some .pLocal ∧
    Printer.reset.current ≠ some .pLocal := by decide

theorem witness_PrinterArbitratesAtLineBoundaries_review :
    ((idlePrinter { Printer.reset with paper := true, current := some .pLocal, holdWait := .expired }
        [blankEntry]).rivalWaits = true ∧
      (idlePrinter { Printer.reset with paper := true, current := some .pLocal, holdWait := .expired }
        [blankEntry]).printer.status = .idle ∧
      (idlePrinter { Printer.reset with paper := true, current := some .pLocal, holdWait := .expired }
        [blankEntry]).printHead .pLocal = none) ∧
    (idlePrinter { Printer.reset with paper := true, current := some .pLocal, holdWait := .expired } []).rivalWaits =
      false ∧
    (idlePrinter { Printer.reset with paper := true, current := some .pLine, holdWait := .waiting 5 }
      [blankEntry]).printHead .pLine ≠ none ∧
    ({ Printer.reset with holdWait := .waiting 5 } : Printer).status ≠ .idle ∧
    Printer.reset.holdWait = .notWaiting := by decide

theorem witness_PrinterArbitratesAtLineBoundaries_withdrawn :
    ({ ready.motor with printWithdrawn := true } : Motor).printWithdrawn = true ∧
    (idlePrinter { Printer.reset with paper := true } []).motor.printWithdrawn = false ∧
    (idlePrinter Printer.reset []).printer.status ≠ .idle ∧ (idlePrinter Printer.reset []).motor.state = .running := by
  decide

theorem witness_PrinterArbitratesAtLineBoundaries_placed :
    (idlePrinter { Printer.reset with paper := true } [blankEntry]).motor.demand.print = true ∧
    (restoring reloading noDemand .running).motor.demand.print = false ∧
    (restoring reloading noDemand .running).printWork = true ∧
    (restoring reloading noDemand .running).printer.current = none := by decide

/-- The punch under a RUNNING motor with PUNCH placed, otherwise as given, with cells in PUNCH. -/
def idlePunch (p : Punch) (cells : List Entry) : State :=
  { ready with
    motor := { ready.motor with state := .running, demand := { call := true, print := false, punch := true } }
    punch := p
    store := { Store.reset with punch := { chain := [0], headOffset := 0, cells := cells } } }

theorem witness_PunchTakesTheFirstItem :
    ready.punch.status ≠ .onIdle ∧
    (idlePunch { Punch.reset with tape := true } [blankEntry]).punch.status = .onIdle ∧
    (idlePunch { Punch.reset with tape := true } [blankEntry]).motor.state = .running ∧
    (idlePunch { Punch.reset with tape := true } [blankEntry]).store.punch.cells = blankEntry :: [] ∧
    (Punch.reset.committed = false ∧ Punch.reset.leader = 0 ∧ Punch.reset.feedRequest = none ∧
      Punch.reset.feedHeld = false) ∧
    ({ Punch.reset with leader := 20 } : Punch).leader = 19 + 1 ∧
    ({ Punch.reset with feedRequest := some { blanks := 1, ahead := 0 } } : Punch).feedRequest =
      some { blanks := 0 + 1, ahead := 0 } ∧
    ({ Punch.reset with lineRelease := .trailer 20 } : Punch).lineRelease = .trailer (19 + 1) ∧
    (FunctionMap.default.needsShift 0 .letters .unknown = false ∧
      FunctionMap.default.needsShift 1 .figures .letters = true) := by decide

theorem witness_PunchTakesTheFirstItem_placed :
    (idlePunch { Punch.reset with tape := true } [blankEntry]).motor.demand.punch = true ∧
    midLineRunUp.motor.demand.punch = false := by decide

theorem witness_PunchTakesTheFirstItem_releases :
    (ready.store.punch.cells = [] ∧ ready.punch.cycle = none ∧ ready.punch.committed = false ∧
      ready.punch.feedRequest = none ∧ ready.punch.feedHeld = false ∧ ready.punch.leader = 0) ∧
    ((owned .line).punch.owner = some .line ∧
      ({ Punch.reset with owner := some .line, lineRelease := .due } : Punch).lineRelease = .due ∧
      ({ Punch.reset with owner := some .line, lineRelease := .trailer 0 } : Punch).lineRelease = .trailer 0) ∧
    ((owned .loc).punch.owner = some .loc ∧ (owned .submitted).punch.owner = some .submitted ∧
      ({ Punch.reset with localRelease := true } : Punch).localRelease = true ∧
      ({ Punch.reset with submittedRelease := true } : Punch).submittedRelease = true) ∧
    ((owned .loc).punch.releaseTimer = none ∧
      ({ Punch.reset with releaseTimer := some 5 } : Punch).releaseTimer ≠ none ∧ ready.punch.owner ≠ some .loc ∧
      ready.punch.owner ≠ some .submitted) := by decide

theorem witness_PaperTapeAndWaitRowsComplete :
    (({ Printer.reset with paperOut := Filter.at false, paper := true } : Printer).paperOut.level = some false ∧
      ({ Printer.reset with paperOut := Filter.at true } : Printer).paperOut.level = some true ∧
      Printer.reset.paper = false) ∧
    (({ Printer.reset with restore := some 5 } : Printer).restore = some 5 ∧
      ({ Printer.reset with paperLow := Filter.at false } : Printer).paperLow.level = some (!true) ∧
      ({ Printer.reset with paperLow := Filter.at true } : Printer).paperLow.level = some (!false)) ∧
    (({ Punch.reset with tapeOut := Filter.at false, tape := true } : Punch).tapeOut.level = some false ∧
      ({ Punch.reset with tapeOut := Filter.at true } : Punch).tapeOut.level = some true ∧
      Punch.reset.tape = false ∧ ({ Punch.reset with restore := some 5 } : Punch).restore = some 5 ∧
      ({ Punch.reset with tapeLow := Filter.at false } : Punch).tapeLow.level = some (!true)) ∧
    (Printer.reset.paperOut.level = none ∧ Printer.reset.paperLow.level = none ∧ Punch.reset.tapeOut.level = none ∧
      Punch.reset.tapeLow.level = none ∧ Filter.unset.level = none) ∧
    ((idlePrinter { Printer.reset with current := some .pLocal, holdWait := .waiting 5 } [blankEntry]).rivalWaits =
        true ∧
      (idlePrinter { Printer.reset with current := some .pLocal, holdWait := .waiting 5 } []).rivalWaits = false) ∧
    ({ Punch.reset with releaseTimer := some 5 } : Punch).releaseTimer = some 5 := by decide

theorem witness_PaperTapeAndWaitRowsComplete_notices :
    (PrinterState.fault ≠ .noPaper ∧ ready.printer.status = .noPaper ∧
      ({ ready.printer with paperOut := Filter.at true } : Printer).paperOut.level ≠ none ∧
      ready.printer.paperOut.level = none) ∧
    (PunchState.fault ≠ .tapeOut ∧ ready.punch.status = .tapeOut ∧
      ({ ready.punch with tapeOut := Filter.at true } : Punch).tapeOut.level ≠ none ∧
      ready.punch.tapeOut.level = none) := by decide

/-! ### The store, the file and the routes -/

theorem witness_SpoolsAppendAndRemoveByBlocks :
    (exampleStore.spool .pLine).shaped SpoolName.pLine.share ∧ (Store.reset.spool .send).shaped SpoolName.send.share ∧
    (exampleSpool.shaped SpoolName.pLine.share ∧ (exampleSpool.headOffset + exampleSpool.cells.length) % 16 = 0) ∧
    ((exampleStore.spool .pLine).cells ≠ [] ∧
      ((exampleStore.spool .pLine).headOffset + (exampleStore.spool .pLine).cells.length) % 16 ≠ 0) ∧
    (Store.reset.spool .send).cells = [] ∧
    ({ chain := List.range 32, headOffset := 0, cells := List.replicate 512 blankEntry } : Spool).shaped
      SpoolName.send.share ∧
    SpoolName.send.share ≤ (List.range 32).length := by
  refine ⟨?_, rfl, ⟨?_, by decide⟩, by decide, rfl, ?_, by decide⟩
  · simp [Spool.shaped, exampleStore, Store.spool, SpoolName.share, Config.blockCells]
  · simp [Spool.shaped, exampleSpool, SpoolName.share, Config.blockCells]
  · unfold Spool.shaped
    rw [if_neg (by decide +kernel)]
    exact ⟨by decide, by decide +kernel, by decide +kernel⟩

/-- CONNECTED with records and a number of free blocks. -/
def filing (records : List Message) (free : Nat) : State :=
  { connected with file := { File.reset with records := records }
                   store := { Store.reset with free := List.range free } }

theorem witness_FileCopiesStopAtTheReserve :
    ready.call.state ≠ .connected ∧ (∀ r n, (filing r n).call.state = .connected) ∧
    (filing [{ record with state := .receiving }] 24).file.receiving =
      some { record with state := .receiving } ∧
    (record.cells.length % 16 ≠ 0 ∧ (List.replicate 16 (cellOf 1)).length % 16 = 0) ∧
    ((filing [] 24).store.freeCount ≤ 24 ∧ 24 < (filing [] 25).store.freeCount) ∧
    ((filing [] 25).file.receiving = none ∧ (filing [] 25).file.records.length < 24) ∧
    ((filing (List.replicate 24 record) 24).file.receiving = none ∧
      24 ≤ (filing (List.replicate 24 record) 24).file.records.length) :=
  ⟨by decide, fun _ _ => rfl, by decide, by decide, by decide, by decide, by decide⟩

theorem witness_FileCopiesStopAtTheReserve_full_record :
    (2046 + 1 < 2048 ∧ 2048 ≤ (List.replicate 2047 (cellOf 1)).length + 1) ∧
    ((filing [{ record with state := .receiving, cells := List.replicate 16 (cellOf 1) }] 25).file.receiving =
      some { record with state := .receiving, cells := List.replicate 16 (cellOf 1) } ∧
      24 < (filing [] 25).store.freeCount) ∧
    ((filing [] 25).file.lastNumber < 255 ∧ ¬ ({ File.reset with lastNumber := 255 } : File).lastNumber < 255) := by
  refine ⟨⟨by decide, ?_⟩, by decide, by decide⟩
  rw [List.length_replicate]

theorem witness_DeliveryAndQuota :
    ({ Route.default none with state := .suspended } : Route).state = .suspended ∧
    ((Route.default none).reload = 0 ∧ (Route.default none).state ≠ .suspended) ∧
    (∀ a, ({ Route.default none with reload := 10, counter := 1, action := a } : Route).counter = 1 ∧
      ({ Route.default none with reload := 10, counter := 1, action := a } : Route).action = a) ∧
    2 ≤ ({ Route.default none with reload := 10, counter := 2 } : Route).counter :=
  ⟨rfl, by decide, fun _ => ⟨rfl, rfl⟩, by decide⟩

/-- READY to print and punch, with the punch owned or not and a number of free blocks. -/
def placing (owner : Option Stream) (free : List Nat) : State :=
  { ready with
    printer := { Printer.reset with paper := true }
    punch := { Punch.reset with tape := true, owner := owner }
    store := { Store.reset with free := free } }

theorem witness_DeliveryAndQuota_places :
    (({ Route.default none with state := .diverted } : Route).state = .diverted ∧
      ((placing none [0]).routes.get .received).state ≠ .diverted) ∧
    ((placing none [0]).printer.status = .idle ∧ (placing none [0]).punch.status = .onIdle ∧
      ready.printer.status ≠ .idle ∧ ready.printer.status ≠ .cycle ∧ ready.punch.status ≠ .onIdle ∧
      ready.punch.status ≠ .cycle) ∧
    ((placing none [0]).store.spoolRefusal .pLine = none ∧
      (placing none []).store.spoolRefusal .pLine = some .noBlock ∧
      (placing none [0]).store.spoolRefusal .punch = none ∧
      (placing none []).store.spoolRefusal .punch = some .noBlock) ∧
    ((placing none [0]).punch.owner = none ∧ (placing (some .line) [0]).punch.owner = some .line ∧
      (placing (some .submitted) [0]).punch.owner ≠ some .line) := by decide

theorem witness_DeliveryAndQuota_stand_ins :
    ((placing none []).tryPlace .received .print (cellOf 1) = (placing none [], some (.space .pLine .noBlock))) ∧
    ((placing none [0]).tryPlace .received .print (cellOf 1)).2 = none ∧
    (Routes.default.received.destinations.has .print = true ∧ Routes.default.received.destinations.has .punch = false ∧
      Routes.default.received.printStandIn = some .file ∧ Routes.default.received.punchStandIn = none ∧
      Routes.default.received.destinations.has .file = false) ∧
    (ready.store.episode = .closed ∧ ({ ready.store with episode := .opened } : Store).episode = .opened) ∧
    ((withCall ready.call .breakOnOverflow 1).opt .breakOnOverflow = 1 ∧ ready.opt .breakOnOverflow ≠ 1 ∧
      connected.call.state = .connected) := by decide

end Sys2Proof.Tests
end

section
/-! SUPPORT. The spools in shape, and what an append and a removal do to one (R4 to R9). -/

namespace Sys2Proof.Machine

/-! ## Spools in shape -/

section Shape

variable {p : Spool} {share : Nat}

/-- An empty spool in shape holds no block (R5). -/
theorem Spool.shaped_of_empty (hc : p.cells = []) : p.shaped share ↔ p.chain = [] := by
  simp [Spool.shaped, hc]

/-- A spool with cells in shape holds the blocks they reach into, within its share (R4, R5). -/
theorem Spool.shaped_of_cells (hc : p.cells ≠ []) :
    p.shaped share ↔ p.headOffset < 16 ∧
      p.chain.length = (p.headOffset + p.cells.length + 15) / 16 ∧ p.chain.length ≤ share := by
  simp [Spool.shaped, hc, Config.blockCells]

/-- The empty spool is in shape (R5). -/
theorem Spool.empty_shaped (share : Nat) : Spool.empty.shaped share :=
  (Spool.shaped_of_empty rfl).mpr rfl

/-- The tail block of a spool in shape has room exactly when the cells do not end at a block's last position (R6). -/
theorem Spool.tailRoom_iff (h : p.shaped share) :
    p.tailRoom = true ↔ p.cells ≠ [] ∧ (p.headOffset + p.cells.length) % 16 ≠ 0 := by
  by_cases hc : p.cells = []
  · simp [Spool.tailRoom, Spool.isEmpty, hc]
  · obtain ⟨-, hlen, -⟩ := (Spool.shaped_of_cells hc).mp h
    have he : p.isEmpty = false := by simp [Spool.isEmpty, hc]
    have hpos := List.length_pos_iff.mpr hc
    simp only [Spool.tailRoom, Spool.tailFill, he, hlen, Config.blockCells, Bool.not_false, Bool.true_and,
      decide_eq_true_eq, ne_eq, hc, not_false_eq_true, true_and]
    omega

/-- A cell that joins a tail block with room keeps the shape (R5, R6). -/
theorem Spool.shaped_join (h : p.shaped share) (hr : p.tailRoom = true) (e : Entry) :
    ({ p with cells := p.cells ++ [e] } : Spool).shaped share := by
  obtain ⟨hc, hfill⟩ := (Spool.tailRoom_iff h).mp hr
  obtain ⟨hoff, hlen, hshare⟩ := (Spool.shaped_of_cells hc).mp h
  refine (Spool.shaped_of_cells (by simp)).mpr ⟨hoff, ?_, hshare⟩
  simp only [List.length_append, List.length_singleton, hlen]
  omega

/-- A cell that takes a block, the tail block being full or the spool empty, keeps the shape (R5, R6). -/
theorem Spool.shaped_extend (h : p.shaped share) (hr : p.tailRoom = false) (hs : p.chain.length < share)
    (b : Nat) (e : Entry) :
    ({ chain := p.chain ++ [b], headOffset := if p.isEmpty then 0 else p.headOffset,
       cells := p.cells ++ [e] } : Spool).shaped share := by
  refine (Spool.shaped_of_cells (by simp)).mpr ?_
  by_cases hc : p.cells = []
  · have hchain := (Spool.shaped_of_empty hc).mp h
    simp [Spool.isEmpty, hc, hchain] at hs ⊢
    omega
  · obtain ⟨hoff, hlen, -⟩ := (Spool.shaped_of_cells hc).mp h
    have hfull : (p.headOffset + p.cells.length) % 16 = 0 := by
      by_contra hfill
      simp [(Spool.tailRoom_iff h).mpr ⟨hc, hfill⟩] at hr
    have he : p.isEmpty = false := by simp [Spool.isEmpty, hc]
    simp only [he, List.length_append, List.length_singleton, Bool.false_eq_true, if_false]
    omega

end Shape

/-- An append keeps the shape of its spool (R4 to R6). -/
theorem Store.append_shaped {st : Store} {n : SpoolName} (h : (st.spool n).shaped n.share) (e : Entry) :
    ((st.append n e).spool n).shaped n.share := by
  rcases st.append_cases n e with ⟨-, heq⟩ | ⟨-, hr, heq⟩ | ⟨hnone, hr, b, rest, -, heq⟩
  · rwa [heq]
  · rw [heq, Store.spool_withSpool_self]
    exact Spool.shaped_join h hr e
  · rw [heq, Store.spool_withSpool_self]
    refine Spool.shaped_extend h hr ?_ b e
    by_contra hs
    simp [Store.spoolRefusal, hr, Spool.blocksHeld, Nat.le_of_not_lt hs] at hnone

/-- A removal keeps the shape of its spool (R5, R9). -/
theorem Store.removeHead_shaped {st : Store} {n : SpoolName} (h : (st.spool n).shaped n.share) :
    ((st.removeHead n).2.spool n).shaped n.share := by
  rcases st.removeHead_cases n with ⟨-, heq⟩ | ⟨e, -, heq⟩ | ⟨e, rest, hc, hrest, ho, heq⟩ |
    ⟨e, rest, hc, hrest, ho, heq⟩
  · rwa [heq]
  · simpa [heq] using Spool.empty_shaped n.share
  all_goals
    obtain ⟨hoff, hlen, hshare⟩ := (Spool.shaped_of_cells (by simp [hc])).mp h
    have hpos := List.length_pos_iff.mpr hrest
    rw [heq, Store.spool_withSpool_self]
    refine (Spool.shaped_of_cells hrest).mpr ⟨by dsimp only; omega, ?_, ?_⟩ <;>
      simp only [hc, List.length_cons, List.length_drop] at hlen ⊢ <;> omega

/-- An emptied spool is in shape (R5, R11). -/
theorem Store.emptySpool_shaped (st : Store) (n : SpoolName) :
    ((st.emptySpool n).2.spool n).shaped n.share := by
  simpa [Store.emptySpool_eq] using Spool.empty_shaped n.share

/-- A removal leaves the other spools. -/
theorem Store.removeHead_other (st : Store) {n m : SpoolName} (hm : m ≠ n) :
    (st.removeHead n).2.spool m = st.spool m := by
  rcases st.removeHead_cases n with ⟨-, h⟩ | ⟨e, -, h⟩ | ⟨e, rest, -, -, -, h⟩ | ⟨e, rest, -, -, -, h⟩ <;>
    simp [h, Store.spool_withSpool_ne _ hm]

/-- Emptying a spool leaves the others. -/
theorem Store.emptySpool_other (st : Store) {n m : SpoolName} (hm : m ≠ n) :
    (st.emptySpool n).2.spool m = st.spool m := by
  simp [Store.emptySpool_eq, Store.spool_withSpool_ne _ hm]

/-! ## The capacity of a spool -/

/-- R8: the positions of the tail block still to be written. -/
def Spool.tailLeft (p : Spool) : Nat := if p.isEmpty then 0 else Config.blockCells - p.tailFill

/-- The capacity is what the tail block has left and the blocks that may still be taken (R8). -/
theorem Store.capacity_eq (st : Store) (n : SpoolName) :
    st.capacity n = (st.spool n).tailLeft +
      16 * min (n.share - (st.spool n).chain.length) st.free.length := rfl

/-- The tail block has positions left exactly when it has room (R6, R8). -/
theorem Spool.tailLeft_pos_iff (p : Spool) : 0 < p.tailLeft ↔ p.tailRoom = true := by
  cases he : p.isEmpty <;> simp [Spool.tailLeft, Spool.tailRoom, he]

section TailLeft

variable {p : Spool} {share : Nat}

/-- A cell that joins the tail block leaves one position fewer (R6, R8). -/
theorem Spool.tailLeft_join (h : p.shaped share) (hr : p.tailRoom = true) (e : Entry) :
    p.tailLeft = ({ p with cells := p.cells ++ [e] } : Spool).tailLeft + 1 := by
  obtain ⟨hc, hfill⟩ := (Spool.tailRoom_iff h).mp hr
  obtain ⟨-, hlen, -⟩ := (Spool.shaped_of_cells hc).mp h
  have hpos := List.length_pos_iff.mpr hc
  simp only [Spool.tailLeft, Spool.isEmpty, Spool.tailFill, Config.blockCells, hlen, List.isEmpty_iff, hc,
    List.append_eq_nil_iff, List.cons_ne_nil, and_false, if_false, List.length_append, List.length_singleton]
  omega

/-- A cell that takes a block leaves fifteen positions of it (R6, R8). -/
theorem Spool.tailLeft_extend (h : p.shaped share) (hr : p.tailRoom = false) (b : Nat) (e : Entry) :
    ({ chain := p.chain ++ [b], headOffset := if p.isEmpty then 0 else p.headOffset,
       cells := p.cells ++ [e] } : Spool).tailLeft = 15 := by
  by_cases hc : p.cells = []
  · have hchain := (Spool.shaped_of_empty hc).mp h
    simp [Spool.tailLeft, Spool.isEmpty, Spool.tailFill, Config.blockCells, hc, hchain]
  · obtain ⟨-, hlen, -⟩ := (Spool.shaped_of_cells hc).mp h
    have hfull : (p.headOffset + p.cells.length) % 16 = 0 := by
      by_contra hfill
      simp [(Spool.tailRoom_iff h).mpr ⟨hc, hfill⟩] at hr
    have hpos := List.length_pos_iff.mpr hc
    simp only [Spool.tailLeft, Spool.isEmpty, Spool.tailFill, Config.blockCells, List.isEmpty_iff, hc, if_false,
      List.append_eq_nil_iff, List.cons_ne_nil, and_false, List.length_append, List.length_singleton]
    omega

end TailLeft

section Refusal

variable {st : Store} {n : SpoolName}

/-- A tail block with room refuses nothing (R6). -/
theorem Store.spoolRefusal_of_room (hr : (st.spool n).tailRoom = true) : st.spoolRefusal n = none := by
  simp [Store.spoolRefusal, hr]

/-- With no room in the tail block the share is tested first, and then the free list (R6). -/
theorem Store.spoolRefusal_of_no_room (hr : (st.spool n).tailRoom = false) :
    st.spoolRefusal n = if n.share ≤ (st.spool n).chain.length then some .atShare
      else if st.free = [] then some .noBlock else none := by
  simp [Store.spoolRefusal, hr, Spool.blocksHeld]

/-- A spool can take a cell exactly when its capacity is not 0 (R6, R8). -/
theorem Store.spoolRefusal_eq_none_iff : st.spoolRefusal n = none ↔ 0 < st.capacity n := by
  have hleft := (st.spool n).tailLeft_pos_iff
  rw [Store.capacity_eq]
  cases hr : (st.spool n).tailRoom
  · have hnone : (st.spool n).tailLeft = 0 := by simpa [hr] using hleft
    rw [Store.spoolRefusal_of_no_room hr, hnone]
    split
    · next hs => simp [Nat.sub_eq_zero_of_le hs]
    · next hs =>
      split
      · next hf => simp [hf]
      · next hf => simpa [hf, List.length_pos_iff] using hs
  · simp [Store.spoolRefusal_of_room hr, hleft.mpr hr]

/-- Every append that succeeds lowers the capacity by one (R8). -/
theorem Store.capacity_append (h : (st.spool n).shaped n.share) (hpos : 0 < st.capacity n) (e : Entry) :
    st.capacity n = (st.append n e).capacity n + 1 := by
  have hnone := Store.spoolRefusal_eq_none_iff.mpr hpos
  rcases st.append_cases n e with ⟨hs, -⟩ | ⟨-, hr, heq⟩ | ⟨-, hr, b, rest, hfree, heq⟩
  · simp [hnone] at hs
  · rw [heq, Store.capacity_eq, Store.capacity_eq, Store.spool_withSpool_self, Store.withSpool_free,
      Spool.tailLeft_join h hr e]
    dsimp only
    omega
  · have hroom : (st.spool n).tailLeft = 0 := by
      simpa [hr] using (st.spool n).tailLeft_pos_iff
    rw [Store.capacity_eq, hroom, hfree] at hpos
    rw [heq, Store.capacity_eq, Store.capacity_eq, Store.spool_withSpool_self, Store.withSpool_free,
      Spool.tailLeft_extend h hr b e, hroom, hfree]
    simp only [List.length_append, List.length_cons, List.length_nil] at hpos ⊢
    omega

end Refusal

/-! ## Appends and removals case by case -/

section Cases

variable {st : Store} {n : SpoolName}

/-- A cell joins a tail block with room (R6). -/
theorem Store.append_of_room (hr : (st.spool n).tailRoom = true) (e : Entry) :
    st.append n e = st.withSpool n { st.spool n with cells := (st.spool n).cells ++ [e] } := by
  simp [Store.append, hr]

/-- A refused append changes nothing (R6). -/
theorem Store.append_of_refused (hs : (st.spoolRefusal n).isSome = true) (e : Entry) : st.append n e = st := by
  rcases st.append_cases n e with ⟨-, heq⟩ | ⟨hnone, -⟩ | ⟨hnone, -⟩
  · exact heq
  all_goals simp [hnone] at hs

/-- With no room in the tail block and the spool below its share, an append takes the front free block (R6). -/
theorem Store.append_of_block (hr : (st.spool n).tailRoom = false) (hs : (st.spool n).chain.length < n.share)
    {b : Nat} {rest : List Nat} (hf : st.free = b :: rest) (e : Entry) :
    st.append n e = { st with free := rest }.withSpool n
      { chain := (st.spool n).chain ++ [b],
        headOffset := if (st.spool n).cells = [] then 0 else (st.spool n).headOffset,
        cells := (st.spool n).cells ++ [e] } := by
  simp [Store.append, hr, Spool.blocksHeld, Nat.not_le.mpr hs, hf, Spool.isEmpty]

/-- A spool that takes a cell has it last (R6). -/
theorem Store.append_cells (hnone : st.spoolRefusal n = none) (e : Entry) :
    ((st.append n e).spool n).cells = (st.spool n).cells ++ [e] := by
  rcases st.append_cases n e with ⟨hs, -⟩ | ⟨-, -, heq⟩ | ⟨-, -, b, rest, -, heq⟩
  · simp [hnone] at hs
  all_goals rw [heq, Store.spool_withSpool_self]

/-- An empty spool has nothing to remove (R9). -/
theorem Store.removeHead_of_empty (hc : (st.spool n).cells = []) : st.removeHead n = (none, st) := by
  simp only [Store.removeHead, hc]

/-- A removal hands over the oldest cell and leaves the rest (R9). -/
theorem Store.removeHead_cells {e : Entry} {rest : List Entry} (hc : (st.spool n).cells = e :: rest) :
    (st.removeHead n).1 = some e ∧ ((st.removeHead n).2.spool n).cells = rest := by
  rcases st.removeHead_cases n with ⟨h0, -⟩ | ⟨x, h1, heq⟩ | ⟨x, tail, h1, -, -, heq⟩ | ⟨x, tail, h1, -, -, heq⟩
  · simp [hc] at h0
  all_goals
    obtain ⟨rfl, rfl⟩ := List.cons.inj (hc.symm.trans h1)
    simp [heq, Spool.empty]

/-- The head block goes back to the front of the free list when its last position is reached or the spool is empty
then (R9). -/
theorem Store.removeHead_returns_block (h : (st.spool n).shaped n.share) {e : Entry} {rest : List Entry}
    (hc : (st.spool n).cells = e :: rest) (hlast : rest = [] ∨ (st.spool n).headOffset = 15) :
    ∃ b chain, (st.spool n).chain = b :: chain ∧ (st.removeHead n).2.free = b :: st.free ∧
      ((st.removeHead n).2.spool n).chain = chain := by
  obtain ⟨hoff, hlen, -⟩ := (Spool.shaped_of_cells (by simp [hc])).mp h
  obtain ⟨b, chain, hchain⟩ : ∃ b chain, (st.spool n).chain = b :: chain :=
    List.exists_cons_of_length_pos (by rw [hlen, hc, List.length_cons]; omega)
  refine ⟨b, chain, hchain, ?_⟩
  rcases st.removeHead_cases n with ⟨h0, -⟩ | ⟨x, h1, heq⟩ | ⟨x, tail, h1, htail, ho, -⟩ | ⟨x, tail, -, -, -, heq⟩
  · simp [hc] at h0
  · have hone : chain = [] := by
      rw [hchain, h1, List.length_cons, List.length_singleton] at hlen
      exact List.eq_nil_of_length_eq_zero (by omega)
    simp [heq, hchain, hone, Spool.empty]
  · obtain ⟨rfl, rfl⟩ := List.cons.inj (hc.symm.trans h1)
    rcases hlast with hnil | h15
    · exact absurd hnil htail
    · omega
  · simp [heq, hchain]

/-- Before the last position of its head block, and with cells left, a spool keeps its blocks (R9). -/
theorem Store.removeHead_keeps_blocks {e : Entry} {rest : List Entry} (h : (st.spool n).shaped n.share)
    (hc : (st.spool n).cells = e :: rest) (hrest : rest ≠ []) (ho : (st.spool n).headOffset ≠ 15) :
    (st.removeHead n).2.free = st.free ∧ ((st.removeHead n).2.spool n).chain = (st.spool n).chain ∧
      ((st.removeHead n).2.spool n).headOffset = (st.spool n).headOffset + 1 := by
  obtain ⟨hoff, -, -⟩ := (Spool.shaped_of_cells (by simp [hc])).mp h
  rcases st.removeHead_cases n with ⟨h0, -⟩ | ⟨x, h1, -⟩ | ⟨x, tail, -, -, -, heq⟩ | ⟨x, tail, -, -, hge, -⟩
  · simp [hc] at h0
  · exact absurd (List.cons.inj (hc.symm.trans h1)).2 hrest
  · simp [heq]
  · omega

end Cases

/-- Settles O58: each branch of an append and of a removal is an equation of its own, and the capacity counts what the
tail block and the free blocks within the share have room for. -/
theorem spoolsAppendAndRemoveByBlocks : Obligations.SpoolsAppendAndRemoveByBlocks := by
  refine ⟨fun st n e h => ⟨?_, ?_, Store.spoolRefusal_eq_none_iff, fun hpos => Store.capacity_append h hpos e⟩,
    fun st n h => ⟨Store.removeHead_of_empty, fun e rest hc => ?_⟩⟩
  · rintro fill rfl hc hfill
    have hr := (Spool.tailRoom_iff h).mpr ⟨hc, hfill⟩
    exact ⟨Store.spoolRefusal_of_room hr, Store.append_of_room hr e⟩
  · intro hfull
    have hr : (st.spool n).tailRoom = false := by
      rw [Bool.eq_false_iff, ne_eq, Spool.tailRoom_iff h]
      exact fun ⟨hc, hfill⟩ => hfull.elim hc hfill
    have hrefusal := Store.spoolRefusal_of_no_room hr
    refine ⟨fun hs => ?_, fun hs => ⟨fun hf => ?_, fun b rest hf => ?_⟩⟩
    · rw [if_pos hs] at hrefusal
      exact ⟨hrefusal, Store.append_of_refused (by simp [hrefusal]) e⟩
    · rw [if_neg (Nat.not_le.mpr hs), if_pos hf] at hrefusal
      exact ⟨hrefusal, Store.append_of_refused (by simp [hrefusal]) e⟩
    · rw [if_neg (Nat.not_le.mpr hs), if_neg (by simp [hf])] at hrefusal
      exact ⟨hrefusal, Store.append_of_block hr hs hf e⟩
  · obtain ⟨hhead, hrest⟩ := Store.removeHead_cells hc
    refine ⟨hhead, hrest, Store.removeHead_returns_block h hc, Store.removeHead_keeps_blocks h hc,
      fun m hm => st.removeHead_other hm, fun x hnone => ?_⟩
    exact (Store.removeHead_cells (by rw [Store.append_cells hnone, hc, List.cons_append])).1

end Sys2Proof.Machine
end

section
/-! SUPPORT. The blocks by their holders, the actions by which the store and the file change, and that each of
them keeps the blocks and the shape of the spools (R1, R2, R4, R5, R94). -/

namespace Sys2Proof.Machine

/-! ## The blocks of the store and of the chains -/

/-- R1: the blocks the store holds itself, on the free list and in the five spools. -/
def Store.held (st : Store) : List Nat :=
  st.free ++ st.pLine.chain ++ st.pLocal.chain ++ st.pSubmit.chain ++ st.punch.chain ++ st.send.chain

/-- R1: the blocks of the message chains. -/
def File.held (f : File) : List Nat := (f.records.map Message.chain).flatten

/-- Replacing a spool exchanges the blocks of the old one for those of the new one. -/
theorem Store.held_withSpool (st : Store) (n : SpoolName) (p : Spool) :
    ((st.withSpool n p).held ++ (st.spool n).chain).Perm (st.held ++ p.chain) := by
  rw [List.perm_iff_count]
  intro a
  cases n <;> simp only [Store.held, Store.withSpool, Store.spool, List.count_append] <;> omega

/-- Taking the free list anew exchanges the old free blocks for the new ones. -/
theorem Store.held_free (st : Store) (free : List Nat) :
    (({ st with free := free } : Store).held ++ st.free).Perm (st.held ++ free) := by
  rw [List.perm_iff_count]
  intro a
  simp only [Store.held, List.count_append]
  omega

/-- Replacing a spool and taking the free list anew keeps the blocks when the two together keep theirs. -/
theorem Store.held_exchange (st : Store) (n : SpoolName) (free : List Nat) (p : Spool)
    (h : (free ++ p.chain).Perm (st.free ++ (st.spool n).chain)) :
    (({ st with free := free } : Store).withSpool n p).held.Perm st.held := by
  have hspool := Store.held_withSpool { st with free := free } n p
  have hfree := st.held_free free
  rw [List.perm_iff_count] at *
  intro a
  have := h a
  have := hspool a
  have := hfree a
  simp only [List.count_append, Store.spool_free] at *
  omega

/-- Replacing a spool by one with the same blocks keeps the blocks. -/
theorem Store.held_withSpool_of_chain (st : Store) (n : SpoolName) (p : Spool) (h : p.chain = (st.spool n).chain) :
    (st.withSpool n p).held.Perm st.held :=
  st.held_exchange n st.free p (by rw [h])

/-- An append keeps the blocks (R1, R6). -/
theorem Store.append_held (st : Store) (n : SpoolName) (e : Entry) : (st.append n e).held.Perm st.held := by
  rcases st.append_cases n e with ⟨-, h⟩ | ⟨-, -, h⟩ | ⟨-, -, b, rest, hf, h⟩ <;> rw [h]
  · exact st.held_withSpool_of_chain n _ rfl
  · refine st.held_exchange n _ _ ?_
    rw [hf, List.cons_append, ← List.append_assoc]
    exact List.perm_append_singleton ..

/-- A removal keeps the blocks (R1, R9). -/
theorem Store.removeHead_held (st : Store) (n : SpoolName) : (st.removeHead n).2.held.Perm st.held := by
  rcases st.removeHead_cases n with ⟨-, h⟩ | ⟨e, -, h⟩ | ⟨e, rest, -, -, -, h⟩ | ⟨e, rest, -, -, -, h⟩ <;> rw [h]
  · refine st.held_exchange n _ _ ?_
    simpa [Spool.empty] using ((st.spool n).chain.reverse_perm.append_right st.free).trans List.perm_append_comm
  · exact st.held_withSpool_of_chain n _ rfl
  · refine st.held_exchange n _ _ ?_
    cases (st.spool n).chain with
    | nil => simp
    | cons b chain => exact List.perm_middle.symm

/-- Emptying a spool keeps the blocks (R1, R11). -/
theorem Store.emptySpool_held (st : Store) (n : SpoolName) : (st.emptySpool n).2.held.Perm st.held := by
  rw [Store.emptySpool_eq]
  refine st.held_exchange n _ _ ?_
  simpa [Spool.empty] using ((st.spool n).chain.reverse_perm.append_right st.free).trans List.perm_append_comm

/-- A chain grows by the front free block or not at all (R12). -/
theorem Store.chainAppend_held (st : Store) (chain : List Nat) (cells : Nat) :
    ((st.chainAppend chain cells).2.held ++ (st.chainAppend chain cells).1).Perm (st.held ++ chain) := by
  unfold Store.chainAppend
  split
  · exact .refl _
  · split
    · exact .refl _
    · next b rest hf =>
      have h := st.held_free rest
      rw [List.perm_iff_count] at *
      intro a
      have := h a
      rw [hf] at this
      simp only [List.count_append, List.count_cons, List.count_nil] at *
      omega

/-- R2, R13: blocks given up are on the free list again. -/
theorem Store.held_returnBlocks (st : Store) (blocks : List Nat) :
    ({ st with free := returnBlocks blocks st.free } : Store).held.Perm (st.held ++ blocks) := by
  have h := st.held_free (returnBlocks blocks st.free)
  rw [returnBlocks_eq, List.perm_iff_count] at *
  intro a
  have := h a
  simp only [List.count_append, List.count_reverse] at *
  omega

/-- The growing of a chain leaves the spools (R12). -/
@[simp] theorem Store.chainAppend_spool (st : Store) (chain : List Nat) (cells : Nat) (n : SpoolName) :
    (st.chainAppend chain cells).2.spool n = st.spool n := by
  unfold Store.chainAppend
  split
  · rfl
  · split
    · rfl
    · exact Store.spool_free ..

/-! ## Records and their numbers -/

/-- A record of a number that only it has stands at one place: a replacement changes that place only, and a deletion
takes it out. -/
theorem File.place_of_mem {f : File} {m : Message} (hm : m ∈ f.records)
    (hn : (f.records.map Message.number).Nodup) :
    ∃ before after, f.records = before ++ m :: after ∧
      (∀ m' : Message, m'.number = m.number → (f.replace m').records = before ++ m' :: after) ∧
      (f.records.filter fun r => r.number != m.number) = before ++ after := by
  obtain ⟨before, after, hrecords⟩ := List.append_of_mem hm
  have hother : ∀ r ∈ before ++ after, r.number ≠ m.number := by
    rw [hrecords, List.map_append, List.map_cons, List.nodup_middle, ← List.map_append] at hn
    exact fun r hr heq => (List.nodup_cons.mp hn).1 (heq ▸ List.mem_map_of_mem hr)
  have hbefore : ∀ r ∈ before, r.number ≠ m.number := fun r hr => hother r (List.mem_append_left _ hr)
  have hafter : ∀ r ∈ after, r.number ≠ m.number := fun r hr => hother r (List.mem_append_right _ hr)
  refine ⟨before, after, hrecords, fun m' hm' => ?_, ?_⟩
  · have hsame : ∀ l : List Message, (∀ r ∈ l, r.number ≠ m.number) →
        l.map (fun r => if r.number = m.number then m' else r) = l :=
      fun l hl => (List.map_congr_left fun r hr => if_neg (hl r hr)).trans (List.map_id l)
    simp [File.replace, hrecords, hm', hsame before hbefore, hsame after hafter]
  · have hkeep : ∀ l : List Message, (∀ r ∈ l, r.number ≠ m.number) →
        l.filter (fun r => r.number != m.number) = l :=
      fun l hl => List.filter_eq_self.mpr fun r hr => by simpa using hl r hr
    simp [hrecords, hkeep before hbefore, hkeep after hafter]

/-- The numbers after one of the cycle, counted round it (R94). -/
theorem numberAfter_iterate {c : Nat} (hc : 1 ≤ c ∧ c ≤ 255) (i : Nat) :
    numberAfter^[i] c = (c - 1 + i) % 255 + 1 := by
  induction i with
  | zero => simp only [Function.iterate_zero, id_eq]; omega
  | succ i ih =>
    rw [Function.iterate_succ_apply', ih, numberAfter]
    split <;> omega

/-- A search that answers a used number has found every candidate used (R94). -/
theorem candidates_used_of_freeNumber_used {used : List Nat} {fuel c : Nat} (h : freeNumber used fuel c ∈ used) :
    ∀ i < fuel, numberAfter^[i] c ∈ used := by
  induction fuel generalizing c with
  | zero => exact fun i hi => absurd hi (Nat.not_lt_zero i)
  | succ fuel ih =>
    rw [freeNumber] at h
    split at h
    · next hused =>
      intro i hi
      cases i with
      | zero => simpa using hused
      | succ i => exact ih h i (by omega)
    · next hfree => simp [h] at hfree

/-- The next record's number is held by no record, for fewer than 255 stand (R94). -/
theorem File.nextNumber_fresh {f : File} (few : f.records.length < 255) :
    f.nextNumber ∉ f.records.map Message.number := by
  intro hused
  have hstart : 1 ≤ numberAfter f.lastNumber ∧ numberAfter f.lastNumber ≤ 255 := by
    unfold numberAfter; split <;> omega
  have hall := candidates_used_of_freeNumber_used hused
  have hdistinct : ((List.range 255).map fun i => numberAfter^[i] (numberAfter f.lastNumber)).Nodup := by
    refine List.Nodup.map_on (fun i hi j hj heq => ?_) List.nodup_range
    rw [List.mem_range] at hi hj
    rw [numberAfter_iterate hstart, numberAfter_iterate hstart] at heq
    omega
  have hsubset : ((List.range 255).map fun i => numberAfter^[i] (numberAfter f.lastNumber)) ⊆
      f.records.map Message.number := by
    intro x hx
    obtain ⟨i, hi, rfl⟩ := List.mem_map.mp hx
    exact hall i (List.mem_range.mp hi)
  have hle := (List.subperm_of_subset hdistinct hsubset).length_le
  rw [List.length_map, List.length_map, List.length_range] at hle
  omega

/-! ## What a step may do to the store and the file -/

/-- The Character Store and the Message File, which hold every block and every message. -/
def State.stock (s : State) : Store × File := (s.store, s.file)

@[simp] theorem State.stock_eq (s : State) : s.stock = (s.store, s.file) := rfl

/-- One action on the store and the file. Every step of the part is a run of these actions, so what each of them keeps
is kept by every step (R1). -/
inductive BlockMove : Store × File → Store × File → Prop
  /-- R6: an append to a spool. -/
  | append (st : Store) (f : File) (n : SpoolName) (e : Entry) : BlockMove (st, f) (st.append n e, f)
  /-- R9: a removal from a spool. -/
  | remove (st : Store) (f : File) (n : SpoolName) : BlockMove (st, f) ((st.removeHead n).2, f)
  /-- R11: a spool emptied. -/
  | empty (st : Store) (f : File) (n : SpoolName) : BlockMove (st, f) ((st.emptySpool n).2, f)
  /-- R15, R17: the overflow episode opens or closes. -/
  | episode (st : Store) (f : File) (e : Episode) : BlockMove (st, f) ({ st with episode := e }, f)
  /-- R12, R97: a record of the file takes a cell. -/
  | grow (st : Store) {f : File} {m : Message} (hm : m ∈ f.records) (cells : Nat) (m' : Message)
      (number : m'.number = m.number) (chain : m'.chain = (st.chainAppend m.chain cells).1) :
      BlockMove (st, f) ((st.chainAppend m.chain cells).2, f.replace m')
  /-- R96: a record opens, with a number of its own. -/
  | opened (st : Store) {f g : File} {m : Message} (few : f.records.length < Config.fileRecords)
      (number : m.number = f.nextNumber) (chain : m.chain = (st.chainAppend [] 0).1)
      (records : g.records = f.records ++ [m]) : BlockMove (st, f) ((st.chainAppend [] 0).2, g)
  /-- R95, R98, R105: a record of the file changes in what is neither its number nor its chain. -/
  | rewrite (st : Store) {f : File} {m : Message} (hm : m ∈ f.records) (m' : Message)
      (number : m'.number = m.number) (chain : m'.chain = m.chain) : BlockMove (st, f) (st, f.replace m')
  /-- R100, R106: the file changes in what is neither a number nor a chain. -/
  | relabel (st : Store) {f : File} (g : File) (numbers : g.records.map Message.number = f.records.map Message.number)
      (chains : g.records.map Message.chain = f.records.map Message.chain) : BlockMove (st, f) (st, g)
  /-- R13, R104: a record is deleted. -/
  | delete (st : Store) {f : File} {m : Message} (hm : m ∈ f.records) :
      BlockMove (st, f) ({ st with free := returnBlocks m.chain st.free },
        { f with records := f.records.filter fun r => r.number != m.number })
  /-- R184: the power-on values. -/
  | powerOn (st : Store) (f : File) : BlockMove (st, f) (Store.reset, File.reset)

/-! ## Each action keeps the blocks -/

/-- R1, R94: the invariant of the blocks, on the store and the file alone. -/
structure BlocksSound (x : Store × File) : Prop where
  once : (x.1.held ++ x.2.held).Perm (List.range Config.blocks)
  numbers : (x.2.records.map Message.number).Nodup

theorem State.blocksHeld_iff {s : State} : s.BlocksHeld ↔ BlocksSound s.stock :=
  ⟨fun ⟨once, numbers⟩ => ⟨once, numbers⟩, fun ⟨once, numbers⟩ => ⟨once, numbers⟩⟩

/-- The power-on values hold every block on the free list (R1, R2). -/
theorem blocksSound_reset : BlocksSound (Store.reset, File.reset) where
  once := by
    rw [show Store.reset.held ++ File.reset.held = List.range Config.blocks by
      simp [Store.held, File.held, Store.reset, File.reset, Spool.empty]]
  numbers := List.nodup_nil

/-- A store with the same blocks keeps the invariant. -/
theorem BlocksSound.withStore {st st' : Store} {f : File} (h : BlocksSound (st, f)) (hp : st'.held.Perm st.held) :
    BlocksSound (st', f) :=
  ⟨(hp.append_right _).trans h.once, h.numbers⟩

/-- A record that keeps its number and exchanges blocks with the store keeps the invariant. -/
theorem BlocksSound.replace {st st' : Store} {f : File} {m m' : Message} (h : BlocksSound (st, f))
    (hm : m ∈ f.records) (hnum : m'.number = m.number) (hp : (st'.held ++ m'.chain).Perm (st.held ++ m.chain)) :
    BlocksSound (st', f.replace m') := by
  obtain ⟨before, after, hrecords, hreplace, -⟩ := File.place_of_mem hm h.numbers
  obtain ⟨once, numbers⟩ := h
  refine ⟨.trans ?_ once, ?_⟩
  · rw [List.perm_iff_count] at *
    intro a
    have := hp a
    simp only [File.held, hreplace m' hnum, hrecords, List.map_append, List.map_cons, List.flatten_append,
      List.flatten_cons, List.count_append] at *
    omega
  · simpa [hreplace m' hnum, hrecords, hnum] using numbers

/-- A record that opens with a number of its own and blocks from the store keeps the invariant (R96). -/
theorem BlocksSound.opened {st st' : Store} {f g : File} {m : Message} (h : BlocksSound (st, f))
    (hrecords : g.records = f.records ++ [m]) (hnum : m.number ∉ f.records.map Message.number)
    (hp : (st'.held ++ m.chain).Perm st.held) : BlocksSound (st', g) := by
  obtain ⟨once, numbers⟩ := h
  refine ⟨.trans ?_ once, ?_⟩
  · rw [List.perm_iff_count] at *
    intro a
    have := hp a
    simp only [File.held, hrecords, List.map_append, List.map_cons, List.map_nil, List.flatten_append,
      List.flatten_cons, List.flatten_nil, List.count_append, List.append_nil] at *
    omega
  · rw [hrecords, List.map_append]
    exact numbers.append (List.nodup_singleton _) (by simpa using hnum)

/-- A deletion that gives the record's blocks to the store keeps the invariant (R13). -/
theorem BlocksSound.delete {st st' : Store} {f : File} {m : Message} (h : BlocksSound (st, f))
    (hm : m ∈ f.records) (hp : st'.held.Perm (st.held ++ m.chain)) :
    BlocksSound (st', { f with records := f.records.filter fun r => r.number != m.number }) := by
  obtain ⟨before, after, hrecords, -, hfilter⟩ := File.place_of_mem hm h.numbers
  obtain ⟨once, numbers⟩ := h
  refine ⟨.trans ?_ once, ?_⟩
  · simp only [File.held, hfilter]
    rw [List.perm_iff_count] at *
    intro a
    have := hp a
    simp only [hrecords, List.map_append, List.map_cons, List.flatten_append,
      List.flatten_cons, List.count_append] at *
    omega
  · exact numbers.sublist (List.filter_sublist.map _)

/-- Each action keeps every block with one holder (R1). -/
theorem BlockMove.blocksSound {x y : Store × File} (hmove : BlockMove x y) (h : BlocksSound x) : BlocksSound y := by
  cases hmove with
  | append st f n e => exact h.withStore (st.append_held n e)
  | remove st f n => exact h.withStore (st.removeHead_held n)
  | empty st f n => exact h.withStore (st.emptySpool_held n)
  | episode st f e => exact h.withStore (.refl _)
  | grow st hm cells m' hnum hchain =>
    exact h.replace hm hnum (hchain ▸ st.chainAppend_held _ cells)
  | opened st few hnum hchain hrecords =>
    refine h.opened hrecords (hnum ▸ File.nextNumber_fresh (few.trans (by decide))) ?_
    rw [hchain]
    simpa using st.chainAppend_held [] 0
  | rewrite st hm m' hnum hchain => exact h.replace hm hnum (by rw [hchain])
  | relabel st g hnumbers hchains =>
    exact ⟨by simpa [File.held, hchains] using h.once, by simpa [hnumbers] using h.numbers⟩
  | delete st hm => exact h.delete hm (st.held_returnBlocks _)
  | powerOn st f => exact blocksSound_reset

/-! ## Each action keeps the spools in shape -/

/-- R4, R5: the five spools are in shape. -/
def Store.Shaped (st : Store) : Prop := ∀ n, (st.spool n).shaped n.share

theorem State.spoolsShaped_iff {s : State} : s.SpoolsShaped ↔ s.store.Shaped :=
  ⟨fun ⟨h1, h2, h3, h4, h5⟩ n => by cases n <;> assumption,
    fun h => ⟨h .pLine, h .pLocal, h .pSubmit, h .punch, h .send⟩⟩

/-- Five empty spools are in shape (R5). -/
theorem Store.reset_shaped : Store.reset.Shaped := fun n => by cases n <;> exact Spool.empty_shaped _

/-- An action on one spool that keeps its shape keeps all five. -/
theorem Store.Shaped.of_one {st st' : Store} (h : st.Shaped) (n : SpoolName)
    (hself : (st'.spool n).shaped n.share) (hother : ∀ m, m ≠ n → st'.spool m = st.spool m) : st'.Shaped := by
  intro m
  by_cases hm : m = n
  · rwa [hm]
  · rw [hother m hm]
    exact h m

/-- A store with the same spools keeps the shape. -/
theorem Store.Shaped.of_spools {st st' : Store} (h : st.Shaped) (heq : ∀ n, st'.spool n = st.spool n) :
    st'.Shaped := fun n => heq n ▸ h n

/-- Each action keeps the spools in shape (R4, R5). -/
theorem BlockMove.shaped {x y : Store × File} (hmove : BlockMove x y) (h : x.1.Shaped) : y.1.Shaped := by
  cases hmove with
  | append st f n e => exact h.of_one n (Store.append_shaped (h n) e) fun m hm => st.append_other hm e
  | remove st f n => exact h.of_one n (Store.removeHead_shaped (h n)) fun m hm => st.removeHead_other hm
  | empty st f n => exact h.of_one n (st.emptySpool_shaped n) fun m hm => st.emptySpool_other hm
  | grow st | opened st => exact h.of_spools fun n => st.chainAppend_spool _ _ n
  | powerOn st f => exact Store.reset_shaped
  | episode | rewrite | relabel | delete => exact h.of_spools fun n => by cases n <;> rfl

end Sys2Proof.Machine
end

section
/-! SUPPORT. The power-on values meet every invariant of Safety.lean (R184). -/

namespace Sys2Proof.Machine

theorem State.reset_blocksHeld : State.reset.BlocksHeld := State.blocksHeld_iff.mpr blocksSound_reset

theorem State.reset_spoolsShaped : State.reset.SpoolsShaped := State.spoolsShaped_iff.mpr Store.reset_shaped

theorem State.reset_fileSound : State.reset.FileSound where
  few := Nat.zero_le _
  numbers := List.nodup_nil
  each := fun _ h => absurd h List.not_mem_nil
  receiving := Nat.zero_le _
  replaying := fun _ h => absurd h List.not_mem_nil
  replay := fun _ h => absurd h (Option.not_mem_none _)

theorem State.reset_noticesSound : State.reset.NoticesSound where
  few := Nat.zero_le _
  coalesced := List.nodup_nil

theorem State.reset_optionsSound : State.reset.OptionsSound where
  count := rfl
  each := by decide
  ordered := by decide
  inEffect := by decide

theorem State.reset_carriageSound : State.reset.CarriageSound where
  options := State.reset_optionsSound
  width := by decide
  column := fun _ h => absurd h (Option.not_mem_none _)

theorem State.reset_arbiterSound : State.reset.ArbiterSound where
  committed := fun h => absurd h Bool.false_ne_true
  waiting := fun h => absurd rfl h

theorem State.reset_cyclesSound : State.reset.CyclesSound where
  motor := rfl
  print := fun h => absurd h Bool.false_ne_true
  punch := fun h => absurd h Bool.false_ne_true
  printSettle := by decide
  punchSettle := by decide
  withdrawn := fun h => absurd h Bool.false_ne_true

theorem State.reset_punchOwned : State.reset.PunchOwned where
  unowned := fun _ => rfl
  streams := fun _ h => absurd h List.not_mem_nil
  leader := fun h => absurd rfl h
  lineRelease := fun h => absurd rfl h
  trailer := fun _ h => nomatch h
  localRelease := fun h => absurd h Bool.false_ne_true
  submittedRelease := fun h => absurd h Bool.false_ne_true
  clearRelease := fun h => absurd h Bool.false_ne_true
  feedRequest := fun h => absurd h Bool.false_ne_true
  feedHeld := fun h => absurd h Bool.false_ne_true
  committed := fun h => absurd h Bool.false_ne_true
  releaseTimer := fun h => absurd h Bool.false_ne_true

theorem State.reset_callSound : State.reset.CallSound where
  timers := by constructor <;> exact fun h => absurd h Bool.false_ne_true
  record := rfl
  stopPending := fun h => absurd h Bool.false_ne_true
  clearCause := fun h => nomatch h
  receiver := by decide
  guard := fun h => absurd h Bool.false_ne_true
  sender := fun _ => rfl
  send := fun _ => rfl
  loading := fun _ => rfl
  motor := rfl
  running := fun h => nomatch h
  placed := fun h => absurd h Bool.false_ne_true
  removed := fun h => absurd h Bool.false_ne_true

theorem State.reset_keyboardSound : State.reset.KeyboardSound where
  positions := by decide
  thirds := by decide
  scanned := rfl
  locked := fun _ => rfl
  keyMap := fun _ => .inr rfl
  entries := fun _ h => absurd h (Option.not_mem_none _)

theorem State.reset_linkSound : State.reset.LinkSound where
  reply := by decide
  answer := by decide
  inTurn := fun h => nomatch h
  outOfTurn := fun _ => ⟨fun h => (nomatch h), fun ⟨h, _⟩ => (nomatch h)⟩
  awaited := by decide
  oneCommand := by decide
  body := trivial
  place := fun _ h => absurd h (Option.not_mem_none _)

/-- Settles O3: one lemma for each of the twelve invariants. -/
theorem resetMeetsEveryInvariant : Obligations.ResetMeetsEveryInvariant :=
  ⟨State.reset_blocksHeld, State.reset_spoolsShaped, State.reset_fileSound, State.reset_noticesSound,
    State.reset_optionsSound, State.reset_carriageSound, State.reset_arbiterSound, State.reset_cyclesSound,
    State.reset_punchOwned, State.reset_callSound, State.reset_keyboardSound, State.reset_linkSound⟩

end Sys2Proof.Machine
end

section
/-! SUPPORT. A run of actions, and that the choices which follow a step come to one. A lemma `f_moves` says that
the operation `f` changes the store and the file by a run of actions, if at all. -/

namespace Sys2Proof.Machine

/-! ## Runs of actions -/

/-- The store and the file of `t` come from those of `s` by a run of actions. -/
def State.MovesTo (s t : State) : Prop := Relation.ReflTransGen BlockMove s.stock t.stock

/-- An operation that comes to a run of actions in every state. -/
def Moving (f : State → State) : Prop := ∀ s : State, s.MovesTo (f s)

section MovesTo

variable {s t u : State}

/-- What leaves the store and the file makes no action. -/
theorem State.MovesTo.still (h : t.stock = s.stock) : s.MovesTo t := by
  unfold State.MovesTo
  rw [h]

theorem State.MovesTo.trans (h : s.MovesTo t) (k : t.MovesTo u) : s.MovesTo u := Relation.ReflTransGen.trans h k

/-- A run of actions, followed by what leaves the store and the file. -/
theorem State.MovesTo.keeping (h : s.MovesTo t) (hu : u.stock = t.stock) : s.MovesTo u := h.trans (.still hu)

/-- A run of actions, preceded by what leaves the store and the file. -/
theorem State.MovesTo.after (h : t.MovesTo u) (ht : t.stock = s.stock) : s.MovesTo u :=
  State.MovesTo.trans (.still ht) h

/-- A run of actions, followed by a reply (R174). -/
theorem State.MovesTo.accept (h : s.MovesTo t) {kind : Byte} {r : Result} : s.MovesTo (t.accept kind r) :=
  h.keeping rfl

/-- One action makes a run. -/
theorem State.MovesTo.action {x : Store × File} (h : BlockMove s.stock x) (ht : t.stock = x) : s.MovesTo t := by
  subst ht
  exact .single h

/-- What every action keeps, every run keeps. -/
theorem State.MovesTo.preserves {P : Store × File → Prop} (hP : ∀ {x y}, BlockMove x y → P x → P y)
    (h : s.MovesTo t) (hs : P s.stock) : P t.stock := by
  unfold State.MovesTo at h
  generalize t.stock = y at *
  induction h with
  | refl => exact hs
  | tail _ hmove ih => exact hP hmove ih

end MovesTo

variable (s : State)

/-! ## The printer -/

theorem State.printOwn_moves (n : PrintSpool) (c : Cell) : s.MovesTo (s.printOwn n c) :=
  .action (.remove s.store s.file n.toSpool) rfl

theorem State.insertShift_moves (k : Case) : s.MovesTo (s.insertShift k) := by
  unfold State.insertShift
  exact .still (by simp)

theorem State.printCell_moves (n : PrintSpool) (c : Cell) : s.MovesTo (s.printCell n c) := by
  unfold State.printCell
  dsimp only
  split
  · exact .still (by simp)
  · exact .still (by simp)
  · split
    · exact .still (by simp)
    split
    · exact .still (by simp)
    split
    · exact (State.insertShift_moves _ _).after (by simp)
    · exact (State.printOwn_moves _ n c).after (by simp)

theorem State.printFrom_moves (n : PrintSpool) : s.MovesTo (s.printFrom n) := by
  unfold State.printFrom
  split
  · exact s.printCell_moves n _
  · exact .still (by simp)

theorem State.printChoiceItem_moves : s.MovesTo s.printChoiceItem := by
  have hnewline : s.MovesTo (if s.printer.newlineOwed = .crAndLf then s.insertCr .owedCr else s.insertLf) := by
    split <;> exact .still (by simp)
  have hgrant : ∀ n, s.MovesTo ({ s with printer := s.printer.grant n }.printFrom n) := fun n =>
    (State.printFrom_moves _ n).after (by simp)
  unfold State.printChoiceItem
  split
  · split
    · exact s.printFrom_moves _
    split
    · exact hnewline
    split
    · split
      · exact hgrant _
      · exact .still (by simp)
    split
    · exact s.printFrom_moves _
    split <;> exact .still (by simp)
  · split
    · exact hnewline
    split
    · exact hgrant _
    · exact .still (by simp)

theorem State.printChoice_moves : s.MovesTo s.printChoice := by
  rcases s.printChoice_cases with h | ⟨-, h, -⟩ <;> rw [h]
  · exact .still (by simp)
  · exact s.printChoiceItem_moves

theorem State.finishPrintCycle_moves (c : PrintCycle) (fault : Bool) : s.MovesTo (s.finishPrintCycle c fault) := by
  unfold State.finishPrintCycle
  dsimp only
  repeat' split
  all_goals exact .still (by simp)

/-! ## The punch -/

theorem State.appendPunch_moves (st : Stream) (c : Cell) : s.MovesTo (s.appendPunch st c) := by
  unfold State.appendPunch
  exact .action (.append s.store s.file .punch { cell := c, stream := some st }) (by simp)

theorem State.testReleases_moves : s.MovesTo s.testReleases := by
  unfold State.testReleases
  dsimp only
  split <;> exact .still (by simp)

theorem State.takePunchHead_moves : s.MovesTo s.takePunchHead :=
  .action (.remove s.store s.file .punch) rfl

theorem State.punchCell_moves (e : Entry) : s.MovesTo (s.punchCell e) := by
  unfold State.punchCell
  split
  · exact .still (by simp)
  · exact s.takePunchHead_moves.keeping rfl

theorem State.punchChoiceItem_moves : s.MovesTo s.punchChoiceItem := by
  unfold State.punchChoiceItem
  split
  · exact s.punchCell_moves _
  · split
    · exact .still rfl
    split
    · exact .still rfl
    split
    · exact s.punchCell_moves _
    split
    · exact .still rfl
    split <;> exact .still rfl

theorem State.punchChoice_moves : s.MovesTo s.punchChoice := by
  rcases s.punchChoice_cases with h | ⟨-, -, -, h⟩ <;> rw [h]
  · exact .still (by simp)
  · exact s.punchChoiceItem_moves

theorem State.finishPunchCycle_moves (c : PunchCycle) (fault : Bool) : s.MovesTo (s.finishPunchCycle c fault) := by
  unfold State.finishPunchCycle
  dsimp only
  repeat' split
  all_goals exact .still (by simp)

/-! ## The Line Sender -/

theorem State.keySend_moves : s.MovesTo s.keySend := by
  unfold State.keySend
  split
  · split
    · exact .still rfl
    · exact .action (.remove s.store s.file .send) rfl
  · exact .still rfl

theorem State.sendItem_moves : s.MovesTo s.sendItem := by
  unfold State.sendItem
  split
  · exact .still (by simp)
  split
  · exact .still (by simp)
  split
  · unfold State.keyAnswerback
    repeat' split
    all_goals exact .still rfl
  · split
    · unfold State.keyEnquiry
      split <;> exact .still rfl
    split
    · exact .still (by simp)
    · exact s.keySend_moves

theorem State.sendChoice_moves : s.MovesTo s.sendChoice := by
  unfold State.sendChoice
  split
  · exact s.sendItem_moves
  · exact .still (by simp)

/-! ## The choices that follow a step -/

theorem State.drive_moves : s.MovesTo s.drive := by
  unfold State.drive
  have hplaced : s.MovesTo s.testReleases.reviewHoldWait.reviewWithdrawn.placeDemands := s.testReleases_moves.keeping (by simp)
  exact ((hplaced.trans (State.printChoice_moves _)).trans (State.punchChoice_moves _)).keeping (by simp)

theorem State.carryOn_moves : s.MovesTo s.carryOn := s.drive_moves.trans (State.sendChoice_moves _)

/-- A run of actions, followed by the choices. -/
theorem State.MovesTo.carryOn {s t : State} (h : s.MovesTo t) : s.MovesTo t.carryOn := h.trans t.carryOn_moves

end Sys2Proof.Machine
end

section
/-! SUPPORT. The operations of the Message File, the Route Table, the Call Controller and the Line Receiver come
to runs of actions. -/

namespace Sys2Proof.Machine

/-! ## The Message File -/

/-- A replacement in the file puts the new record there (R93). -/
theorem File.mem_replace {f : File} {m m' : Message} (hm : m ∈ f.records) (number : m'.number = m.number) :
    m' ∈ (f.replace m').records :=
  List.mem_map.mpr ⟨m, hm, if_pos number.symm⟩

/-- The RECEIVING record is one of the file's (R93). -/
theorem File.mem_of_receiving {f : File} {m : Message} (h : f.receiving = some m) : m ∈ f.records :=
  List.mem_of_find?_eq_some h

/-- A record found by its number is one of the file's. -/
theorem File.mem_of_find {f : File} {number : Nat} {m : Message} (h : f.find number = some m) : m ∈ f.records :=
  List.mem_of_find?_eq_some h

/-- The end of a replay changes no number and no chain (R106). -/
theorem File.endReplay_move (st : Store) (f : File) : BlockMove (st, f) (st, f.endReplay) := by
  unfold File.endReplay
  split
  · refine .relabel st _ ?_ ?_ <;>
      · rw [List.map_map]
        refine List.map_congr_left fun m _ => ?_
        dsimp only [Function.comp]
        split <;> rfl
  · exact .relabel st f rfl rfl

section Filing

variable {s : State} {m : Message}

theorem State.closeMessage_moves (hm : m ∈ s.file.records) (cause : FilingCause) :
    s.MovesTo (s.closeMessage m cause) :=
  .action (.rewrite s.store hm (m.close (cause == .length) s.call.record.caller s.now) rfl rfl) rfl

theorem State.closeIfFull_moves (hm : m ∈ s.file.records) : s.MovesTo (s.closeIfFull m) := by
  unfold State.closeIfFull
  split
  · exact State.closeMessage_moves hm .length
  · exact .still rfl

theorem State.fileInto_moves (hm : m ∈ s.file.records) (c : Cell) : s.MovesTo (s.fileInto m c) := by
  let m' := m.fileCell c (s.store.chainAppend m.chain m.cells.length).1
  have hgrow : s.MovesTo { s with
      store := (s.store.chainAppend m.chain m.cells.length).2, file := s.file.replace m' } :=
    .action (.grow s.store hm m.cells.length m' rfl rfl) rfl
  exact hgrow.trans (State.closeIfFull_moves (File.mem_replace hm rfl))

theorem State.openMessage_moves (few : s.file.records.length < Config.fileRecords) (c : Cell) :
    s.MovesTo (s.openMessage c) :=
  .action (.opened s.store few rfl rfl rfl) rfl

end Filing

variable (s : State)

theorem State.offerFile_moves (c : Cell) : s.MovesTo (s.offerFile c).1 := by
  unfold State.offerFile
  split
  · exact .still rfl
  split
  · next m hm =>
    split
    · exact .action (.rewrite s.store (File.mem_of_receiving hm) { m with lost := satAdd m.lost 1 } rfl rfl) rfl
    · exact State.fileInto_moves (File.mem_of_receiving hm) c
  · split
    · exact .still rfl
    · next few =>
      split
      · exact .still rfl
      · exact State.openMessage_moves (Nat.lt_of_not_le few) c

theorem State.endFiling_moves (cause : FilingCause) : s.MovesTo (s.endFiling cause) := by
  have hpart : ∀ t : State, t.MovesTo { t with file := { t.file with lastPart := 0 } } := fun t =>
    .action (.relabel t.store { t.file with lastPart := 0 } rfl rfl) rfl
  unfold State.endFiling
  dsimp only
  split
  · next m hm => exact (State.closeMessage_moves (File.mem_of_receiving hm) cause).trans (hpart _)
  · exact hpart s

theorem State.replayCell_moves (t : ReplayTarget) (c : Cell) : s.MovesTo (s.replayCell t c) := by
  cases t
  · exact .action (.append s.store s.file .pSubmit _) rfl
  · exact s.appendPunch_moves .submitted c

theorem State.endReplay_moves : s.MovesTo { s with file := s.file.endReplay } :=
  .action (File.endReplay_move s.store s.file) rfl

theorem State.advanceReplay_moves (r : Replay) (total : Nat) : s.MovesTo (s.advanceReplay r total) := by
  unfold State.advanceReplay
  split
  · exact s.endReplay_moves.keeping rfl
  · let advanced := { s.file with replay := some { r with position := r.position + 1 } }
    exact .action (.relabel s.store advanced rfl rfl) rfl

theorem replayCopy_moves : s.MovesTo (replayCopy s) := by
  unfold replayCopy
  split
  · exact .still (by simp)
  split
  · exact .still (by simp)
  split
  · exact ((s.replayCell_moves _ _).trans (State.advanceReplay_moves _ _ _)).carryOn
  · exact .still (by simp)

/-! ## The Route Table -/

theorem State.tryPlace_moves (n : RouteName) (p : Place) (c : Cell) : s.MovesTo (s.tryPlace n p c).1 := by
  cases p with
  | print =>
    change s.MovesTo (s.tryPrint n c).1
    unfold State.tryPrint
    split
    · exact .still (by simp)
    split
    · exact .still (by simp)
    split
    · exact .still (by simp)
    · exact .action (.append s.store s.file n.printSpool _) rfl
  | punch =>
    change s.MovesTo (s.tryPunch n c).1
    unfold State.tryPunch
    split
    · exact .still (by simp)
    split
    · exact .still (by simp)
    split
    · exact .still (by simp)
    · exact s.appendPunch_moves n.stream c
  | file => exact s.offerFile_moves c

theorem Delivery.tryStandIn_moves (d : Delivery) (n : RouteName) (r : Route) (p : Place) (c : Cell) :
    d.state.MovesTo (d.tryStandIn n r p c).state := by
  unfold Delivery.tryStandIn
  split
  · exact .still rfl
  · dsimp only
    split <;> exact d.state.tryPlace_moves n _ c

theorem Delivery.deliverTo_moves (n : RouteName) (r : Route) (c : Cell) (d : Delivery) (p : Place) :
    d.state.MovesTo (Delivery.deliverTo n r c d p).state := by
  unfold Delivery.deliverTo
  split
  · dsimp only
    split
    · exact d.state.tryPlace_moves n p c
    · exact (d.state.tryPlace_moves n p c).trans ((Delivery.tryStandIn_moves _ n r p c).after rfl)
  · exact .still rfl

/-- Trying one place after another is a run of actions (R28). -/
theorem Delivery.foldl_deliverTo_moves (n : RouteName) (r : Route) (c : Cell) (places : List Place) (d : Delivery) :
    d.state.MovesTo (places.foldl (Delivery.deliverTo n r c) d).state := by
  induction places generalizing d with
  | nil => exact .still rfl
  | cons p places ih => exact (Delivery.deliverTo_moves n r c d p).trans (ih _)

theorem State.deliver_moves (n : RouteName) (c : Cell) : s.MovesTo (s.deliver n c).state := by
  unfold State.deliver
  dsimp only
  split
  · exact .still rfl
  · exact Delivery.foldl_deliverTo_moves n _ c [.print, .punch, .file]
      { state := s, placed := 0, lost := 0, tried := [], loss := none }

theorem State.present_moves (n : RouteName) (c : Cell) : s.MovesTo (s.present n c).1 := by
  unfold State.present
  exact (s.deliver_moves n c).keeping (by simp)

/-! ## Calls -/

theorem State.closeEpisode_moves : s.MovesTo s.closeEpisode := .action (.episode s.store s.file .closed) rfl

theorem State.reportLoss_moves (loss : Option (SpaceTarget × SpaceReason)) : s.MovesTo (s.reportLoss loss) := by
  unfold State.reportLoss
  split
  · dsimp only
    split <;> exact .action (.episode s.store s.file .opened) rfl
  · exact s.closeEpisode_moves
  · exact .still rfl

theorem State.tryConnect_moves : s.MovesTo s.tryConnect := by
  unfold State.tryConnect State.enterConnected
  split <;> exact .still (by simp)

theorem State.enterAnswering_moves : s.MovesTo s.enterAnswering := by
  unfold State.enterAnswering
  exact (State.tryConnect_moves _).after (by simp)

theorem State.enterCalling_moves : s.MovesTo s.enterCalling := by
  unfold State.enterCalling
  exact (State.tryConnect_moves _).after (by simp)

@[simp] theorem State.clearedNotice_store (o : CallOutcome) (sent received discarded : Nat) :
    (s.clearedNotice o sent received discarded).store = s.store := rfl

@[simp] theorem State.clearedNotice_file (o : CallOutcome) (sent received discarded : Nat) :
    (s.clearedNotice o sent received discarded).file = s.file := rfl

theorem State.failAttempt_moves (o : CallOutcome) : s.MovesTo (s.failAttempt o) := .still rfl

theorem State.endClearing_moves : s.MovesTo s.endClearing := by
  unfold State.endClearing
  split <;> exact .still (by simp)

theorem State.leaveLine_moves (cause : CallOutcome) : s.MovesTo (s.leaveLine cause) :=
  .action (.empty s.store s.file .send) rfl

theorem State.beginClearing_moves (cause : CallOutcome) : s.MovesTo (s.beginClearing cause) := by
  have hfiled := (s.leaveLine_moves cause).trans (State.endFiling_moves _ .clear)
  have hmarked : s.MovesTo ((s.leaveLine cause).endFiling .clear).markLineRelease := hfiled.keeping (by simp)
  exact (hmarked.trans (State.closeEpisode_moves _)).keeping rfl

theorem State.enterClearing_moves (cause : CallOutcome) : s.MovesTo (s.enterClearing cause) := by
  unfold State.enterClearing
  dsimp only
  split
  · exact (s.beginClearing_moves cause).trans (State.endClearing_moves _)
  · exact s.beginClearing_moves cause

theorem State.takeClear_moves : s.MovesTo s.takeClear := by
  unfold State.takeClear
  split
  · exact s.enterClearing_moves .farEnd
  · exact .still (by simp)

theorem State.tellDelivered_moves (cell : Cell) (enquiry : Bool) : s.MovesTo (s.tellDelivered cell enquiry) := by
  unfold State.tellDelivered State.takeEnquiry
  dsimp only
  repeat' split
  all_goals exact .still (by simp)

/-- A filtered change of the receive level starts and stops timers only. -/
theorem State.callLevelChange_moves (level : Level) (te : Nat) : s.MovesTo (s.callLevelChange level te) := by
  unfold State.callLevelChange
  split <;> exact .still rfl

theorem State.recognise_moves : s.MovesTo s.recognise := by
  unfold State.recognise
  split
  · exact (State.enterAnswering_moves _).after (by simp)
  · exact .still rfl
  · exact .still rfl

theorem State.withdrawn_moves : s.MovesTo s.withdrawn := by
  unfold State.withdrawn
  split <;> exact .still rfl

theorem State.endReleasing_moves : s.MovesTo s.endReleasing := by
  unfold State.endReleasing
  dsimp only
  split <;> exact .still rfl

/-! ## The Line Receiver -/

theorem State.poorCharacter_moves : s.MovesTo s.poorCharacter := by
  unfold State.poorCharacter
  dsimp only
  split <;> exact .still rfl

theorem State.recordDelivery_moves (k : Quality) : s.MovesTo (s.recordDelivery k) := by
  unfold State.recordDelivery
  dsimp only
  split
  · exact .still (by simp)
  · exact (State.poorCharacter_moves _).after (by simp)

theorem State.handOn_moves (c : Cell) (enquiry : Bool) : s.MovesTo (s.handOn c enquiry) := by
  unfold State.handOn
  exact ((s.present_moves .received c).trans (State.reportLoss_moves _ _)).trans (State.tellDelivered_moves _ _ _)

theorem State.deliverReceived_moves (code : Code) (k : Quality) : s.MovesTo (s.deliverReceived code k) := by
  have hrecorded : s.MovesTo ((s.recordDelivery k).receiveCase code) := (s.recordDelivery_moves k).keeping (by simp)
  exact hrecorded.trans (State.handOn_moves _ _ _)

theorem State.deliverSubstituted_moves : s.MovesTo s.deliverSubstituted :=
  (s.recordDelivery_moves .substituted).trans (State.handOn_moves _ _ _)

theorem State.discardPending_moves (char : Option PendingCharacter) : s.MovesTo (s.discardPending char) := by
  unfold State.discardPending
  split
  · exact (State.poorCharacter_moves _).after (by simp)
  · exact .still (by simp)

theorem State.reachBreak_moves (r : SpaceRun) : s.MovesTo (s.reachBreak r) := by
  have hdiscard : s.MovesTo
      ((s.receiverState (.spaceRun { r with char := none, broken := true })).discardPending r.char) :=
    (State.discardPending_moves _ _).after (by simp)
  unfold State.reachBreak
  exact hdiscard.keeping (by simp)

theorem State.ensureBreak_moves (r : SpaceRun) : s.MovesTo (s.ensureBreak r) := by
  unfold State.ensureBreak
  split
  · exact .still (by simp)
  · exact s.reachBreak_moves r

theorem State.markInRun_moves (r : SpaceRun) (te : Nat) : s.MovesTo (s.markInRun r te) := by
  unfold State.markInRun
  dsimp only
  split
  · split
    · exact (State.deliverSubstituted_moves _).after (by simp)
    · exact .still (by simp)
  · split
    · exact (s.ensureBreak_moves r).trans (State.takeClear_moves _)
    · exact (s.ensureBreak_moves r).keeping (by simp)

theorem State.receiverChange_moves (level : Level) (te : Nat) : s.MovesTo (s.receiverChange level te) := by
  unfold State.receiverChange
  split
  · exact .still (by simp)
  · split
    · unfold State.startEdge
      dsimp only
      split <;> exact .still (by simp)
    · exact .still (by simp)
  · exact .still (by simp)
  · split
    · exact s.markInRun_moves _ te
    · exact .still (by simp)

/-- What a sample does is a run of actions when what it does in its place is one (R41). -/
theorem State.atSample_moves {act : State → Assembly → State} (k : Nat)
    (hact : ∀ (t : State) a, t.MovesTo (act t a)) : s.MovesTo (s.atSample k act) := by
  unfold State.atSample
  split
  · split
    · exact (hact _ _).after (by simp)
    · exact .still (by simp)
  · exact .still (by simp)

theorem State.readStart_moves (a : Assembly) : s.MovesTo (s.readStart a) := by
  unfold State.readStart
  split
  · exact State.MovesTo.carryOn (.still (by simp))
  · exact .still (by simp)

theorem State.readStop_moves (a : Assembly) : s.MovesTo (s.readStop a) := by
  unfold State.readStop State.recordDistortion
  dsimp only
  split
  · exact ((State.deliverReceived_moves _ _ _).after (by simp)).carryOn
  · exact .still (by simp)

end Sys2Proof.Machine
end

section
/-! SUPPORT. The rows of the line, the mechanisms and the keyboard come to runs of actions. -/

namespace Sys2Proof.Machine

variable (s : State)

/-! ## The rows of the line and of the call timers -/

/-- What a timer does is a run of actions when what it does on its expiry is one (log 1). -/
theorem State.onTimer_moves {timer : Option Nat} {act : State → State} (hact : Moving act) :
    s.MovesTo (s.onTimer timer act) := by
  unfold State.onTimer
  split
  · exact (hact _).after (by simp)
  · exact .still (by simp)

theorem rxFilteredChange_moves (level : Level) (te : Nat) : s.MovesTo (rxFilteredChange level te s) := by
  unfold rxFilteredChange
  split
  · exact .still (by simp)
  · have hchange := ((s.confirmLevel level te).callLevelChange_moves level te).trans
      (State.receiverChange_moves _ level te)
    exact hchange.carryOn.after (by simp)

theorem startSample_moves : s.MovesTo (startSample s) := s.atSample_moves 0 State.readStart_moves

theorem unitSample_moves : s.MovesTo (unitSample s) := by
  unfold unitSample
  split
  · split
    · exact s.atSample_moves _ fun t a => .still rfl
    · exact .still (by simp)
  · exact .still (by simp)

theorem stopSample_moves : s.MovesTo (stopSample s) := s.atSample_moves 6 State.readStop_moves

theorem breakThreshold_moves : s.MovesTo (breakThreshold s) := by
  unfold breakThreshold
  split
  · split
    · exact .still (by simp)
    · exact (State.reachBreak_moves _ _).carryOn.after (by simp)
  · exact .still (by simp)

theorem clearThreshold_moves : s.MovesTo (clearThreshold s) := by
  unfold clearThreshold
  split
  · exact ((State.ensureBreak_moves _ _).trans (State.takeClear_moves _)).carryOn.after (by simp)
  · exact .still (by simp)

theorem turnaroundGuardExpiry_moves : s.MovesTo (turnaroundGuardExpiry s) :=
  s.onTimer_moves fun _ => (State.sendChoice_moves _).after (by simp)

theorem State.characterEnds_moves (k : Keying) : s.MovesTo (s.characterEnds k) := by
  have hsent : s.MovesTo (((s.advance k.due).keyingDone k).present .sentCopy k.cell).1 :=
    (State.present_moves _ _ _).after (by simp)
  unfold State.characterEnds
  dsimp only
  split <;> exact (hsent.keeping (by simp)).carryOn

theorem characterSent_moves : s.MovesTo (characterSent s) := by
  unfold characterSent
  split
  · exact s.characterEnds_moves _
  · exact .still (by simp)

theorem breakKeyingEnd_moves : s.MovesTo (breakKeyingEnd s) := by
  unfold breakKeyingEnd
  split
  · exact (State.sendChoice_moves _).after (by simp)
  · exact .still (by simp)

theorem callRecognition_moves : s.MovesTo (callRecognition s) :=
  s.onTimer_moves fun t => t.recognise_moves.carryOn

theorem withdrawal_moves : s.MovesTo (withdrawal s) := s.onTimer_moves fun t => t.withdrawn_moves.carryOn

theorem State.declineOffer_moves : s.MovesTo s.declineOffer := .still rfl

theorem offerTimeout_moves : s.MovesTo (offerTimeout s) :=
  s.onTimer_moves fun t => State.MovesTo.carryOn <| by
    split
    · exact t.enterAnswering_moves
    · exact t.declineOffer_moves

theorem confirmation_moves : s.MovesTo (confirmation s) := s.onTimer_moves fun t => t.tryConnect_moves.carryOn

theorem confirmTimeout_moves : s.MovesTo (confirmTimeout s) :=
  s.onTimer_moves fun t => (t.failAttempt_moves .noConfirm).carryOn

theorem idleTimeout_moves : s.MovesTo (idleTimeout s) :=
  s.onTimer_moves fun t => (t.enterClearing_moves .idle).carryOn

theorem enquiryDelayExpiry_moves : s.MovesTo (enquiryDelayExpiry s) :=
  s.onTimer_moves fun _ => (State.sendChoice_moves _).after (by simp)

theorem captureWindowExpiry_moves : s.MovesTo (captureWindowExpiry s) := by
  unfold captureWindowExpiry
  split <;> exact .still rfl

theorem clearingEnd_moves : s.MovesTo (clearingEnd s) := s.onTimer_moves fun t => t.endClearing_moves.carryOn

theorem clearingTimeout_moves : s.MovesTo (clearingTimeout s) :=
  s.onTimer_moves fun t => t.endClearing_moves.carryOn

theorem releasingEnd_moves : s.MovesTo (releasingEnd s) := s.onTimer_moves fun t => t.endReleasing_moves.carryOn

theorem runUpExpiry_moves : s.MovesTo (runUpExpiry s) := by
  unfold runUpExpiry
  split
  · dsimp only
    split
    · exact .still rfl
    · exact (State.tryConnect_moves _).carryOn.after (by simp)
  · exact .still (by simp)

theorem runOnExpiry_moves : s.MovesTo (runOnExpiry s) := by
  unfold runOnExpiry
  split <;> exact .still rfl

/-! ## The rows of the mechanisms -/

theorem selectEnd_moves : s.MovesTo (selectEnd s) := by
  unfold selectEnd State.beginStrike
  dsimp only
  repeat' split
  all_goals exact .still (by simp)

theorem strikeEnd_moves : s.MovesTo (strikeEnd s) := by
  unfold strikeEnd
  repeat' split
  all_goals exact .still rfl

theorem punchPulseEnd_moves : s.MovesTo (punchPulseEnd s) := by
  unfold punchPulseEnd
  repeat' split
  all_goals exact .still rfl

theorem feedPulseEnd_moves : s.MovesTo (feedPulseEnd s) := by
  unfold feedPulseEnd
  repeat' split
  all_goals exact .still rfl

theorem State.report_moves (m : Mechanism) (fault : Bool) : s.MovesTo (s.report m fault) := by
  unfold State.report
  cases m with
  | printer =>
    dsimp only
    split
    · exact (s.finishPrintCycle_moves _ fault).carryOn
    · exact .still (by simp)
  | punch =>
    dsimp only
    split
    · exact (s.finishPunchCycle_moves _ fault).carryOn
    · exact .still (by simp)

theorem State.endSettle_moves (m : Mechanism) (elapsed : Nat) (fault : Bool) :
    s.MovesTo (s.endSettle m elapsed fault) := (State.report_moves _ m fault).after (by simp)

theorem settleFixedEnd_moves (m : Mechanism) : s.MovesTo (settleFixedEnd m s) := by
  unfold settleFixedEnd
  dsimp only
  split
  · exact s.endSettle_moves ..
  · exact .still (by simp)

theorem settleSampledReading_moves (m : Mechanism) (busy : Bool) : s.MovesTo (settleSampledReading m busy s) := by
  unfold settleSampledReading
  dsimp only
  split
  · split
    · exact .still (by simp)
    · exact s.endSettle_moves ..
  · exact .still (by simp)

theorem settleAddEnd_moves (m : Mechanism) : s.MovesTo (settleAddEnd m s) := by
  unfold settleAddEnd
  dsimp only
  split
  · exact s.endSettle_moves ..
  · exact .still (by simp)

theorem extendedReading_moves (m : Mechanism) (busy : Bool) : s.MovesTo (extendedReading m busy s) := by
  unfold extendedReading
  dsimp only
  split
  · exact .still (by simp)
  · split
    · exact s.endSettle_moves ..
    split
    · exact s.endSettle_moves ..
    · exact .still (by simp)

theorem bellTimerExpiry_moves : s.MovesTo (bellTimerExpiry s) := s.onTimer_moves fun _ => .still rfl

theorem holdWaitExpiry_moves : s.MovesTo (holdWaitExpiry s) := by
  unfold holdWaitExpiry
  split
  · dsimp only
    split
    · exact (State.carryOn_moves _).after (by simp)
    · exact .still rfl
  · exact .still (by simp)

theorem releaseTimerExpiry_moves : s.MovesTo (releaseTimerExpiry s) :=
  s.onTimer_moves fun _ => (State.carryOn_moves _).after (by simp)

theorem paperOutChange_moves (asserted : Bool) (te : Nat) : s.MovesTo (paperOutChange asserted te s) := by
  unfold paperOutChange State.paperOutTaken State.paperGone
  dsimp only
  split
  · split
    · split
      · exact (State.carryOn_moves _).after (by simp)
      · exact .still rfl
    split <;> exact .still rfl
  · exact .still (by simp)

theorem paperRestoreExpiry_moves : s.MovesTo (paperRestoreExpiry s) :=
  s.onTimer_moves fun _ => (State.carryOn_moves _).after (by simp)

theorem paperLowChange_moves (asserted : Bool) (te : Nat) : s.MovesTo (paperLowChange asserted te s) := by
  unfold paperLowChange
  split <;> exact .still rfl

theorem tapeOutChange_moves (asserted : Bool) (te : Nat) : s.MovesTo (tapeOutChange asserted te s) := by
  unfold tapeOutChange State.tapeOutTaken State.tapeGone
  dsimp only
  split
  · split
    · split
      · exact (State.carryOn_moves _).after (by simp)
      · exact .still rfl
    split <;> exact .still rfl
  · exact .still (by simp)

theorem tapeRestoreExpiry_moves : s.MovesTo (tapeRestoreExpiry s) :=
  s.onTimer_moves fun _ => (State.carryOn_moves _).after (by simp)

theorem tapeLowChange_moves (asserted : Bool) (te : Nat) : s.MovesTo (tapeLowChange asserted te s) := by
  unfold tapeLowChange
  split <;> exact .still rfl

theorem inputFilterStart_moves (input : InputPin) (asserted : Bool) :
    s.MovesTo (inputFilterStart input asserted s) := by
  unfold inputFilterStart
  split
  · exact (State.carryOn_moves _).after (by simp)
  · exact .still (by simp)

/-! ## The keyboard -/

theorem State.keyToSend_moves (cell : Cell) : s.MovesTo (s.keyToSend cell) := by
  unfold State.keyToSend
  split
  · exact .action (.append s.store s.file .send _) rfl
  · exact .still (by simp)

theorem State.keyToLocal_moves (cell : Cell) : s.MovesTo (s.keyToLocal cell) := by
  unfold State.keyToLocal
  dsimp only
  split <;> exact (s.present_moves .keyedLocal cell).keeping (by simp)

theorem State.pressCode_moves (c : Code) (requirement : Option Case) : s.MovesTo (s.pressCode c requirement) := by
  unfold State.pressCode
  dsimp only
  split
  · exact s.keyToSend_moves _
  · exact s.keyToLocal_moves _

/-- Cells appended one after another are a run of actions (R7). -/
theorem Store.appendAll_moves (n : SpoolName) (es : List Entry) (st : Store) (f : File) :
    Relation.ReflTransGen BlockMove (st, f) (st.appendAll n es, f) := by
  induction es generalizing st with
  | nil => exact .refl
  | cons e es ih => exact .head (.append st f n e) (ih _)

/-- A batch that is taken is a run of actions (R7). -/
theorem State.batch_moves {n : SpoolName} {es : List Entry} {st : Store} (h : s.store.batch n es = .ok st) :
    s.MovesTo { s with store := st } := by
  rcases s.store.batch_cases n es with ⟨-, heq⟩ | ⟨-, heq⟩ <;> rw [heq] at h
  · cases h
    exact s.store.appendAll_moves n es s.file
  · cases h

theorem State.changeMode_moves (mode : KeyboardMode) : s.MovesTo (s.changeMode mode) := by
  unfold State.changeMode
  exact .still (by simp)

theorem State.pressHereIs_moves : s.MovesTo s.pressHereIs := by
  unfold State.pressHereIs
  split
  · exact .still (by simp)
  split
  · exact .still (by simp)
  split
  · next h => exact s.batch_moves h
  · exact .still (by simp)

theorem State.pressFeed_moves : s.MovesTo s.pressFeed := by
  unfold State.pressFeed
  split <;> exact .still (by simp)

theorem State.pressKey_moves (entry : KeyEntry) : s.MovesTo (s.pressKey entry) := by
  unfold State.pressKey
  split
  · exact .still (by simp)
  · exact s.pressCode_moves _ _
  · exact s.pressHereIs_moves
  · unfold State.pressBreak
    split <;> exact .still (by simp)
  · unfold State.pressMode
    split
    · exact s.changeMode_moves .line
    · exact s.changeMode_moves .loc
    · exact .still (by simp)
  · exact s.pressFeed_moves

theorem State.actOnPress_moves (p : Fin 64) : s.MovesTo (s.actOnPress p) := by
  unfold State.actOnPress
  split
  · exact .still (by simp)
  · exact .still (by simp)
  · split
    · exact .still (by simp)
    · exact (s.pressKey_moves _).carryOn

theorem State.actOnRelease_moves (p : Fin 64) : s.MovesTo (s.actOnRelease p) := by
  unfold State.actOnRelease
  split
  · exact .still (by simp)
  · exact .still (by simp)
  · split
    · exact (State.carryOn_moves _).after (by simp)
    · exact .still (by simp)

theorem confirmedPress_moves (p : Fin 64) : s.MovesTo (confirmedPress p s) := by
  unfold confirmedPress
  split
  · exact (State.actOnPress_moves _ p).after (by simp)
  · exact .still (by simp)

theorem confirmedRelease_moves (p : Fin 64) : s.MovesTo (confirmedRelease p s) := by
  unfold confirmedRelease
  split
  · exact (State.actOnRelease_moves _ p).after (by simp)
  · exact .still (by simp)

end Sys2Proof.Machine
end

section
/-! SUPPORT. The loader, the commands of the host and the Control Link come to runs of actions, and so does every
step. -/

namespace Sys2Proof.Machine

variable (s : State)

/-! ## The loader -/

theorem powerOnValues_moves (occasion : LoadOccasion) (straps : BitVec 2) (holdOff : Bool) (now freeIndex : Nat)
    (pending : List Instr) :
    s.MovesTo (State.powerOnValues occasion straps holdOff now freeIndex pending) :=
  .action (.powerOn s.store s.file) rfl

theorem storeByte0Read_moves (byte : Option Byte) : s.MovesTo (storeByte0Read byte s) := by
  unfold storeByte0Read
  split
  · split <;> exact .still rfl
  · exact .still (by simp)

theorem State.setSwitch_moves (on : Bool) : s.MovesTo (s.setSwitch on) := by
  unfold State.setSwitch
  exact .still (by simp)

theorem State.handOverKeyboard_moves (before : KeyboardMode) : s.MovesTo (s.handOverKeyboard before) := by
  unfold State.handOverKeyboard
  exact .still (by simp)

theorem State.afterLoad_moves (occasion : LoadOccasion) : s.MovesTo (s.afterLoad occasion) := by
  unfold State.afterLoad
  split
  · exact .still (by simp)
  · split <;> exact .still (by simp)

theorem State.endLoad_moves (l : Loading) (image : List Byte) : s.MovesTo (s.endLoad l image) := by
  unfold State.endLoad
  refine State.MovesTo.carryOn (State.MovesTo.trans ?_ (State.afterLoad_moves _ l.occasion))
  refine State.MovesTo.trans ?_ (.still rfl : State.MovesTo _ (State.loadDone _ l.occasion))
  refine State.MovesTo.trans ?_ (State.handOverKeyboard_moves _ l.modeBefore)
  exact (State.setSwitch_moves _ _).after (by simp)

theorem loadEnd_moves (image : List Byte) : s.MovesTo (loadEnd image s) := by
  unfold loadEnd
  split
  · split
    · exact s.endLoad_moves _ image
    · exact .still (by simp)
  · exact .still (by simp)

theorem reload_moves : s.MovesTo (reload s) := by
  unfold reload
  split <;> exact .still (by simp)

/-- RESTART empties the five spools and closes the episode (R18). -/
theorem State.restartStore_moves : s.MovesTo { s with store := s.store.restart } := by
  have hempty : ∀ (t : State) (n : SpoolName), t.MovesTo { t with store := (t.store.emptySpool n).2 } := fun t n =>
    .action (.empty t.store t.file n) rfl
  have hprinted := ((hempty s .pLine).trans (hempty _ .pLocal)).trans (hempty _ .pSubmit)
  have hemptied := (hprinted.trans (hempty _ .punch)).trans (hempty _ .send)
  exact hemptied.trans (.action (.episode _ _ .closed) rfl)

theorem State.restartCall_moves : s.MovesTo s.restartCall := by
  unfold State.restartCall
  dsimp only
  split <;> exact .still rfl

theorem State.restartFile_moves : s.MovesTo s.restartFile :=
  (s.endFiling_moves .restart).trans (State.endReplay_moves _)

theorem State.restartPrinter_moves : s.MovesTo s.restartPrinter := by
  unfold State.restartPrinter
  dsimp only
  split <;> exact .still (by simp)

theorem State.restartPunch_moves : s.MovesTo s.restartPunch := by
  unfold State.restartPunch
  exact .still (by simp)

theorem State.restartBlocks_moves : s.MovesTo s.restartBlocks := by
  have hcall : s.MovesTo s.restartCall.resetSender.disableReceiver := s.restartCall_moves.keeping (by simp)
  have hstore := (hcall.trans (State.restartFile_moves _)).trans (State.restartStore_moves _)
  unfold State.restartBlocks
  exact ((hstore.trans (State.restartPrinter_moves _)).trans (State.restartPunch_moves _)).keeping (by simp)

theorem restart_moves : s.MovesTo (restart s) := by
  unfold restart
  exact (State.restartBlocks_moves _).after (by simp)

theorem setOption_moves (offset : Byte) (value : Word16) : s.MovesTo (setOption offset value s) := by
  unfold setOption
  repeat' split
  all_goals exact .still (by simp)

theorem getOption_moves (offset : Byte) : s.MovesTo (getOption offset s) := by
  unfold getOption
  split <;> exact .still (by simp)

theorem storeRead_moves (offset count : Byte) : s.MovesTo (storeRead offset count s) := by
  unfold storeRead
  repeat' split
  all_goals exact .still (by simp)

theorem storeWrite_moves (offset : Byte) (bytes : List Byte) : s.MovesTo (storeWrite offset bytes s) := by
  unfold storeWrite
  repeat' split
  all_goals exact .still (by simp)

theorem storeOperationEnd_moves (acknowledged : Bool) (bytes : List Byte) :
    s.MovesTo (storeOperationEnd acknowledged bytes s) := by
  unfold storeOperationEnd
  split
  · exact .still (by simp)
  · split <;> exact .still (by simp)
  · split <;> exact .still (by simp)

theorem storeWritePollTimeout_moves : s.MovesTo (storeWritePollTimeout s) := by
  unfold storeWritePollTimeout
  split <;> exact .still (by simp)

/-! ## The commands of service, calls and the line -/

theorem getStatus_moves : s.MovesTo (getStatus s) := .still rfl

theorem startService_moves : s.MovesTo (startService s) := by
  unfold startService
  repeat' split
  all_goals exact .still (by simp)

theorem State.stopEffect_moves : s.MovesTo s.stopEffect.1 := by
  have hcarry : s.MovesTo (((s.demandCall false).endRecord .stopService).enterCall .outOfService).carryOn :=
    (State.carryOn_moves _).after (by simp)
  have hclear : s.MovesTo ((s.withStop true).enterClearing .stopService).carryOn :=
    (State.enterClearing_moves _ _).carryOn.after (by simp)
  unfold State.stopEffect
  split <;> dsimp only
  · exact .still (by simp)
  · exact .still (by simp)
  · exact .still (by simp)
  · exact hcarry
  · exact hclear
  · exact hclear
  · exact .still (by simp)
  · exact .still (by simp)

theorem stopService_moves : s.MovesTo (stopService s) := s.stopEffect_moves.accept

theorem acceptCall_moves : s.MovesTo (acceptCall s) := by
  unfold acceptCall
  split
  · exact s.enterAnswering_moves.carryOn.accept
  · exact .still (by simp)

theorem declineCall_moves : s.MovesTo (declineCall s) := by
  unfold declineCall
  split
  · exact s.declineOffer_moves.carryOn.accept
  · exact .still (by simp)

theorem placeCall_moves : s.MovesTo (placeCall s) := by
  unfold placeCall
  split
  · exact s.enterCalling_moves.carryOn.accept
  · exact .still (by simp)

theorem clearCall_moves : s.MovesTo (clearCall s) := by
  unfold clearCall
  split
  · exact (s.enterClearing_moves .station).carryOn.accept
  · exact (s.enterClearing_moves .station).carryOn.accept
  · exact (s.failAttempt_moves .station).carryOn.accept
  · exact .still (by simp)

theorem sendAnswerback_moves : s.MovesTo (sendAnswerback s) := by
  have hcarry : s.MovesTo s.triggerAnswerback.carryOn := (State.carryOn_moves _).after (by simp)
  unfold sendAnswerback
  split
  · split
    · exact hcarry.accept
    · exact .still (by simp)
  · exact .still (by simp)

theorem sendEnquiry_moves : s.MovesTo (sendEnquiry s) := by
  have hcarry : s.MovesTo s.requestEnquiry.carryOn := (State.carryOn_moves _).after (by simp)
  unfold sendEnquiry
  split
  · exact hcarry.accept
  · exact .still (by simp)

theorem sendBreak_moves : s.MovesTo (sendBreak s) := by
  have hcarry : s.MovesTo s.requestBreak.carryOn := (State.carryOn_moves _).after (by simp)
  unfold sendBreak
  split
  · exact hcarry.accept
  · exact .still (by simp)

theorem resumeSend_moves : s.MovesTo (resumeSend s) := by
  have hcarry : s.MovesTo s.endHold.carryOn := (State.carryOn_moves _).after (by simp)
  unfold resumeSend
  split
  · split
    · exact hcarry.accept
    · exact .still (by simp)
  · exact .still (by simp)

theorem getCall_moves : s.MovesTo (getCall s) := .still rfl

theorem getLineQuality_moves (clear : Byte) : s.MovesTo (getLineQuality clear s) := by
  unfold getLineQuality
  split
  · exact .still (by simp)
  · split <;> exact .still (by simp)

/-! ## The commands of the routes, the spools and the Message File -/

theorem setRoute_moves (route destinations printStandIn punchStandIn : Byte) (reload : Word16) (action : Byte) :
    s.MovesTo (setRoute route destinations printStandIn punchStandIn reload action s) := by
  unfold setRoute
  split <;> exact .still rfl

theorem getRoute_moves (route clear : Byte) : s.MovesTo (getRoute route clear s) := by
  unfold getRoute
  split
  · dsimp only
    split <;> exact .still (by simp)
  · exact .still (by simp)

theorem rearmRoute_moves (route : Byte) : s.MovesTo (rearmRoute route s) := by
  unfold rearmRoute
  split <;> exact .still rfl

theorem State.claimFor_moves (t : SubmitTarget) : s.MovesTo (s.claimFor t) := by
  unfold State.claimFor
  split <;> exact .still (by simp)

theorem State.submitCells_moves (t : SubmitTarget) (cells : List Cell) : s.MovesTo (s.submitCells t cells) := by
  unfold State.submitCells
  dsimp only
  split
  · exact .still (by simp)
  · next st h =>
    have hclaim : s.MovesTo { s.claimFor t with store := st } :=
      (s.batch_moves h).keeping (by cases t <;> simp [State.claimFor])
    exact hclaim.accept.carryOn

theorem submitText_moves (target : Byte) (bytes : List Byte) : s.MovesTo (submitText target bytes s) := by
  unfold submitText
  split
  · split
    · exact .still (by simp)
    · exact s.submitCells_moves _ _
  · exact .still (by simp)

theorem State.spoolEmptied_moves (n : SpoolName) : s.MovesTo (s.spoolEmptied n) := by
  unfold State.spoolEmptied
  split <;> exact .still (by simp)

theorem clearSpool_moves (spool : Byte) : s.MovesTo (clearSpool spool s) := by
  unfold clearSpool
  split
  · exact .still (by simp)
  · next n _ =>
    have hempty : s.MovesTo { s with store := (s.store.emptySpool n).2 } :=
      .action (.empty s.store s.file n) rfl
    exact (hempty.trans (State.spoolEmptied_moves _ n)).accept.carryOn

theorem listMessages_moves (start : Byte) : s.MovesTo (listMessages start s) := .still rfl

theorem getMessage_moves (number : Byte) : s.MovesTo (getMessage number s) := by
  unfold getMessage
  split
  · exact .still (by simp)
  · split <;> exact .still (by simp)

theorem fetchMessage_moves (number : Byte) (offset : Word16) (count : Byte) :
    s.MovesTo (fetchMessage number offset count s) := by
  unfold fetchMessage
  split
  · exact .still (by simp)
  · split <;> exact .still (by simp)

theorem deleteMessage_moves (number : Byte) : s.MovesTo (deleteMessage number s) := by
  unfold deleteMessage
  split
  · exact .still (by simp)
  · next m hm =>
    split
    · exact .still (by simp)
    · exact .still (by simp)
    · exact .action (.delete s.store (File.mem_of_find hm)) rfl

theorem State.beginReplay_moves {m : Message} (hm : m ∈ s.file.records) (t : ReplayTarget) :
    s.MovesTo (s.beginReplay m t) := by
  have hstate : s.MovesTo { s with file := s.file.replace { m with state := .replaying } } :=
    .action (.rewrite s.store hm { m with state := .replaying } rfl rfl) rfl
  exact hstate.trans (.action (.relabel s.store (s.beginReplay m t).file rfl rfl) rfl)

theorem replayMessage_moves (number target : Byte) : s.MovesTo (replayMessage number target s) := by
  unfold replayMessage
  split
  · exact .still (by simp)
  split
  · exact .still (by simp)
  · next m hm =>
    split
    · exact .still (by simp)
    · exact (s.beginReplay_moves (File.mem_of_find hm) _).accept

theorem cancelReplay_moves : s.MovesTo (cancelReplay s) := by
  unfold cancelReplay
  split
  · exact .still (by simp)
  · next r _ =>
    have hnotice : s.MovesTo ({ s with file := s.file.endReplay }.notice (.replayDone r.number false r.position)) :=
      s.endReplay_moves.keeping (by simp)
    exact hnotice.accept

/-! ## The commands of the mechanisms and the keyboard -/

theorem printerHold_moves : s.MovesTo (printerHold s) := by
  have hcarry : s.MovesTo (s.withHold true).carryOn := (State.carryOn_moves _).after (by simp)
  exact hcarry.accept

theorem printerRelease_moves : s.MovesTo (printerRelease s) := by
  have hcarry : s.MovesTo (s.withHold false).carryOn := (State.carryOn_moves _).after (by simp)
  exact hcarry.accept

theorem State.resetPrinter_moves : s.MovesTo s.resetPrinter := by
  unfold State.resetPrinter
  split <;> exact .still (by simp)

theorem printerReset_moves : s.MovesTo (printerReset s) := s.resetPrinter_moves.carryOn.accept

theorem punchOn_moves : s.MovesTo (punchOn s) := (s.setSwitch_moves true).carryOn.accept

theorem punchOff_moves : s.MovesTo (punchOff s) := (s.setSwitch_moves false).carryOn.accept

theorem State.requestFeed_moves (blanks : Nat) : s.MovesTo (s.requestFeed blanks) := by
  unfold State.requestFeed
  exact .still (by simp)

theorem punchFeed_moves (count : Byte) : s.MovesTo (punchFeed count s) := by
  unfold punchFeed
  split
  · exact .still (by simp)
  split
  · exact .still (by simp)
  split
  · exact .still (by simp)
  · exact (s.requestFeed_moves count.toNat).accept.carryOn

theorem punchRelease_moves : s.MovesTo (punchRelease s) := by
  have hcarry : s.MovesTo s.releasePunch.carryOn := (State.carryOn_moves _).after (by simp)
  unfold punchRelease
  split
  · exact .still (by simp)
  · split
    · exact hcarry.accept
    · exact .still (by simp)
  · exact .still (by simp)

theorem State.resetPunch_moves : s.MovesTo s.resetPunch := by
  unfold State.resetPunch
  exact .action (.empty s.store s.file .punch) (by simp)

theorem punchReset_moves : s.MovesTo (punchReset s) := s.resetPunch_moves.carryOn.accept

theorem setKeyboardMode_moves (mode : Byte) : s.MovesTo (setKeyboardMode mode s) := by
  unfold setKeyboardMode
  split
  · exact .still (by simp)
  · split
    · exact .still (by simp)
    · exact (s.changeMode_moves _).carryOn.accept

/-! ## The Control Link -/

/-- Every command's owner makes a run of actions, whatever the kind and the body (section 10.7). -/
theorem commandOwner_moves (kind : Byte) (body : List Byte) : Moving (commandOwner kind body) := by
  unfold commandOwner
  split
  · exact getStatus_moves
  · exact startService_moves
  · exact stopService_moves
  · exact fun s => setOption_moves s _ _
  · exact fun s => getOption_moves s _
  · exact fun s => setRoute_moves s _ _ _ _ _ _
  · exact fun s => getRoute_moves s _ _
  · exact fun s => rearmRoute_moves s _
  · exact fun s => submitText_moves s _ _
  · exact fun s => clearSpool_moves s _
  · exact acceptCall_moves
  · exact declineCall_moves
  · exact placeCall_moves
  · exact clearCall_moves
  · exact sendAnswerback_moves
  · exact sendEnquiry_moves
  · exact sendBreak_moves
  · exact resumeSend_moves
  · exact getCall_moves
  · exact fun s => getLineQuality_moves s _
  · exact fun s => listMessages_moves s _
  · exact fun s => getMessage_moves s _
  · exact fun s => fetchMessage_moves s _ _ _
  · exact fun s => deleteMessage_moves s _
  · exact fun s => replayMessage_moves s _ _
  · exact cancelReplay_moves
  · exact printerHold_moves
  · exact printerRelease_moves
  · exact printerReset_moves
  · exact punchOn_moves
  · exact punchOff_moves
  · exact fun s => punchFeed_moves s _
  · exact punchRelease_moves
  · exact punchReset_moves
  · exact fun s => setKeyboardMode_moves s _
  · exact fun s => storeRead_moves s _ _
  · exact fun s => storeWrite_moves s _ _
  · exact reload_moves
  · exact restart_moves
  · exact fun s => .still rfl

theorem State.dispatch_moves (kind : Byte) (length : Nat) {owner : State → State}
    (howner : Moving owner) : s.MovesTo (s.dispatch kind length owner) := by
  unfold State.dispatch
  dsimp only
  split
  · exact .still (by simp)
  · exact (howner _).after (by simp)

theorem State.frameEnded_moves (turn : Turn) (kind : Byte) : s.MovesTo (s.frameEnded turn kind) := by
  unfold State.frameEnded
  split <;> exact .still rfl

theorem State.frameFails_moves (turn : Turn) (kind : Byte) (r : Reason) : s.MovesTo (s.frameFails turn kind r) := by
  unfold State.frameFails
  split
  · exact .still (by simp)
  · exact s.frameEnded_moves turn kind

theorem State.frameComplete_moves (turn : Turn) (kind : Byte) (body : List Byte) :
    s.MovesTo (s.frameComplete turn kind body) := by
  unfold State.frameComplete
  dsimp only
  split
  · exact (State.dispatch_moves _ _ _ (commandOwner_moves kind body)).after (by simp)
  · exact (State.frameEnded_moves _ turn kind).after (by simp)

theorem State.takeByte_moves (b : Byte) : s.MovesTo (s.takeByte b) := by
  unfold State.takeByte
  split
  · exact .still rfl
  · unfold State.takeLength
    split
    · exact s.frameComplete_moves _ _ _
    split
    · exact .still (by simp)
    · exact (State.frameFails_moves _ _ _ _).after (by simp)
  · unfold State.takeBodyByte
    split
    · exact s.frameComplete_moves _ _ _
    · exact .still (by simp)
  · exact .still (by simp)

/-- Bytes taken one after another make a run of actions (R172). -/
theorem State.foldl_takeByte_moves (bytes : List Byte) : s.MovesTo (bytes.foldl State.takeByte s) := by
  induction bytes generalizing s with
  | nil => exact .still rfl
  | cons b bytes ih => exact (s.takeByte_moves b).trans (ih _)

theorem State.hostCommand_moves {kind : Byte} {body : List Byte} {owner : State → State}
    (howner : Moving owner) : s.MovesTo (s.hostCommand kind body owner) := by
  unfold State.hostCommand
  split
  · exact s.dispatch_moves _ _ howner
  · exact s.foldl_takeByte_moves _

theorem inboundByte_moves (b : Byte) (stop : Level) : s.MovesTo (inboundByte b stop s) := by
  cases stop
  · exact .still rfl
  · exact s.takeByte_moves b

theorem interByteTimeout_moves : s.MovesTo (interByteTimeout s) := by
  unfold interByteTimeout
  split
  · exact (State.frameFails_moves _ _ _ _).after (by simp)
  · exact (State.frameFails_moves _ _ _ _).after (by simp)
  · exact .still (by simp)

theorem discardQuietTimeout_moves : s.MovesTo (discardQuietTimeout s) := by
  unfold discardQuietTimeout
  split <;> exact .still (by simp)

theorem outboundFrameEnd_moves : s.MovesTo (outboundFrameEnd s) := by
  unfold outboundFrameEnd
  split
  · exact .still (by simp)
  · split <;> exact .still rfl

/-! ## Every row and every step -/

/-- Every row completes, and comes to a run of actions on the store and the file. -/
theorem exec_moves (i : Instr) : ∃ t, exec i s = .next t ∧ s.MovesTo t := by
  cases i with
  | powerOn => exact ⟨_, rfl, powerOnValues_moves s _ _ _ _ _ _⟩
  | resetPin => exact ⟨_, rfl, powerOnValues_moves s _ _ _ _ _ _⟩
  | loadEnd => exact ⟨_, rfl, loadEnd_moves s _⟩
  | inboundByte => exact ⟨_, rfl, inboundByte_moves s _ _⟩
  | interByteTimeout => exact ⟨_, rfl, interByteTimeout_moves s⟩
  | discardQuietTimeout => exact ⟨_, rfl, discardQuietTimeout_moves s⟩
  | unknownCommandKind => exact ⟨_, rfl, s.hostCommand_moves (commandOwner_moves _ _)⟩
  | outboundFrameStart => exact ⟨_, rfl, .still rfl⟩
  | outboundFrameEnd => exact ⟨_, rfl, outboundFrameEnd_moves s⟩
  | holdOffAssert => exact ⟨_, rfl, .still rfl⟩
  | holdOffDeassert => exact ⟨_, rfl, .still rfl⟩
  | getStatus => exact ⟨_, rfl, s.hostCommand_moves getStatus_moves⟩
  | startService => exact ⟨_, rfl, s.hostCommand_moves startService_moves⟩
  | stopService => exact ⟨_, rfl, s.hostCommand_moves stopService_moves⟩
  | setOption => exact ⟨_, rfl, s.hostCommand_moves fun t => setOption_moves t _ _⟩
  | getOption => exact ⟨_, rfl, s.hostCommand_moves fun t => getOption_moves t _⟩
  | setRoute => exact ⟨_, rfl, s.hostCommand_moves fun t => setRoute_moves t _ _ _ _ _ _⟩
  | getRoute => exact ⟨_, rfl, s.hostCommand_moves fun t => getRoute_moves t _ _⟩
  | rearmRoute => exact ⟨_, rfl, s.hostCommand_moves fun t => rearmRoute_moves t _⟩
  | submitText => exact ⟨_, rfl, s.hostCommand_moves fun t => submitText_moves t _ _⟩
  | clearSpool => exact ⟨_, rfl, s.hostCommand_moves fun t => clearSpool_moves t _⟩
  | acceptCall => exact ⟨_, rfl, s.hostCommand_moves acceptCall_moves⟩
  | declineCall => exact ⟨_, rfl, s.hostCommand_moves declineCall_moves⟩
  | placeCall => exact ⟨_, rfl, s.hostCommand_moves placeCall_moves⟩
  | clearCall => exact ⟨_, rfl, s.hostCommand_moves clearCall_moves⟩
  | sendAnswerback => exact ⟨_, rfl, s.hostCommand_moves sendAnswerback_moves⟩
  | sendEnquiry => exact ⟨_, rfl, s.hostCommand_moves sendEnquiry_moves⟩
  | sendBreak => exact ⟨_, rfl, s.hostCommand_moves sendBreak_moves⟩
  | resumeSend => exact ⟨_, rfl, s.hostCommand_moves resumeSend_moves⟩
  | getCall => exact ⟨_, rfl, s.hostCommand_moves getCall_moves⟩
  | getLineQuality => exact ⟨_, rfl, s.hostCommand_moves fun t => getLineQuality_moves t _⟩
  | listMessages => exact ⟨_, rfl, s.hostCommand_moves fun t => listMessages_moves t _⟩
  | getMessage => exact ⟨_, rfl, s.hostCommand_moves fun t => getMessage_moves t _⟩
  | fetchMessage => exact ⟨_, rfl, s.hostCommand_moves fun t => fetchMessage_moves t _ _ _⟩
  | deleteMessage => exact ⟨_, rfl, s.hostCommand_moves fun t => deleteMessage_moves t _⟩
  | replayMessage => exact ⟨_, rfl, s.hostCommand_moves fun t => replayMessage_moves t _ _⟩
  | cancelReplay => exact ⟨_, rfl, s.hostCommand_moves cancelReplay_moves⟩
  | printerHold => exact ⟨_, rfl, s.hostCommand_moves printerHold_moves⟩
  | printerRelease => exact ⟨_, rfl, s.hostCommand_moves printerRelease_moves⟩
  | printerReset => exact ⟨_, rfl, s.hostCommand_moves printerReset_moves⟩
  | punchOn => exact ⟨_, rfl, s.hostCommand_moves punchOn_moves⟩
  | punchOff => exact ⟨_, rfl, s.hostCommand_moves punchOff_moves⟩
  | punchFeed => exact ⟨_, rfl, s.hostCommand_moves fun t => punchFeed_moves t _⟩
  | punchRelease => exact ⟨_, rfl, s.hostCommand_moves punchRelease_moves⟩
  | punchReset => exact ⟨_, rfl, s.hostCommand_moves punchReset_moves⟩
  | setKeyboardMode => exact ⟨_, rfl, s.hostCommand_moves fun t => setKeyboardMode_moves t _⟩
  | storeRead => exact ⟨_, rfl, s.hostCommand_moves fun t => storeRead_moves t _ _⟩
  | storeWrite => exact ⟨_, rfl, s.hostCommand_moves fun t => storeWrite_moves t _ _⟩
  | storeOperationEnd => exact ⟨_, rfl, storeOperationEnd_moves s _ _⟩
  | storeWritePollTimeout => exact ⟨_, rfl, storeWritePollTimeout_moves s⟩
  | reload => exact ⟨_, rfl, s.hostCommand_moves reload_moves⟩
  | restart => exact ⟨_, rfl, s.hostCommand_moves restart_moves⟩
  | rxFilteredChange => exact ⟨_, rfl, rxFilteredChange_moves s _ _⟩
  | startSample => exact ⟨_, rfl, startSample_moves s⟩
  | unitSample => exact ⟨_, rfl, unitSample_moves s⟩
  | stopSample => exact ⟨_, rfl, stopSample_moves s⟩
  | breakThreshold => exact ⟨_, rfl, breakThreshold_moves s⟩
  | clearThreshold => exact ⟨_, rfl, clearThreshold_moves s⟩
  | turnaroundGuardExpiry => exact ⟨_, rfl, turnaroundGuardExpiry_moves s⟩
  | characterSent => exact ⟨_, rfl, characterSent_moves s⟩
  | breakKeyingEnd => exact ⟨_, rfl, breakKeyingEnd_moves s⟩
  | callRecognition => exact ⟨_, rfl, callRecognition_moves s⟩
  | withdrawal => exact ⟨_, rfl, withdrawal_moves s⟩
  | offerTimeout => exact ⟨_, rfl, offerTimeout_moves s⟩
  | confirmation => exact ⟨_, rfl, confirmation_moves s⟩
  | confirmTimeout => exact ⟨_, rfl, confirmTimeout_moves s⟩
  | idleTimeout => exact ⟨_, rfl, idleTimeout_moves s⟩
  | enquiryDelayExpiry => exact ⟨_, rfl, enquiryDelayExpiry_moves s⟩
  | captureWindowExpiry => exact ⟨_, rfl, captureWindowExpiry_moves s⟩
  | clearingEnd => exact ⟨_, rfl, clearingEnd_moves s⟩
  | clearingTimeout => exact ⟨_, rfl, clearingTimeout_moves s⟩
  | releasingEnd => exact ⟨_, rfl, releasingEnd_moves s⟩
  | runUpExpiry => exact ⟨_, rfl, runUpExpiry_moves s⟩
  | runOnExpiry => exact ⟨_, rfl, runOnExpiry_moves s⟩
  | selectEnd => exact ⟨_, rfl, selectEnd_moves s⟩
  | strikeEnd => exact ⟨_, rfl, strikeEnd_moves s⟩
  | punchPulseEnd => exact ⟨_, rfl, punchPulseEnd_moves s⟩
  | feedPulseEnd => exact ⟨_, rfl, feedPulseEnd_moves s⟩
  | settleFixedEnd => exact ⟨_, rfl, settleFixedEnd_moves s _⟩
  | settleSampledReading => exact ⟨_, rfl, settleSampledReading_moves s _ _⟩
  | settleAddEnd => exact ⟨_, rfl, settleAddEnd_moves s _⟩
  | extendedReading => exact ⟨_, rfl, extendedReading_moves s _ _⟩
  | bellTimerExpiry => exact ⟨_, rfl, bellTimerExpiry_moves s⟩
  | paperOutChange => exact ⟨_, rfl, paperOutChange_moves s _ _⟩
  | paperRestoreExpiry => exact ⟨_, rfl, paperRestoreExpiry_moves s⟩
  | paperLowChange => exact ⟨_, rfl, paperLowChange_moves s _ _⟩
  | inputFilterStart => exact ⟨_, rfl, inputFilterStart_moves s _ _⟩
  | holdWaitExpiry => exact ⟨_, rfl, holdWaitExpiry_moves s⟩
  | tapeOutChange => exact ⟨_, rfl, tapeOutChange_moves s _ _⟩
  | tapeRestoreExpiry => exact ⟨_, rfl, tapeRestoreExpiry_moves s⟩
  | tapeLowChange => exact ⟨_, rfl, tapeLowChange_moves s _ _⟩
  | releaseTimerExpiry => exact ⟨_, rfl, releaseTimerExpiry_moves s⟩
  | confirmedPress => exact ⟨_, rfl, confirmedPress_moves s _⟩
  | confirmedRelease => exact ⟨_, rfl, confirmedRelease_moves s _⟩
  | replayCopy => exact ⟨_, rfl, replayCopy_moves s⟩
  | storeByte0Read => exact ⟨_, rfl, storeByte0Read_moves s _⟩

/-- Every step that answers a next state comes to a run of actions on the store and the file. -/
theorem step_moves {s t : State} (h : step s = .next t) : s.MovesTo t := by
  unfold step at h
  split at h
  · next c rest _ =>
    obtain ⟨u, hexec, hmoves⟩ := exec_moves { s with pending := rest } c
    rw [hexec] at h
    cases h
    exact hmoves.after (by simp)
  · cases h
    exact .still (by simp)

/-- Settles O4: a step is a run of actions on the store and the file, and each action keeps the blocks and the shape of
the spools. -/
theorem everyStepConservesTheBlocks : Obligations.EveryStepConservesTheBlocks :=
  ⟨fun _ _ hs h => State.blocksHeld_iff.mpr
      ((step_moves h).preserves BlockMove.blocksSound (State.blocksHeld_iff.mp hs)),
    fun _ _ hs h => State.spoolsShaped_iff.mpr
      ((step_moves h).preserves (P := fun x => x.1.Shaped) BlockMove.shaped (State.spoolsShaped_iff.mp hs))⟩

end Sys2Proof.Machine
end

section
/-! SUPPORT. The record operations of the Route Table, each with what it changes (R20, R31 to R33). -/

namespace Sys2Proof.Machine

/-- The record that is replaced. -/
@[simp] theorem Routes.get_put_self (r : Routes) (n : RouteName) (v : Route) : (r.put n v).get n = v := by
  cases n <;> rfl

/-- The other records stay. -/
theorem Routes.get_put_ne (r : Routes) {n m : RouteName} (h : m ≠ n) (v : Route) : (r.put n v).get m = r.get m := by
  cases n <;> cases m <;> first | rfl | exact absurd rfl h

/-- A record replaced twice holds the second value. -/
@[simp] theorem Routes.put_put (r : Routes) (n : RouteName) (v w : Route) : (r.put n v).put n w = r.put n w := by
  cases n <;> rfl

/-- A record replaced by itself. -/
@[simp] theorem Routes.put_get_self (r : Routes) (n : RouteName) : r.put n (r.get n) = r := by
  cases n <;> rfl

/-- R35: the source of KEYED LOCAL is the keyboard in LOCAL mode, that of the others the connected line. -/
theorem State.sourceBusy_eq (s : State) (n : RouteName) :
    s.sourceBusy n =
      if n = .keyedLocal then decide (s.keyboard.mode = .loc) else decide (s.call.state = .connected) := by
  cases n <;> simp [State.sourceBusy, beq_eq_decide]

end Sys2Proof.Machine
end

section
/-! The commands of the routes (R33 to R37): each is taken by its owner, whose fields are read first. -/

namespace Sys2Proof.Machine

/-! ## The fields of SET ROUTE -/

/-- R34: FILE is no destination of KEYED LOCAL. -/
theorem destinationsFor_eq_some {n : RouteName} {b : Byte} {d : Destinations} :
    destinationsFor n b = some d ↔ destinationsOf b = some d ∧ (n = .keyedLocal → d.file = false) := by
  simp [destinationsFor, Option.filter_eq_some_iff, imp_iff_not_or]

/-- R34: FILE is no stand-in of KEYED LOCAL. -/
theorem standInFor_eq_some {n : RouteName} {x : Option (Option Place)} {p : Option Place} :
    standInFor n x = some p ↔ x = some p ∧ (n = .keyedLocal → p ≠ some .file) := by
  simp [standInFor, Option.filter_eq_some_iff, imp_iff_not_or]

/-- Bit 2 of a destinations byte is FILE (section 10.7). -/
theorem file_of_destinationsOf {b : Byte} {d : Destinations} (h : destinationsOf b = some d) :
    d.file = b.getLsbD 2 := by
  unfold destinationsOf at h
  split at h
  · cases h; rfl
  · cases h

theorem printStandInOf_two {b : Byte} (h : b.toNat = 2) : printStandInOf b = some (some .file) := by
  simp [printStandInOf, h]

theorem punchStandInOf_two {b : Byte} (h : b.toNat = 2) : punchStandInOf b = some (some .file) := by
  simp [punchStandInOf, h]

/-- R34: the fields are accepted when each is a value of its own, and KEYED LOCAL names FILE in none. -/
theorem routeFields_eq_some {route dest pStand qStand : Byte} {reload : Word16} {action : Byte} {f : RouteFields} :
    routeFields route dest pStand qStand reload action = some f ↔
      routeOf route = some f.route ∧ destinationsOf dest = some f.destinations ∧
      printStandInOf pStand = some f.printStandIn ∧ punchStandInOf qStand = some f.punchStandIn ∧
      quotaActionOf action = some f.action ∧ reload.toNat = f.reload ∧
      (f.route = .keyedLocal →
        f.destinations.file = false ∧ f.printStandIn ≠ some .file ∧ f.punchStandIn ≠ some .file) := by
  simp only [imp_and]
  constructor
  · intro h
    unfold routeFields at h
    split at h
    · next n a hroute haction =>
      split at h
      · next d p q hd hp hq =>
        cases h
        obtain ⟨hd, hfile⟩ := destinationsFor_eq_some.mp hd
        obtain ⟨hp, hprint⟩ := standInFor_eq_some.mp hp
        obtain ⟨hq, hpunch⟩ := standInFor_eq_some.mp hq
        exact ⟨hroute, hd, hp, hq, haction, rfl, hfile, hprint, hpunch⟩
      · cases h
    · cases h
  · rintro ⟨hroute, hd, hp, hq, haction, hreload, hfile, hprint, hpunch⟩
    simp [routeFields, hroute, haction, hreload, destinationsFor_eq_some.mpr ⟨hd, hfile⟩,
      standInFor_eq_some.mpr ⟨hp, hprint⟩, standInFor_eq_some.mpr ⟨hq, hpunch⟩]

/-- R34: one bad field, or FILE named for KEYED LOCAL, and the fields are none. -/
theorem routeFields_eq_none {route dest pStand qStand : Byte} {reload : Word16} {action : Byte}
    (h : routeOf route = none ∨ destinationsOf dest = none ∨ printStandInOf pStand = none ∨
      punchStandInOf qStand = none ∨ quotaActionOf action = none ∨
      (routeOf route = some .keyedLocal ∧ (dest.getLsbD 2 = true ∨ pStand.toNat = 2 ∨ qStand.toNat = 2))) :
    routeFields route dest pStand qStand reload action = none := by
  refine Option.eq_none_iff_forall_ne_some.mpr fun f hf => ?_
  obtain ⟨hroute, hd, hp, hq, haction, -, hfile⟩ := routeFields_eq_some.mp hf
  rcases h with h | h | h | h | h | ⟨hkeyed, h⟩
  · simp [h] at hroute
  · simp [h] at hd
  · simp [h] at hp
  · simp [h] at hq
  · simp [h] at haction
  · obtain ⟨noDest, noPrint, noPunch⟩ := hfile (Option.some.inj (hroute.symm.trans hkeyed))
    rcases h with h | h | h
    · exact Bool.false_ne_true (noDest.symm.trans ((file_of_destinationsOf hd).trans h))
    · exact noPrint (Option.some.inj (hp.symm.trans (printStandInOf_two h)))
    · exact noPunch (Option.some.inj (hq.symm.trans (punchStandInOf_two h)))

/-! ## The other fields -/

theorem routeOf_eq_none {b : Byte} (h : 3 ≤ b.toNat) : routeOf b = none := by
  unfold routeOf
  split <;> first | omega | rfl

theorem flagOf_eq_none {b : Byte} (h : 2 ≤ b.toNat) : flagOf b = none := by
  unfold flagOf
  split <;> first | omega | rfl

/-! ## The frames reach their owners -/

section Taken
variable {s : State} (h : s.TakesCommands)
include h

theorem exec_setRoute_of_takesCommands (route dest pStand qStand : Byte) (reload : Word16) (action : Byte) :
    exec (.setRoute route dest pStand qStand reload action) s =
      .next (setRoute route dest pStand qStand reload action s) := by
  refine congrArg Host.Outcome.next ((State.hostCommand_taken h _ rfl rfl (by simp [wordBytes])).trans ?_)
  unfold setRoute
  split <;> rfl

theorem exec_getRoute_of_takesCommands (route clear : Byte) :
    exec (.getRoute route clear) s = .next (getRoute route clear s) := by
  refine congrArg Host.Outcome.next ((State.hostCommand_taken h _ rfl rfl (by simp)).trans ?_)
  unfold getRoute
  split
  · dsimp only
    split <;> rfl
  · rfl

theorem exec_rearmRoute_of_takesCommands (route : Byte) :
    exec (.rearmRoute route) s = .next (rearmRoute route s) := by
  refine congrArg Host.Outcome.next ((State.hostCommand_taken h _ rfl rfl (by simp)).trans ?_)
  unfold rearmRoute
  split <;> rfl

end Taken

/-! ## The statement -/

/-- Settles O28: the frame reaches its owner, which reads the fields and writes the one record. -/
theorem routeCommandsComplete : Obligations.RouteCommandsComplete := by
  refine ⟨fun route dest pStand qStand reload action s h => ⟨?written, ?bad⟩,
    fun route clear s h => ⟨?known, ?unknown⟩⟩
  case written =>
    rintro n d p q a hroute hd hp hq haction hfile busy hbusy r rfl
    obtain rfl : busy = s.sourceBusy n := hbusy.trans (s.sourceBusy_eq n).symm
    have hf := (routeFields_eq_some (f := ⟨n, d, p, q, reload.toNat, a⟩)).mpr
      ⟨hroute, hd, hp, hq, haction, rfl, hfile⟩
    rw [exec_setRoute_of_takesCommands h, setRoute, hf]
    rfl
  case bad =>
    intro hbad
    rw [exec_setRoute_of_takesCommands h, setRoute, routeFields_eq_none hbad]
  case known =>
    intro n hroute
    rw [exec_getRoute_of_takesCommands h, exec_rearmRoute_of_takesCommands h, getRoute, rearmRoute, hroute]
    refine ⟨?_, ?_, fun hclear => ?_, rfl⟩
    · rintro rfl
      rfl
    · rintro rfl
      rfl
    · rw [flagOf_eq_none hclear]
  case unknown =>
    intro hroute
    rw [exec_getRoute_of_takesCommands h, exec_rearmRoute_of_takesCommands h, getRoute, rearmRoute,
      routeOf_eq_none hroute]
    exact ⟨rfl, rfl⟩

end Sys2Proof.Machine
end

section
/-! SUPPORT. What a try at a place can come to (R24 to R27), and how a delivery goes through the destinations and their
stand-ins (R28 to R30). -/

namespace Sys2Proof.Machine

/-! ## The tries of a copy -/

theorem State.printerTakes_iff {s : State} :
    s.printerTakes = true ↔ s.printer.status = .idle ∨ s.printer.status = .cycle := by
  simp [State.printerTakes, State.printerState]

theorem State.punchTakes_iff {s : State} :
    s.punchTakes = true ↔ s.punch.status = .onIdle ∨ s.punch.status = .cycle := by
  simp [State.punchTakes, State.punchState]

theorem State.ownerAdmits_iff {s : State} {k : Stream} :
    s.ownerAdmits k = true ↔ s.punch.owner = none ∨ s.punch.owner = some k := by
  simp [State.ownerAdmits]

/-- R21: the spool of a route's print copies, the target it is in a loss, and the stream of its punch copies. -/
theorem RouteName.printSpool_eq (n : RouteName) : n.printSpool = if n = .keyedLocal then .pLocal else .pLine := by
  cases n <;> rfl

theorem RouteName.printTarget_eq (n : RouteName) : n.printTarget = if n = .keyedLocal then .pLocal else .pLine := by
  cases n <;> rfl

theorem RouteName.stream_eq (n : RouteName) : n.stream = if n = .keyedLocal then .loc else .line := by
  cases n <;> rfl

section Print
variable {s : State} {n : RouteName} (c : Cell)

theorem State.tryPrint_of_diverted (h : (s.routes.get n).state = .diverted) :
    s.tryPrint n c = (s, some .diverted) := by
  simp [State.tryPrint, h]

theorem State.tryPrint_of_not_takes (h : (s.routes.get n).state ≠ .diverted) (ht : ¬ s.printerTakes = true) :
    s.tryPrint n c = (s, some .printer) := by
  simp [State.tryPrint, h, ht]

theorem State.tryPrint_of_no_space (h : (s.routes.get n).state ≠ .diverted) (ht : s.printerTakes = true)
    {r : SpaceReason} (hr : s.store.spoolRefusal n.printSpool = some r) :
    s.tryPrint n c = (s, some (.space n.printTarget r)) := by
  simp [State.tryPrint, h, ht, hr]

theorem State.tryPrint_of_space (h : (s.routes.get n).state ≠ .diverted) (ht : s.printerTakes = true)
    (hr : s.store.spoolRefusal n.printSpool = none) :
    s.tryPrint n c = ({ s with store := s.store.append n.printSpool { cell := c, stream := none } }, none) := by
  simp [State.tryPrint, h, ht, hr]

end Print

section Punch
variable {s : State} {n : RouteName} (c : Cell)

theorem State.tryPunch_of_not_takes (ht : ¬ s.punchTakes = true) : s.tryPunch n c = (s, some .puncher) := by
  simp [State.tryPunch, ht]

theorem State.tryPunch_of_not_admits (ht : s.punchTakes = true) (ho : ¬ s.ownerAdmits n.stream = true) :
    s.tryPunch n c = (s, some .owned) := by
  simp [State.tryPunch, ht, ho]

theorem State.tryPunch_of_no_space (ht : s.punchTakes = true) (ho : s.ownerAdmits n.stream = true)
    {r : SpaceReason} (hr : s.store.spoolRefusal .punch = some r) :
    s.tryPunch n c = (s, some (.space .punch r)) := by
  simp [State.tryPunch, ht, ho, hr]

theorem State.tryPunch_of_space (ht : s.punchTakes = true) (ho : s.ownerAdmits n.stream = true)
    (hr : s.store.spoolRefusal .punch = none) : s.tryPunch n c = (s.appendPunch n.stream c, none) := by
  simp [State.tryPunch, ht, ho, hr]

end Punch

/-- R136: the LINE release state after a cell of a stream. -/
theorem State.lineCellPlaced_eq (s : State) (k : Stream) :
    s.lineCellPlaced k =
      { s with punch := { s.punch with lineRelease := if k = .line then .none else s.punch.lineRelease } } := by
  unfold State.lineCellPlaced
  split <;> rfl

/-- R134: an append that finds the punch unowned claims it, and leaves the LINE release state NONE (R136). -/
theorem State.appendPunch_of_unowned {s : State} (h : s.punch.owner = none) (k : Stream) (c : Cell) :
    s.appendPunch k c = { s with
      store := s.store.append .punch { cell := c, stream := some k }
      punch := { s.punch with
        owner := some k, tapeCase := .unknown, lineRelease := .none
        leader := if k = .line then s.opt .leaderCount else 0
        localRelease := false, submittedRelease := false, clearRelease := false
        releaseTimer := none } } := by
  rw [State.appendPunch, State.claimPunch, if_pos h, State.lineCellPlaced_eq]
  simp

/-- R136: an append under the owner's stream ends a LINE release, and claims nothing. -/
theorem State.appendPunch_of_owned {s : State} {k : Stream} (h : s.punch.owner = some k) (c : Cell) :
    s.appendPunch k c = { s with
      store := s.store.append .punch { cell := c, stream := some k }
      punch := { s.punch with lineRelease := if k = .line then .none else s.punch.lineRelease } } := by
  rw [State.appendPunch, State.claimPunch, if_neg (by simp [h]), State.lineCellPlaced_eq]

/-! ## One destination and its stand-in -/

section Destination
variable {n : RouteName} {r : Route} {c : Cell} {d : Delivery} {p q : Place} {u x : State} {e g : Cause}

theorem Delivery.deliverTo_of_not_has (h : r.destinations.has p = false) : d.deliverTo n r c p = d := by
  simp [Delivery.deliverTo, h]

theorem Delivery.deliverTo_of_placed (h : r.destinations.has p = true) (ht : d.state.tryPlace n p c = (u, none)) :
    d.deliverTo n r c p = { d with state := u, placed := d.placed + 1 } := by
  simp [Delivery.deliverTo, h, ht]

theorem Route.standIn_eq_some :
    r.standIn p = some q ↔ (p = .print ∧ r.printStandIn = some q) ∨ (p = .punch ∧ r.punchStandIn = some q) := by
  cases p <;> simp [Route.standIn]

theorem Route.standIn_eq_none :
    r.standIn p = none ↔
      p = .file ∨ (p = .print ∧ r.printStandIn = none) ∨ (p = .punch ∧ r.punchStandIn = none) := by
  cases p <;> simp [Route.standIn]

/-- R29: a stand-in is tried that is no destination itself and was not tried as a stand-in before. -/
theorem Route.standInToTry_eq_some {tried : List Place} :
    r.standInToTry p tried = some q ↔ r.standIn p = some q ∧ r.destinations.has q = false ∧ q ∉ tried := by
  simp [Route.standInToTry, Option.filter_eq_some_iff]

theorem Route.standInToTry_eq_none {tried : List Place} :
    r.standInToTry p tried = none ↔ ∀ q, r.standIn p = some q → r.destinations.has q = true ∨ q ∈ tried := by
  simp [Route.standInToTry, Option.filter_eq_none_iff, imp_iff_not_or]

/-- R29: no stand-in to try, and the copy is lost. -/
theorem Delivery.deliverTo_of_no_standIn (h : r.destinations.has p = true)
    (ht : d.state.tryPlace n p c = (u, some e)) (hq : r.standInToTry p d.tried = none) :
    d.deliverTo n r c p = { d with state := u, lost := d.lost + 1, loss := firstLoss d.loss (some e) } := by
  simp [Delivery.deliverTo, Delivery.tryStandIn, h, ht, hq]

/-- R29: the stand-in takes the copy. -/
theorem Delivery.deliverTo_of_standIn_placed (h : r.destinations.has p = true)
    (ht : d.state.tryPlace n p c = (u, some e)) (hq : r.standInToTry p d.tried = some q)
    (htq : u.tryPlace n q c = (x, none)) :
    d.deliverTo n r c p = { d with state := x, placed := d.placed + 1, tried := q :: d.tried,
                                   loss := firstLoss d.loss (some e) } := by
  simp [Delivery.deliverTo, Delivery.tryStandIn, h, ht, hq, htq]

/-- R29: the stand-in is unavailable too. -/
theorem Delivery.deliverTo_of_standIn_failed (h : r.destinations.has p = true)
    (ht : d.state.tryPlace n p c = (u, some e)) (hq : r.standInToTry p d.tried = some q)
    (htq : u.tryPlace n q c = (x, some g)) :
    d.deliverTo n r c p = { d with state := x, lost := d.lost + 1, tried := q :: d.tried,
                                   loss := firstLoss (firstLoss d.loss (some e)) (some g) } := by
  simp [Delivery.deliverTo, Delivery.tryStandIn, h, ht, hq, htq]

end Destination

/-- R20: membership is given by the three places. -/
theorem Destinations.eq_has {d : Destinations} {member : Place → Bool}
    (h : member .print = d.print ∧ member .punch = d.punch ∧ member .file = d.file) : member = d.has := by
  obtain ⟨hprint, hpunch, hfile⟩ := h
  funext p
  cases p <;> assumption

/-- R30: a rule that keeps a loss, takes the first SPACE failure and no other cause is `firstLoss`. -/
theorem eq_firstLoss {first : Option (SpaceTarget × SpaceReason) → Cause → Option (SpaceTarget × SpaceReason)}
    (hspace : ∀ l t why, first none (.space t why) = some (t, why) ∧ first (some l) (.space t why) = some l)
    (hother : ∀ l e, (∀ t why, e ≠ .space t why) → first l e = l) :
    first = fun l e => firstLoss l (some e) := by
  funext l e
  cases e with
  | space t why =>
    obtain ⟨hnone, -⟩ := hspace (t, why) t why
    cases l with
    | none => exact hnone
    | some l => exact (hspace l t why).2
  | _ => cases l <;> exact hother _ _ (by simp)

/-! ## The copies of a delivery -/

/-- R28, R29: a copy whose destination was unavailable is placed or lost. -/
theorem Delivery.tryStandIn_copies (d : Delivery) (n : RouteName) (r : Route) (p : Place) (c : Cell) :
    (d.tryStandIn n r p c).placed + (d.tryStandIn n r p c).lost = d.placed + d.lost + 1 := by
  unfold Delivery.tryStandIn
  split
  · exact (Nat.add_assoc ..).symm
  · dsimp only
    split
    · exact Nat.add_right_comm ..
    · exact (Nat.add_assoc ..).symm

/-- R28: one copy for a destination, none for another place. -/
theorem Delivery.deliverTo_copies (n : RouteName) (r : Route) (c : Cell) (d : Delivery) (p : Place) :
    (d.deliverTo n r c p).placed + (d.deliverTo n r c p).lost =
      d.placed + d.lost + (r.destinations.has p).toNat := by
  unfold Delivery.deliverTo
  split
  · next h =>
    rw [h]
    dsimp only
    split
    · exact Nat.add_right_comm ..
    · exact Delivery.tryStandIn_copies ..
  · next h => simp [Bool.eq_false_of_not_eq_true h]

/-- R20: the number of destinations, place by place. -/
theorem Destinations.count_eq (d : Destinations) :
    d.count = (d.has .print).toNat + (d.has .punch).toNat + (d.has .file).toNat := by
  simp only [Destinations.count, Destinations.has, Bool.toNat, cond_eq_ite]

/-- R28: a SUSPENDED route tries nothing and loses every copy. -/
theorem State.deliver_of_suspended {s : State} {n : RouteName} (h : (s.routes.get n).state = .suspended) (c : Cell) :
    s.deliver n c =
      { state := s, placed := 0, lost := (s.routes.get n).destinations.count, tried := [], loss := none } := by
  simp [State.deliver, h]

/-- R28: the destinations of any other route are tried in order. -/
theorem State.deliver_of_not_suspended {s : State} {n : RouteName} (h : (s.routes.get n).state ≠ .suspended)
    (c : Cell) :
    s.deliver n c =
      Delivery.deliverTo n (s.routes.get n) c (Delivery.deliverTo n (s.routes.get n) c
        (Delivery.deliverTo n (s.routes.get n) c
          { state := s, placed := 0, lost := 0, tried := [], loss := none } .print) .punch) .file := by
  simp [State.deliver, h]

/-- R28: the copies placed and lost are as many as the destinations. -/
theorem State.deliver_copies (s : State) (n : RouteName) (c : Cell) :
    (s.deliver n c).placed + (s.deliver n c).lost = (s.routes.get n).destinations.count := by
  by_cases h : (s.routes.get n).state = .suspended
  · simp [State.deliver_of_suspended h]
  · simp [State.deliver_of_not_suspended h, Delivery.deliverTo_copies, Destinations.count_eq]

/-! ## The quota -/

theorem Route.counts_iff {r : Route} : r.counts = true ↔ r.reload ≠ 0 ∧ r.state ≠ .suspended ∧ r.counter ≠ 0 := by
  simp [Route.counts, and_assoc]

section Quota
variable {s : State} {n : RouteName}

theorem State.countQuota_of_not_counts (h : ¬ (s.routes.get n).counts = true) : s.countQuota n = s := by
  simp [State.countQuota, h]

/-- R32: the character that brings the counter to 0. -/
theorem State.countQuota_of_last (h : (s.routes.get n).counts = true) (h1 : (s.routes.get n).counter = 1) :
    s.countQuota n = { s with
      routes := s.routes.put n (s.routes.get n).exhaust
      link := s.link.queueNotice
        (.quota n (s.routes.get n).action (s.routes.get n).reload (s.routes.get n).placed) } := by
  simp [State.countQuota, h, h1, State.notice]

/-- R31: any other character counted. -/
theorem State.countQuota_of_more (h : (s.routes.get n).counts = true) (h1 : (s.routes.get n).counter ≠ 1) :
    s.countQuota n = { s with
      routes := s.routes.put n { s.routes.get n with counter := (s.routes.get n).counter - 1 } } := by
  simp [State.countQuota, h, h1]

end Quota

/-- R32: a quota action leaves the counts. -/
theorem Route.exhaust_counts (r : Route) : r.exhaust.placed = r.placed ∧ r.exhaust.lost = r.lost := by
  unfold Route.exhaust
  split <;> exact ⟨rfl, rfl⟩

/-- R31, R32: the quota writes its own route alone, and not its counts. -/
theorem State.countQuota_routes (s : State) (n : RouteName) :
    ∃ r, (s.countQuota n).routes = s.routes.put n r ∧
      r.placed = (s.routes.get n).placed ∧ r.lost = (s.routes.get n).lost := by
  by_cases h : (s.routes.get n).counts = true
  · by_cases h1 : (s.routes.get n).counter = 1
    · rw [State.countQuota_of_last h h1]
      exact ⟨_, rfl, (s.routes.get n).exhaust_counts⟩
    · rw [State.countQuota_of_more h h1]
      exact ⟨_, rfl, rfl, rfl⟩
  · rw [State.countQuota_of_not_counts h]
    exact ⟨_, (Routes.put_get_self ..).symm, rfl, rfl⟩

/-- R23: the presentation is the delivery, its counts and the quota, in this order. -/
theorem State.present_eq (s : State) (n : RouteName) (c : Cell) :
    s.present n c =
      (State.countQuota { (s.deliver n c).state with
        routes := s.routes.put n ((s.routes.get n).count (s.deliver n c).placed (s.deliver n c).lost) } n,
      (s.deliver n c).placed, (s.deliver n c).loss) := by
  simp only [State.present, (s.deliver_keeps n c).2]

/-- R28: a presentation writes its own route alone, with the counts of the delivery. -/
theorem State.present_routes (s : State) (n : RouteName) (c : Cell) :
    ∃ r, (s.present n c).1.routes = s.routes.put n r ∧
      r.placed = ((s.routes.get n).count (s.deliver n c).placed (s.deliver n c).lost).placed ∧
      r.lost = ((s.routes.get n).count (s.deliver n c).placed (s.deliver n c).lost).lost := by
  rw [State.present_eq]
  obtain ⟨r, hroutes, hplaced, hlost⟩ := State.countQuota_routes { (s.deliver n c).state with
    routes := s.routes.put n ((s.routes.get n).count (s.deliver n c).placed (s.deliver n c).lost) } n
  exact ⟨r, by simp [hroutes], by simp [hplaced], by simp [hlost]⟩

/-! ## The report to the store -/

section Report
variable {s : State} {target : SpaceTarget} {why : SpaceReason}

/-- R16: the episode open and its notice queued. -/
def State.episodeOpened (s : State) (target : SpaceTarget) (why : SpaceReason) : State :=
  { s with
    store := { s.store with episode := .opened }
    link := s.link.queueNotice (.overflow target why s.store.free.length) }

/-- R16: with BREAK ON OVERFLOW, while CONNECTED, the opening requests a break. -/
theorem State.reportLoss_of_closed (h : s.store.episode = .closed) :
    s.reportLoss (some (target, why)) =
      if s.opt .breakOnOverflow = 1 ∧ s.call.state = .connected then
        { s.episodeOpened target why with ltx := { s.ltx with breakRequest := true } }
      else s.episodeOpened target why := by
  simp only [State.reportLoss, h, State.flag, beq_iff_eq]
  rfl

/-- R16: only a CLOSED episode opens. -/
theorem State.reportLoss_of_opened (h : s.store.episode = .opened) : s.reportLoss (some (target, why)) = s := by
  simp [State.reportLoss, h]

/-- R17: a character without a loss closes the episode. -/
theorem State.reportLoss_none_of_opened (h : s.store.episode = .opened) :
    s.reportLoss none = { s with store := { s.store with episode := .closed } } := by
  simp [State.reportLoss, h, State.closeEpisode]

theorem State.reportLoss_none_of_closed (h : s.store.episode = .closed) : s.reportLoss none = s := by
  simp [State.reportLoss, h]

end Report

end Sys2Proof.Machine
end

section
/-! A presentation to a route: the copies, the counts, the quota and the report of a loss (R21 to R32, R15 to R17). -/

namespace Sys2Proof.Machine

/-- Settles O60: the tries, the deliveries, the quota and the episode, each by the lemma about its operation. -/
theorem deliveryAndQuota : Obligations.DeliveryAndQuota := by
  refine ⟨fun n c s => ⟨?suspended, s.deliver_copies n c, (s.deliver_keeps n c).2, ?answer, ?placed, ?lost, ?others⟩,
    ?quota, ?presentation, fun n c s => ⟨?print, ?punch, rfl⟩, ?order, ?destination,
    fun s => ⟨?opens, ?stays, State.reportLoss_none_of_opened, State.reportLoss_none_of_closed⟩⟩
  case suspended =>
    intro h
    rw [State.deliver_of_suspended h]
    exact ⟨rfl, rfl, rfl, rfl⟩
  case answer => rw [State.present_eq]
  case placed =>
    obtain ⟨r, hroutes, hplaced, -⟩ := s.present_routes n c
    rw [hroutes, Routes.get_put_self, hplaced]
    rfl
  case lost =>
    obtain ⟨r, hroutes, -, hlost⟩ := s.present_routes n c
    rw [hroutes, Routes.get_put_self, hlost]
    rfl
  case others =>
    intro m hm
    obtain ⟨r, hroutes, -⟩ := s.present_routes n c
    rw [hroutes, Routes.get_put_ne _ hm]
  case quota =>
    rintro n s r rfl
    refine ⟨fun h => State.countQuota_of_not_counts fun hc => ?_, fun hr hs => ⟨fun h2 => ?_, fun h1 => ?_⟩⟩
    · obtain ⟨hreload, hstate, hcounter⟩ := Route.counts_iff.mp hc
      rcases h with h | h | h
      exacts [hreload h, hstate h, hcounter h]
    · exact State.countQuota_of_more (Route.counts_iff.mpr ⟨hr, hs, by omega⟩) (by omega)
    · refine ⟨_, State.countQuota_of_last (Route.counts_iff.mpr ⟨hr, hs, by omega⟩) h1, ?_, ?_, ?_⟩ <;>
        exact fun ha => by rw [Route.exhaust, ha]
  case presentation =>
    rintro n c s u r d rfl rfl rfl
    exact s.present_eq n c
  case print =>
    rintro p t rfl rfl
    rw [← n.printSpool_eq, ← n.printTarget_eq]
    refine ⟨State.tryPrint_of_diverted c, fun hd => ⟨fun hidle hcycle => ?_, fun ht => ?_⟩⟩
    · exact State.tryPrint_of_not_takes c hd fun ht => (State.printerTakes_iff.mp ht).elim hidle hcycle
    · have takes := State.printerTakes_iff.mpr ht
      exact ⟨fun r => State.tryPrint_of_no_space c hd takes, State.tryPrint_of_space c hd takes⟩
  case punch =>
    rintro k rfl
    rw [← n.stream_eq]
    refine ⟨fun hidle hcycle => ?_, fun ht => ⟨fun hnone hk => ?_, fun ho => ?_⟩⟩
    · exact State.tryPunch_of_not_takes c fun ht => (State.punchTakes_iff.mp ht).elim hidle hcycle
    · exact State.tryPunch_of_not_admits c (State.punchTakes_iff.mpr ht) fun ho =>
        (State.ownerAdmits_iff.mp ho).elim hnone hk
    · have takes := State.punchTakes_iff.mpr ht
      have admits := State.ownerAdmits_iff.mpr ho
      refine ⟨fun r => State.tryPunch_of_no_space c takes admits, ?_⟩
      rintro hr st rfl
      have placed := State.tryPunch_of_space c takes admits hr
      exact ⟨fun h => placed.trans (by rw [State.appendPunch_of_unowned h]),
        fun h => placed.trans (by rw [State.appendPunch_of_owned h])⟩
  case order =>
    rintro n c s r rfl h
    exact State.deliver_of_not_suspended h c
  case destination =>
    intro n c r d p member first hmember hspace hother
    obtain rfl := Destinations.eq_has hmember
    obtain rfl := eq_firstLoss hspace hother
    refine ⟨Delivery.deliverTo_of_not_has, fun hp => ⟨fun u => Delivery.deliverTo_of_placed hp, ?_⟩⟩
    rintro u e v htry rfl
    refine ⟨fun hnone => ?_, fun q hq => ⟨fun hno => ?_, fun hdest htried => ?_⟩⟩
    · exact Delivery.deliverTo_of_no_standIn hp htry (Route.standInToTry_eq_none.mpr
        (by simp [Route.standIn_eq_none.mpr hnone]))
    · refine Delivery.deliverTo_of_no_standIn hp htry (Route.standInToTry_eq_none.mpr fun q' hq' => ?_)
      obtain rfl := Option.some.inj (hq'.symm.trans (Route.standIn_eq_some.mpr hq))
      exact hno
    · have hstand := Route.standInToTry_eq_some.mpr ⟨Route.standIn_eq_some.mpr hq, hdest, htried⟩
      exact ⟨fun x => Delivery.deliverTo_of_standIn_placed hp htry hstand,
        fun x g => Delivery.deliverTo_of_standIn_failed hp htry hstand⟩
  case opens =>
    rintro target why hclosed u rfl
    rw [State.reportLoss_of_closed hclosed]
    refine ⟨fun hflag hcall => if_pos ⟨hflag, hcall⟩, fun h => if_neg ?_⟩
    rintro ⟨hflag, hcall⟩
    exact h.elim (· hflag) (· hcall)
  case stays =>
    rintro ⟨target, why⟩ h
    exact State.reportLoss_of_opened h

end Sys2Proof.Machine
end

section
/-! SUPPORT. What a shift code does to a case (R50, R58, R59), and when options stay. -/

namespace Sys2Proof.Machine

/-! ## Shift codes -/

section Shifts
variable (m : FunctionMap) (c : Code)

/-- A shift code has the case it names; another code keeps the case given (R59). -/
theorem FunctionMap.shiftCase_getD (k : Case) :
    (m.shiftCase c).getD k =
      if c = m.lettersShift then .letters else if c = m.figuresShift then .figures else k := by
  unfold FunctionMap.shiftCase
  split_ifs <;> rfl

/-- A received code that is no shift code is read in the line case, UNKNOWN as letters (R50). -/
theorem FunctionMap.receivedCase_eq (line : SinkCase) :
    m.receivedCase c line =
      if c = m.lettersShift then .letters else if c = m.figuresShift then .figures
      else if line = .figures then .figures else .letters := by
  unfold FunctionMap.receivedCase FunctionMap.shiftCase
  split_ifs <;> rfl

/-- A shift code sets the line case; another code keeps it (R50, R58). -/
theorem FunctionMap.caseAfter_eq (line : SinkCase) :
    m.caseAfter c line =
      if c = m.lettersShift then .letters else if c = m.figuresShift then .figures else line := by
  unfold FunctionMap.caseAfter FunctionMap.shiftCase
  split_ifs <;> rfl

end Shifts

/-! ## Options -/

/-- An operation that keeps the identity store keeps every option. -/
theorem State.opt_congr {s t : State} (h : t.isl = s.isl) (n : OptionName) : t.opt n = s.opt n := by
  rw [State.opt, h, State.opt]

end Sys2Proof.Machine
end

section
/-! The Line Sender: TX (R55, R56), its choice (R57, R58) and its rows (R56, R59, R60). -/

namespace Sys2Proof.Machine

/-! ## TX -/

section Keyed
variable {k : Keying} {n : Nat}

/-- The start element is space (R56). -/
theorem Keying.levelAt_start (h : n < k.unitTicks) : k.levelAt (k.startedAt + n) = .space := by
  simp [Keying.levelAt, Nat.div_eq_of_lt h]

/-- The units follow the start element, unit 1 first (R56). -/
theorem Keying.levelAt_unit {i : Nat} (hi : i < 5) (hfrom : (i + 1) * k.unitTicks ≤ n)
    (hto : n < (i + 2) * k.unitTicks) :
    k.levelAt (k.startedAt + n) = if k.cell.code.getLsbD i then .mark else .space := by
  have helement : n / k.unitTicks = i + 1 := Nat.div_eq_of_lt_le hfrom hto
  have hunit : i + 1 ≤ 5 := by omega
  simp [Keying.levelAt, helement, hunit]

/-- The stop element is mark (R56). -/
theorem Keying.levelAt_stop (hpos : 0 < k.unitTicks) (h : 6 * k.unitTicks ≤ n) :
    k.levelAt (k.startedAt + n) = .mark := by
  have helement : 6 ≤ n / k.unitTicks := (Nat.le_div_iff_mul_le hpos).mpr h
  have hnotStart : n / k.unitTicks ≠ 0 := by omega
  have hnotUnit : ¬ n / k.unitTicks ≤ 5 := by omega
  simp [Keying.levelAt, hnotStart, hnotUnit]

end Keyed

section Tx
variable {s : State}

/-- A character being keyed drives TX (R56). -/
theorem State.txLevel_of_sending {k : Keying} (hc : s.call.state = .connected)
    (ha : s.ltx.activity = .sending k) : s.txLevel = k.levelAt s.now := by
  simp [State.txLevel, hc, ha]

/-- A break drives TX (R60). -/
theorem State.txLevel_of_breaking {due : Nat} (hc : s.call.state = .connected)
    (ha : s.ltx.activity = .breaking due) : s.txLevel = .space := by
  simp [State.txLevel, hc, ha]

/-- TX rests at mark between two characters (R55). -/
theorem State.txLevel_of_idle (hc : s.call.state = .connected) (ha : s.ltx.activity = .idle) :
    s.txLevel = .mark := by
  simp [State.txLevel, hc, ha, CallState.restLevel]

/-- Outside CONNECTED the call state alone gives the level (R55). -/
theorem State.txLevel_of_not_connected (hc : s.call.state ≠ .connected) :
    s.txLevel = s.call.state.restLevel := by
  simp [State.txLevel, hc]

end Tx

/-- TX rests at mark in CALLING and CONNECTED only (R55). -/
theorem CallState.restLevel_eq_space {c : CallState} (h1 : c ≠ .connected) (h2 : c ≠ .calling) :
    c.restLevel = .space := by
  cases c <;> simp_all [CallState.restLevel]

/-- Settles O44: the element at a tick is its distance from the start in unit times, and the call state gives the rest
levels. -/
theorem keyedCharacterShapesTx : Obligations.KeyedCharacterShapesTx := by
  refine fun s => ⟨fun k n hc ha hpos hnow => ?_, fun due => State.txLevel_of_breaking, State.txLevel_of_idle,
    fun hc => ?_, fun hc hcalling => ?_⟩
  · rw [State.txLevel_of_sending hc ha, hnow]
    exact ⟨Keying.levelAt_start, fun i => Keying.levelAt_unit, Keying.levelAt_stop hpos⟩
  · rw [State.txLevel_of_not_connected (by simp [hc]), hc]
    rfl
  · rw [State.txLevel_of_not_connected hc, CallState.restLevel_eq_space hc hcalling]

/-! ## The choice -/

section Choice
variable {s : State}

/-- LTX chooses only at rest in CONNECTED (R57). -/
theorem State.sendChoice_of_not_free (h : s.call.state ≠ .connected ∨ s.ltx.activity ≠ .idle) :
    s.sendChoice = s :=
  if_neg fun ⟨hc, ha⟩ => h.elim (· hc) (· ha)

theorem State.sendChoice_of_free (hc : s.call.state = .connected) (ha : s.ltx.activity = .idle) :
    s.sendChoice = s.sendItem :=
  if_pos ⟨hc, ha⟩

/-- A break comes before deferral (R57, item 1). -/
theorem State.sendItem_of_break (hb : s.ltx.breakRequest = true) : s.sendItem = s.keyBreak := by
  simp [State.sendItem, hb]

/-- While it defers, LTX takes nothing but a break (R57). -/
theorem State.sendItem_of_defers (hb : s.ltx.breakRequest = false) (hd : s.defers = true) : s.sendItem = s := by
  simp [State.sendItem, hb, hd]

section Undeferred
variable (hb : s.ltx.breakRequest = false) (hd : s.defers = false)
include hb hd

/-- Item 2 of R57. -/
theorem State.sendItem_of_answerback {i : Nat} (h : s.ltx.answerback = some i) :
    s.sendItem = s.keyAnswerback i := by
  simp [State.sendItem, hb, hd, h]

/-- Item 3 of R57. -/
theorem State.sendItem_of_enquiry (hn : s.ltx.answerback = none) (h : s.ltx.enquiryRequest = true) :
    s.sendItem = s.keyEnquiry := by
  simp [State.sendItem, hb, hd, hn, h]

/-- Item 4 of R57, which the hold keeps back (R61). -/
theorem State.sendItem_of_send (hn : s.ltx.answerback = none) (hq : s.ltx.enquiryRequest = false) :
    s.sendItem = if s.ltx.hold then s else s.keySend := by
  simp [State.sendItem, hb, hd, hn, hq]

end Undeferred

/-- An answerback code is keyed after its shift (R58, R62). -/
theorem State.keyAnswerback_of_code {i : Nat} {code : Code} {k : Case}
    (h : s.isl.answerback[i]? = some (code, k)) :
    s.keyAnswerback i =
      if s.isl.functionMap.needsShift code k s.call.record.lineCase
      then s.startKeying (s.isl.functionMap.shiftCode k) k .shift
      else s.startKeying code k .answerback := by
  simp only [State.keyAnswerback, h]
  rfl

/-- The head of SEND is keyed after its shift, and leaves SEND with its own keying (R9, R58). -/
theorem State.keySend_of_cons {e : Entry} {rest : List Entry} (h : s.store.send.cells = e :: rest) :
    s.keySend =
      if s.isl.functionMap.needsShift e.cell.code e.cell.case s.call.record.lineCase
      then s.startKeying (s.isl.functionMap.shiftCode e.cell.case) e.cell.case .shift
      else State.startKeying { s with store := (s.store.removeHead .send).2 }
        e.cell.code e.cell.case .send := by
  simp only [State.keySend, h]
  rfl

theorem State.keySend_of_nil (h : s.store.send.cells = []) : s.keySend = s := by
  simp only [State.keySend, h]

/-- A keyed character takes the unit time and stop length in effect, and its sent copy the case a shift code names
(R56, R59; log 46). -/
theorem State.startKeying_eq (s : State) (code : Code) (k : Case) (source : KeyingSource) :
    s.startKeying code k source = { s with ltx := { s.ltx with activity := .sending (Keying.mk
      { code := code,
        case := if code = s.isl.functionMap.lettersShift then .letters
                else if code = s.isl.functionMap.figuresShift then .figures else k,
        origin := .sent, quality := .clean }
      source s.now s.timing.unit (s.timing.stop * s.timing.unit / 16)) } } := by
  rw [State.startKeying, FunctionMap.shiftCase_getD]
  rfl

/-- LTX defers while LRX has a character or a space run, or the guard runs (R57). -/
theorem State.defers_iff : s.defers = true ↔
    ((∃ a, s.lrx.state = .character a) ∨ (∃ r, s.lrx.state = .spaceRun r) ∨ s.lrx.guard ≠ none) := by
  cases h : s.lrx.state <;> simp [State.defers, h, Option.isSome_iff_ne_none]

end Choice

/-- Settles O43: the choice goes down the items of R57, and each item is the lemma about its keying. -/
theorem senderTakesTheFirstItem : Obligations.SenderTakesTheFirstItem := by
  refine ⟨fun s => ⟨State.sendChoice_of_not_free, fun hc ha => ?_⟩, State.startKeying_eq, fun s => State.defers_iff⟩
  rw [State.sendChoice_of_free hc ha]
  refine ⟨State.sendItem_of_break, fun hb => ⟨State.sendItem_of_defers hb, fun hd => ⟨?_, ?_, ?_⟩⟩⟩
  · intro i code k hi hcode
    rw [State.sendItem_of_answerback hb hd hi, State.keyAnswerback_of_code hcode]
  · exact fun hn => State.sendItem_of_enquiry hb hd hn
  · intro hn hq
    rw [State.sendItem_of_send hb hd hn hq]
    refine ⟨fun hhold => if_pos hhold, fun hnil => ?_, fun hhold e rest hcons => ?_⟩
    · rw [State.keySend_of_nil hnil, ite_self]
    · rw [if_neg (by simp [hhold]), State.keySend_of_cons hcons]

/-! ## The rows -/

/-- A sent character restarts the idle timer and is counted, and one that was an enquiry opens the capture window
(R59, R79, R80). -/
theorem State.reportSent_eq (s : State) (k : Keying) :
    (if k.source = .enquiry then s.tellSent.openCapture else s.tellSent) =
      { s with call := { s.call with
        idle := if s.opt .idleClear = 0 then none else some (s.now + s.opt .idleClear * 100000)
        capture := if k.source = .enquiry
          then some (CaptureWindow.mk (s.now + s.opt .captureWindow * 10000) 0) else s.call.capture
        record := { s.call.record with
          sent := min 65535 (s.call.record.sent + 1)
          caller := if k.source = .enquiry then none else s.call.record.caller } } } := by
  by_cases h : k.source = .enquiry
  · simp only [if_pos h]
    rfl
  · simp only [if_neg h]
    rfl

/-- Settles O42: a sent character is handed on to SENT COPY, which keeps the options, and then reported. -/
theorem senderRowsComplete : Obligations.SenderRowsComplete := by
  refine fun s => ⟨?sent, fun due hbreaking => ?_, fun due hguard => ?_⟩
  case sent =>
    intro k u hsending hu
    have still : u.1.isl = s.isl := by
      rw [hu]
      exact (State.present_keeps _ .sentCopy k.cell).isl
    have hdone : ((s.advance k.due).keyingDone k).present .sentCopy k.cell = u := by
      rw [hu, State.keyingDone, FunctionMap.caseAfter_eq]
      rfl
    refine ⟨if k.source = .enquiry then u.1.tellSent.openCapture else u.1.tellSent, ?_, ?_⟩
    · change Host.Outcome.next (characterSent s) = _
      rw [characterSent, hsending]
      dsimp only [State.characterEnds]
      rw [hdone]
    · rw [State.reportSent_eq]
      simp only [State.opt_congr still]
  · change Host.Outcome.next (breakKeyingEnd s) = _
    rw [breakKeyingEnd, hbreaking]
    rfl
  · change Host.Outcome.next (turnaroundGuardExpiry s) = _
    rw [turnaroundGuardExpiry, hguard]
    rfl

end Sys2Proof.Machine
end

section
/-! SUPPORT. The Line Receiver's operations, each with what it changes (R39 to R53), and the events that the Call
Controller takes from it (R79 to R82). -/

namespace Sys2Proof.Machine

/-! ## The distortion figure -/

/-- R43: a deviation is clamped to half a unit. -/
theorem deviation_le (t0 unit te : Nat) : deviation t0 unit te ≤ unit / 2 := Nat.min_le_left ..

/-- R43: so is the largest of any list of them. -/
theorem largestDeviation_le (a : Assembly) (unit : Nat) : largestDeviation a unit ≤ unit / 2 := by
  unfold largestDeviation
  refine List.foldlRecOn (motive := (· ≤ unit / 2)) a.changes _ (Nat.zero_le _) fun m hm c _ => ?_
  split
  · exact Nat.max_le.mpr ⟨hm, deviation_le ..⟩
  · exact hm

/-- R44: a deviation of half a unit is 50 per cent. -/
theorem distortionFigure_le {m unit : Nat} (hpos : 0 < unit) (hm : m ≤ unit / 2) : distortionFigure m unit ≤ 50 := by
  refine Nat.lt_succ_iff.mp ((Nat.div_lt_iff_lt_mul (by omega)).mpr ?_)
  omega

/-! ## The filter -/

/-- Three samples on a level not held give it, whatever run they follow (R39). -/
theorem Filter.threeSamples_eq {f : Filter} {b : Bool} (h : f.level ≠ some b) : f.threeSamples b = Filter.at b := by
  obtain ⟨_ | l, run, asked⟩ := f
  · rcases Nat.lt_or_ge run 2 with hrun | hrun
    · interval_cases run <;> cases b <;> cases asked <;> rfl
    · have hfull : ¬ run < 2 := by omega
      have hbegun : run ≠ 0 := by omega
      cases b <;> cases asked <;> simp [Filter.threeSamples, Filter.sample, Filter.at, hfull, hbegun]
  · exact Filter.threeSamples_change (congrArg some (Bool.eq_not.mpr fun hl => h (congrArg some hl)))

/-- The filtered level is mark exactly when the filter holds mark (R39). -/
theorem Lrx.filter_level_ne {l : Lrx} {level : Level} (h : l.level ≠ level) :
    l.filter.level ≠ some (level == .mark) := by
  intro hl
  refine h ?_
  cases level <;> rw [Lrx.level, hl] <;> rfl

/-- A filtered change sets the level and its time, two ticks after it (R39). -/
theorem State.confirmLevel_eq {s : State} {level : Level} (h : s.lrx.level ≠ level) (te : Nat) :
    s.confirmLevel level te = { s with
      now := max s.now (te + 2)
      lrx := { s.lrx with filter := Filter.at (level == .mark), since := te } } := by
  rw [← Filter.threeSamples_eq (Lrx.filter_level_ne h)]
  rfl

/-- A filtered change touches the Call Controller's timers and nothing else (R71, R73, R75, R86, R88). -/
theorem State.callLevelChange_eq (s : State) (level : Level) (te : Nat) :
    s.callLevelChange level te = { s with call := (s.callLevelChange level te).call } := by
  unfold State.callLevelChange
  split <;> rfl

@[simp] theorem State.callLevelChange_callState (s : State) (level : Level) (te : Nat) :
    (s.callLevelChange level te).call.state = s.call.state := by
  unfold State.callLevelChange
  split <;> rfl

/-! ## Samples -/

section Samples
variable {s : State} {a : Assembly} (hs : s.lrx.state = .character a)
include hs

/-- The sample that is due is read two ticks after its time (R41). -/
theorem State.atSample_of_next {k : Nat} (h : a.next = k) (act : State → Assembly → State) :
    s.atSample k act = act (s.advance (sampleTime a.t0 s.timing.unit k + 2)) a := by
  simp [State.atSample, hs, h, Config.filterTicks]

theorem unitSample_of_unit (h1 : 1 ≤ a.next) (h5 : a.next ≤ 5) :
    unitSample s = (s.advance (sampleTime a.t0 s.timing.unit a.next + 2)).readUnit a := by
  simp only [unitSample, hs, h1, h5, and_self, if_true]
  exact State.atSample_of_next hs rfl _

end Samples

/-- R41: a unit that reads mark sets its own bit of the code and no other. -/
theorem getLsbD_ite_or_twoPow (code : Code) {n k : Nat} (hn : 1 ≤ n) (hk : k < 5) (mark : Prop) [Decidable mark] :
    (if mark then code ||| BitVec.twoPow 5 (n - 1) else code).getLsbD k =
      (code.getLsbD k || (decide (k + 1 = n) && decide mark)) := by
  have hbit : k = n - 1 ↔ k + 1 = n := by omega
  by_cases hmark : mark <;> simp [hmark, hk, hbit]

/-! ## The quality record and the poor-run count -/

/-- R52: a delivery counts the character and its quality. -/
theorem LineQuality.deliver_eq (q : LineQuality) (k : Quality) :
    q.deliver k = { q with
      received := min 65535 (q.received + 1)
      doubtful := if k = .doubtful then min 65535 (q.doubtful + 1) else q.doubtful
      substituted := if k = .substituted then min 65535 (q.substituted + 1) else q.substituted } := by
  cases k <;> rfl

section Poor
variable {s : State}

/-- R53: a poor character lengthens the run. -/
theorem State.poorCharacter_of_few (h : s.lrx.poorRun + 1 < s.opt .poorLineRun) :
    s.poorCharacter = { s with lrx := { s.lrx with poorRun := s.lrx.poorRun + 1 } } :=
  if_neg (Nat.not_le.mpr h)

/-- R53: at POOR-LINE RUN the run begins again, with a notice. -/
theorem State.poorCharacter_of_run (h : s.opt .poorLineRun ≤ s.lrx.poorRun + 1) :
    s.poorCharacter = { s with
      lrx := { s.lrx with poorRun := 0 }
      link := s.link.queueNotice (.poorLine s.lrx.quality.last s.lrx.quality.peak s.lrx.quality.doubtful
        s.lrx.quality.substituted) } :=
  if_pos h

theorem State.recordDelivery_of_poor {k : Quality} (h : k ≠ .clean) :
    s.recordDelivery k = (s.withQuality (s.lrx.quality.deliver k)).poorCharacter :=
  if_neg h

@[simp] theorem State.poorCharacter_call : s.poorCharacter.call = s.call := by
  rcases Nat.lt_or_ge (s.lrx.poorRun + 1) (s.opt .poorLineRun) with h | h
  · rw [State.poorCharacter_of_few h]
  · rw [State.poorCharacter_of_run h]

@[simp] theorem State.poorCharacter_isl : s.poorCharacter.isl = s.isl := by
  rcases Nat.lt_or_ge (s.lrx.poorRun + 1) (s.opt .poorLineRun) with h | h
  · rw [State.poorCharacter_of_few h]
  · rw [State.poorCharacter_of_run h]

@[simp] theorem State.recordDelivery_call (k : Quality) : (s.recordDelivery k).call = s.call := by
  cases k <;> simp [State.recordDelivery]

@[simp] theorem State.recordDelivery_isl (k : Quality) : (s.recordDelivery k).isl = s.isl := by
  cases k <;> simp [State.recordDelivery]

end Poor

/-! ## The events the Call Controller takes -/

/-- R79: the window takes a cell, and closes at the twentieth. -/
theorem Call.takeCell_eq (c : Call) (cell : Cell) :
    c.takeCell cell = { c with
      record := { c.record with
        caller := if c.capture = none then c.record.caller else some (c.record.caller.getD [] ++ [cell]) }
      capture := c.capture.bind fun w =>
        if w.count + 1 < 20 then some { w with count := w.count + 1 } else none } := by
  unfold Call.takeCell
  split
  · next hnone =>
    rw [if_pos hnone, hnone]
    exact congrArg (fun w => { c with capture := w }) hnone
  · next w hsome =>
    have hopen : 20 ≤ w.count + 1 ↔ ¬ w.count + 1 < 20 := Nat.not_lt.symm
    simp only [hsome, Config.callerCells, hopen, ite_not, Option.bind_some, reduceCtorEq, if_false]

section Events
variable {s : State}

/-- R80: outside CONNECTED a delivered cell tells nothing. -/
theorem State.tellDelivered_of_not_connected (h : s.call.state ≠ .connected) (cell : Cell) (enquiry : Bool) :
    s.tellDelivered cell enquiry = s :=
  if_neg h

/-- R79, R80: a delivered cell is counted and offered to the window, restarts the idle timer, and may be an
enquiry. -/
theorem State.tellDelivered_of_connected (h : s.call.state = .connected) (cell : Cell) (enquiry : Bool) {u : State}
    (hu : u = { s with call := { s.call with
      record := { s.call.record with
        received := min 65535 (s.call.record.received + 1)
        caller := if s.call.capture = none then s.call.record.caller
          else some (s.call.record.caller.getD [] ++ [cell]) }
      capture := s.call.capture.bind fun w =>
        if w.count + 1 < 20 then some { w with count := w.count + 1 } else none
      idle := if s.opt .idleClear = 0 then none
              else some (s.now + s.opt .idleClear * 100000) } }) :
    s.tellDelivered cell enquiry = if enquiry then u.takeEnquiry else u := by
  subst hu
  rw [State.tellDelivered, if_pos h]
  dsimp only
  rw [Call.takeCell_eq]
  rfl

/-- R62: with codes in the list and none in progress the answerback starts. -/
theorem State.triggerAnswerback_of_free (h : s.ltx.answerback = none) (hl : s.isl.answerback ≠ []) :
    s.triggerAnswerback = { s with ltx := { s.ltx with answerback := some 0 } } := by
  simp [State.triggerAnswerback, State.answerbackResult, h, hl]

/-- R62: one in progress goes on, and an empty list has none. -/
theorem State.triggerAnswerback_of_not_free (h : s.ltx.answerback ≠ none ∨ s.isl.answerback = []) :
    s.triggerAnswerback = s := by
  have hnot : s.answerbackResult ≠ .started := by
    unfold State.answerbackResult
    rcases h with h | h
    · simp [Option.isSome_iff_ne_none.mpr h]
    · rw [h]
      split <;> exact nofun
  unfold State.triggerAnswerback
  split
  · next hstarted => exact absurd hstarted hnot
  · rfl

/-- R47, R61, R80: a BREAK event is counted, noticed and holds the sender. -/
theorem State.takeBreak_of_connected (h : s.call.state = .connected) :
    s.takeBreak = { s with
      link := s.link.queueNotice (.breakReceived (min 65535 (s.call.record.breaks + 1)))
      ltx := { s.ltx with hold := true }
      call := { s.call with
        record := { s.call.record with breaks := min 65535 (s.call.record.breaks + 1) }
        idle := if s.opt .idleClear = 0 then none else some (s.now + s.opt .idleClear * 100000) } } :=
  if_pos h

end Events

end Sys2Proof.Machine
end

section
/-! SUPPORT. The stop sample, space runs and filtered changes, branch by branch (R40 to R48, R64). -/

namespace Sys2Proof.Machine

/-! ## Samples -/

section Read
variable {s : State} {a : Assembly}

theorem State.readStart_of_space (h : levelAt a.changes (sampleTime a.t0 s.timing.unit 0) ≠ .mark) :
    s.readStart a = s.receiverState (.character { a with next := 1 }) :=
  if_neg h

/-- R41: a start sample that reads mark is a false start. -/
theorem State.readStart_of_mark (h : levelAt a.changes (sampleTime a.t0 s.timing.unit 0) = .mark) :
    s.readStart a = ((s.withQuality { s.lrx.quality with
      falseStarts := satAdd s.lrx.quality.falseStarts 1 }).receiverState .markRest).carryOn :=
  if_pos h

/-- R42: a stop sample that reads mark completes the character. -/
theorem State.readStop_of_mark (h : levelAt a.changes (sampleTime a.t0 s.timing.unit 6) = .mark) :
    s.readStop a =
      (State.deliverReceived
        ((State.startGuard (s.recordDistortion (a.distortion s.timing.unit))
          (sampleTime a.t0 s.timing.unit 6)).receiverState .markRest) a.code
        (if s.timing.limit < a.distortion s.timing.unit then .doubtful else .clean)).carryOn :=
  if_pos h

/-- R45: a stop sample that reads space holds the character in a space run. -/
theorem State.readStop_of_space (h : levelAt a.changes (sampleTime a.t0 s.timing.unit 6) ≠ .mark) :
    s.readStop a =
      (State.startGuard (s.recordDistortion (a.distortion s.timing.unit))
        (sampleTime a.t0 s.timing.unit 6)).receiverState
          (.spaceRun (s.spaceRunFrom a.t0
            (some { code := a.code, distortion := a.distortion s.timing.unit }))) :=
  if_neg h

end Read

/-! ## Delivery -/

/-- R50: the line case follows a received code; the counts of a delivery leave the call and the function map. -/
theorem State.receiveCase_recordDelivery (s : State) (k : Quality) (code : Code) :
    (s.recordDelivery k).receiveCase code = { s.recordDelivery k with
      call := { s.call with record := { s.call.record with lineCase :=
        if code = s.isl.functionMap.lettersShift then .letters
        else if code = s.isl.functionMap.figuresShift then .figures
        else s.call.record.lineCase } } } := by
  have hmap : (s.recordDelivery k).fmap = s.fmap := congrArg Isl.functionMap (State.recordDelivery_isl k)
  rw [State.receiveCase, hmap, State.recordDelivery_call, FunctionMap.caseAfter_eq]
  rfl

/-- R51: the ENQUIRY code of the map before a delivery is that of the map after it. -/
theorem State.deliverReceived_eq (s : State) (code : Code) (k : Quality) {cell : Cell}
    (hcell : cell = { code := code, case := s.fmap.receivedCase code s.call.record.lineCase, origin := .received,
                      quality := k }) :
    s.deliverReceived code k = ((s.recordDelivery k).receiveCase code).handOn cell
      (decide (code = s.isl.functionMap.enquiry) && decide (cell.case = .figures)) := by
  subst hcell
  rw [← State.recordDelivery_isl (s := s) k]
  rfl

/-! ## Space runs -/

section Runs
variable {s : State}

/-- R47: without a pending character there is nothing to discard. -/
theorem State.discardPending_of_none {char : Option PendingCharacter} (h : char = none) :
    s.discardPending char = s := by
  rw [h, State.discardPending]

/-- R47, R53: a discarded character counts as substituted and is poor. -/
theorem State.discardPending_of_some {char : Option PendingCharacter} (h : char ≠ none) :
    s.discardPending char = (s.withQuality { s.lrx.quality with
      substituted := satAdd s.lrx.quality.substituted 1 }).poorCharacter := by
  obtain ⟨c, rfl⟩ := Option.ne_none_iff_exists'.mp h
  rfl

@[simp] theorem State.discardPending_call (char : Option PendingCharacter) :
    (s.discardPending char).call = s.call := by
  cases char <;> simp [State.discardPending]

@[simp] theorem State.takeBreak_callState : s.takeBreak.call.state = s.call.state := by
  unfold State.takeBreak
  split <;> rfl

@[simp] theorem State.reachBreak_callState (r : SpaceRun) : (s.reachBreak r).call.state = s.call.state := by
  simp [State.reachBreak]

/-- R77, R80: a BREAK event has restarted the idle timer. -/
theorem State.takeBreak_idle (h : s.call.state = .connected) :
    s.takeBreak.call.idle = if s.takeBreak.opt .idleClear = 0 then none
      else some (s.takeBreak.now + s.takeBreak.opt .idleClear * 100000) := by
  rw [State.takeBreak_of_connected h]
  rfl

theorem State.reachBreak_idle (h : s.call.state = .connected) (r : SpaceRun) :
    (s.reachBreak r).call.idle = if (s.reachBreak r).opt .idleClear = 0 then none
      else some ((s.reachBreak r).now + (s.reachBreak r).opt .idleClear * 100000) :=
  State.takeBreak_idle (by simpa using h)

theorem State.ensureBreak_of_broken {r : SpaceRun} (h : r.broken = true) : s.ensureBreak r = s :=
  if_pos h

theorem State.ensureBreak_of_whole {r : SpaceRun} (h : r.broken = false) : s.ensureBreak r = s.reachBreak r :=
  if_neg (by simp [h])

theorem State.takeClear_of_connected (h : s.call.state = .connected) : s.takeClear = s.enterClearing .farEnd :=
  if_pos h

/-- R80: a BREAK END event restarts the idle timer. -/
theorem State.takeBreakEnd_of_connected (h : s.call.state = .connected) :
    s.takeBreakEnd = { s with call := { s.call with
      idle := if s.opt .idleClear = 0 then none else some (s.now + s.opt .idleClear * 100000) } } :=
  if_pos h

theorem State.takeBreakEnd_of_not_connected (h : s.call.state ≠ .connected) : s.takeBreakEnd = s :=
  if_neg h

/-- An idle timer restarted in the same tick is restarted to the same tick (R77). -/
theorem State.takeBreakEnd_of_restarted
    (h : s.call.idle = if s.opt .idleClear = 0 then none else some (s.now + s.opt .idleClear * 100000)) :
    s.takeBreakEnd = s := by
  by_cases hc : s.call.state = .connected
  · rw [State.takeBreakEnd_of_connected hc, ← h]
  · exact State.takeBreakEnd_of_not_connected hc

section MarkInRun
variable {r : SpaceRun} {te : Nat}

/-- R46: a return to mark before the break threshold with no character pending delivers nothing. -/
theorem State.markInRun_of_none (hearly : te < r.breakAt) (hwhole : r.broken = false) (h : r.char = none) :
    s.markInRun r te = s.receiverState .markRest := by
  simp [State.markInRun, hearly, hwhole, h]

/-- R46: the pending character is delivered substituted. -/
theorem State.markInRun_of_pending (hearly : te < r.breakAt) (hwhole : r.broken = false) (h : r.char ≠ none) :
    s.markInRun r te = (s.receiverState .markRest).deliverSubstituted := by
  obtain ⟨c, hc⟩ := Option.ne_none_iff_exists'.mp h
  simp [State.markInRun, hearly, hwhole, hc]

/-- R47: a return to mark after the break threshold is a BREAK END. -/
theorem State.markInRun_of_break (hlate : r.broken = true ∨ r.breakAt ≤ te) (h : te < r.clearAt) :
    s.markInRun r te = ((s.ensureBreak r).receiverState .markRest).takeBreakEnd := by
  have hbroken : te < r.breakAt → r.broken = true := fun hearly => hlate.resolve_right (by omega)
  simp +contextual [State.markInRun, hbroken, Nat.not_le.mpr h]

/-- R48, log 24: after the clear threshold the CLEAR event comes first. -/
theorem State.markInRun_of_clear (hlate : r.broken = true ∨ r.breakAt ≤ te) (h : r.clearAt ≤ te) :
    s.markInRun r te = (s.ensureBreak r).takeClear := by
  have hbroken : te < r.breakAt → r.broken = true := fun hearly => hlate.resolve_right (by omega)
  simp +contextual [State.markInRun, hbroken, h]

end MarkInRun

end Runs

/-! ## Filtered changes -/

/-- LTX keys a character exactly in SENDING (R55). -/
theorem Ltx.keying_iff {l : Ltx} : l.keying = true ↔ l.sendState = .sending := by
  unfold Ltx.keying Ltx.sendState
  cases l.activity with
  | idle => cases l.hold <;> simp
  | sending k => simp
  | breaking due => simp

section Change
variable {s : State} {te : Nat}

/-- R41, R64: a start edge begins a character, a collision while LTX is SENDING. -/
theorem State.startEdge_eq (s : State) (te : Nat) :
    s.startEdge te = { s with lrx := { s.lrx with
      state := .character { t0 := te, next := 0, code := 0, changes := [] }
      quality := { s.lrx.quality with collisions :=
        if s.ltx.sendState = .sending then min 65535 (s.lrx.quality.collisions + 1)
        else s.lrx.quality.collisions } } } := by
  unfold State.startEdge
  by_cases h : s.ltx.sendState = .sending
  · simp only [if_pos h]
    exact if_pos (Ltx.keying_iff.mpr h)
  · simp only [if_neg h]
    exact if_neg fun hk => h (Ltx.keying_iff.mp hk)

/-- R40, R41, R45: changes that LRX does nothing with. -/
theorem State.receiverChange_of_still {level : Level}
    (h : s.lrx.state = .disabled ∨ (s.lrx.state = .markRest ∧ level = .mark) ∨
      ∃ r, s.lrx.state = .spaceRun r ∧ level = .space) : s.receiverChange level te = s := by
  rcases h with h | ⟨h, rfl⟩ | ⟨r, h, rfl⟩ <;> simp [State.receiverChange, h]

theorem State.receiverChange_of_edge (h : s.lrx.state = .markRest) :
    s.receiverChange .space te = s.startEdge te := by
  simp [State.receiverChange, h]

theorem State.receiverChange_of_character {a : Assembly} (h : s.lrx.state = .character a) (level : Level) :
    s.receiverChange level te = s.receiverState (.character { a with changes := a.changes ++ [(te, level)] }) := by
  simp [State.receiverChange, h]

theorem State.receiverChange_of_run {r : SpaceRun} (h : s.lrx.state = .spaceRun r) :
    s.receiverChange .mark te = s.markInRun r te := by
  simp [State.receiverChange, h]

end Change

end Sys2Proof.Machine
end

section
/-! The rows of the Line Receiver (R39 to R53, R64) and GET LINE QUALITY (R54). -/

namespace Sys2Proof.Machine

/-- Settles O40: a deviation is at most half a unit, and half a unit is 50 per cent. -/
theorem distortionFigureLiesIn0To50 : Obligations.DistortionFigureLiesIn0To50 :=
  ⟨fun a unit hlow _ => distortionFigure_le (by omega) (largestDeviation_le a unit), fun _ _ => rfl⟩

/-- Settles O38: the sample that is due is read at its time, and a unit adds its own bit. -/
theorem samplesReadTheCharacter : Obligations.SamplesReadTheCharacter := by
  refine fun a s hs => ⟨?start, ?unit⟩
  case start =>
    rintro hnext _ rfl u rfl
    have htime : sampleTime a.t0 s.timing.unit 0 = a.t0 + s.timing.unit / 2 := by simp [sampleTime]
    have hrow : exec .startSample s =
        .next (State.readStart (s.advance (sampleTime a.t0 s.timing.unit 0 + 2)) a) :=
      congrArg Host.Outcome.next (State.atSample_of_next hs hnext _)
    rw [hrow, ← htime]
    refine ⟨fun hspace => ?_, fun hmark => ?_⟩
    · exact congrArg Host.Outcome.next (State.readStart_of_space (s := s.advance _) (hspace.trans_ne nofun))
    · exact congrArg Host.Outcome.next (State.readStart_of_mark (s := s.advance _) hmark)
  case unit =>
    rintro h1 h5 _ rfl
    have hrow : exec .unitSample s =
        .next ((s.advance (sampleTime a.t0 s.timing.unit a.next + 2)).readUnit a) :=
      congrArg Host.Outcome.next (unitSample_of_unit hs h1 h5)
    exact ⟨_, hrow, fun k hk => getLsbD_ite_or_twoPow a.code h1 hk _⟩

/-- Settles O39: the stop sample's two readings, and then a delivery from its counts to the call. -/
theorem stopSampleCompletesOrHoldsTheCharacter : Obligations.StopSampleCompletesOrHoldsTheCharacter := by
  refine ⟨?stop, ?counts, ?delivery, ?told⟩
  case stop =>
    rintro a s u p t hs hnext rfl rfl rfl
    have hrow : exec .stopSample s = .next (State.readStop (s.advance (sampleTime a.t0 s.timing.unit 6 + 2)) a) :=
      congrArg Host.Outcome.next (State.atSample_of_next hs hnext _)
    rw [hrow]
    refine ⟨fun hspace => ?_, fun hmark => ?_⟩
    · exact congrArg Host.Outcome.next (State.readStop_of_space (s := s.advance _) (hspace.trans_ne nofun))
    · exact congrArg Host.Outcome.next (State.readStop_of_mark (s := s.advance _) hmark)
  case counts =>
    intro s k q hq
    rw [← LineQuality.deliver_eq] at hq
    subst hq
    refine ⟨?_, fun hk hfew => ?_, fun hk hrun => ?_⟩
    · rintro rfl
      rfl
    · rw [State.recordDelivery_of_poor hk, State.poorCharacter_of_few (by exact hfew)]
      rfl
    · rw [State.recordDelivery_of_poor hk, State.poorCharacter_of_run (by exact hrun)]
      rfl
  case delivery =>
    refine fun s code k cell => ⟨fun hcell => ?_, ?_, fun enquiry u placed loss hpresent => ?_⟩
    · rw [State.deliverReceived_eq s code k (hcell.trans (by rw [FunctionMap.receivedCase_eq]; rfl)),
        State.receiveCase_recordDelivery]
    · rintro _ rfl
      rfl
    · rw [State.handOn, hpresent]
  case told =>
    refine fun s cell => ⟨fun hc => State.tellDelivered_of_not_connected hc cell, fun hc u hu => ?_⟩
    have told := fun enquiry => State.tellDelivered_of_connected hc cell enquiry hu
    subst hu
    refine ⟨told false, fun hauto => ⟨fun hfree hlist => ?_, fun hnot => ?_⟩, fun hhost => ?_⟩
    · exact (told true).trans ((if_pos hauto).trans (State.triggerAnswerback_of_free hfree hlist))
    · exact (told true).trans ((if_pos hauto).trans (State.triggerAnswerback_of_not_free hnot))
    · exact (told true).trans (if_neg hhost)

/-- Settles O41: what is discarded decides the counts at the break threshold, and the BREAK event comes before the
CLEAR event. -/
theorem thresholdsBreakAndClear : Obligations.ThresholdsBreakAndClear := by
  refine ⟨?reach, fun r s hs hc => ?rows⟩
  case reach =>
    rintro r s q poor _ l hnone hsome rfl hc
    have discarded : q.breaks = s.lrx.quality.breaks ∧ ∀ x, (s.receiverState x).discardPending r.char =
        { s with lrx := { s.lrx with state := x, quality := q, poorRun := poor }, link := l } := by
      by_cases hchar : r.char = none
      · obtain ⟨rfl, rfl, rfl⟩ := hnone hchar
        exact ⟨rfl, fun _ => State.discardPending_of_none hchar⟩
      · obtain ⟨rfl, hfew, hrun⟩ := hsome hchar
        refine ⟨rfl, fun x => (State.discardPending_of_some hchar).trans ?_⟩
        rcases Nat.lt_or_ge (s.lrx.poorRun + 1) (s.opt .poorLineRun) with h | h
        · obtain ⟨rfl, rfl⟩ := hfew h
          exact State.poorCharacter_of_few h
        · obtain ⟨rfl, rfl⟩ := hrun h
          exact State.poorCharacter_of_run h
    rw [State.reachBreak]
    dsimp only
    obtain ⟨hbreaks, discarded⟩ := discarded
    rw [discarded, State.takeBreak_of_connected (by exact hc), ← hbreaks]
    rfl
  case rows =>
    have hbreak : exec .breakThreshold s = .next (if r.broken then s
        else (State.reachBreak { s with now := max s.now (r.breakAt + 2) } r).carryOn) := by
      change Host.Outcome.next (breakThreshold s) = _
      rw [breakThreshold, hs]
      rfl
    have hclear : exec .clearThreshold s = .next
        ((State.ensureBreak { s with now := max s.now (r.clearAt + 2) } r).takeClear).carryOn := by
      change Host.Outcome.next (clearThreshold s) = _
      rw [clearThreshold, hs]
      rfl
    rw [hbreak, hclear]
    refine ⟨fun hwhole => ?_, fun hbroken => ?_, fun hbroken => ?_, fun hwhole => ?_⟩
    · rw [if_neg (by simp [hwhole])]
    · rw [if_pos hbroken]
    · rw [State.ensureBreak_of_broken hbroken, State.takeClear_of_connected (by exact hc)]
    · rw [State.ensureBreak_of_whole hwhole, State.takeClear_of_connected (by simpa using hc)]

/-- Settles O37: the change sets the level and the call's timers, and what LRX then does is decided by its state and,
in a space run, by the thresholds that the change's time has passed. -/
theorem filteredChangesReachTheReceiver : Obligations.FilteredChangesReachTheReceiver := by
  refine ⟨?change, fun level te s h => congrArg Host.Outcome.next (if_pos h)⟩
  case change =>
    intro level te s u k hlevel hkept hidle hoffered hcalling hclearing hreleasing hu
    have hcall : ((s.confirmLevel level te).callLevelChange level te).call = k := by
      unfold State.callLevelChange
      split
      · next hc => exact (hidle hc).symm
      · next hc => exact (hoffered (.inl hc)).symm
      · next hc => exact (hoffered (.inr hc)).symm
      · next hc => exact (hcalling hc).symm
      · next hc => exact (hclearing hc).symm
      · next hc => exact (hreleasing hc).symm
      · next hc => exact (hkept (.inl hc)).symm
      · next hc => exact (hkept (.inr hc)).symm
    have hchanged : (s.confirmLevel level te).callLevelChange level te = u := by
      rw [State.callLevelChange_eq, hcall, State.confirmLevel_eq hlevel, hu]
    have hrow : exec (.rxFilteredChange level te) s = .next (u.receiverChange level te).carryOn := by
      rw [← hchanged]
      exact congrArg Host.Outcome.next (if_neg hlevel)
    have hsame : u.call.state = s.call.state := by
      rw [← hchanged]
      exact State.callLevelChange_callState ..
    have hstate : u.lrx.state = s.lrx.state := by rw [hu]
    rw [hrow, ← hstate]
    refine ⟨fun hstill => ?still, fun hrest hspace => ?edge, fun a ha => ?character,
      fun r v hr hmark hv => ?run⟩
    case still => rw [State.receiverChange_of_still hstill]
    case edge =>
      subst hspace hu
      rw [State.receiverChange_of_edge hrest, State.startEdge_eq]
    case character => rw [State.receiverChange_of_character ha]; rfl
    case run =>
      subst hmark
      have hv' : u.receiverState .markRest = v := hv.symm
      rw [State.receiverChange_of_run hr]
      refine ⟨fun hearly hwhole => ⟨fun hnone => ?nothing, fun hsome => ?substituted⟩,
        fun hbroken hte => ⟨fun hc due hdue => ?breakEnd, fun hc => ?unconnected⟩, fun hbroken hte hc => ?cleared,
        fun hwhole hlate hc x hx => ⟨fun hte => ?lateBreak, fun hte => ?lateClear⟩⟩
      case nothing =>
        rw [State.markInRun_of_none hearly hwhole hnone, hv']
      case substituted =>
        rw [State.markInRun_of_pending hearly hwhole hsome, hv']
      case breakEnd =>
        obtain rfl := hkept (.inr hc)
        subst hdue hv hu
        rw [State.markInRun_of_break (.inl hbroken) hte, State.ensureBreak_of_broken hbroken,
          State.takeBreakEnd_of_connected (by exact hc)]
        rfl
      case unconnected =>
        have hnot : v.call.state ≠ .connected := by
          rw [hv]
          exact fun h => hc (hsame.symm.trans h)
        rw [State.markInRun_of_break (.inl hbroken) hte, State.ensureBreak_of_broken hbroken, hv',
          State.takeBreakEnd_of_not_connected hnot]
      case cleared =>
        rw [State.markInRun_of_clear (.inl hbroken) hte, State.ensureBreak_of_broken hbroken,
          State.takeClear_of_connected (hsame.trans hc)]
      case lateBreak =>
        have hrestarted := State.reachBreak_idle (hsame.trans hc) r
        rw [← hx] at hrestarted
        rw [State.markInRun_of_break (.inr hlate) hte, State.ensureBreak_of_whole hwhole, ← hx,
          State.takeBreakEnd_of_restarted (by exact hrestarted)]
        rfl
      case lateClear =>
        have hconnected : x.call.state = .connected := by rw [hx, State.reachBreak_callState, hsame, hc]
        rw [State.markInRun_of_clear (.inr hlate) hte, State.ensureBreak_of_whole hwhole, ← hx,
          State.takeClear_of_connected hconnected]

/-- Settles O24: the frame reaches its owner, which reads the record before it clears it. -/
theorem lineQualityIsReportedThenCleared : Obligations.LineQualityIsReportedThenCleared := by
  intro clear s h
  have hrow : exec (.getLineQuality clear) s = .next (getLineQuality clear (s.withReply (.awaited none))) :=
    congrArg Host.Outcome.next (State.hostCommand_taken h _ rfl rfl (by simp))
  rw [hrow, getLineQuality]
  refine ⟨?_, ?_, fun hbad => ?_⟩
  · rintro rfl
    rfl
  · rintro rfl
    rfl
  · rw [flagOf_eq_none hbad]
    rfl

end Sys2Proof.Machine
end

section
/-! SUPPORT. The motor follows the demand set, and what an operation that is not the Call Controller's own keeps of a
sound call (R162 to R164). A lemma `f_keepsCall` says that the operation `f` is one of these. -/

namespace Sys2Proof.Machine

/-! ## The motor follows the demand set -/

/-- With the set empty the motor is not RUNNING; with a member in it, it is neither OFF nor in its run-on (R163). -/
theorem Motor.followsDemand_iff {m : Motor} : m.followsDemand ↔
    (m.demand.isEmpty = true → m.state ≠ .running) ∧
    (m.demand.isEmpty = false → m.state ≠ .off ∧ ∀ due, m.state ≠ .runOn due) := by
  unfold Motor.followsDemand
  cases m.state <;> cases m.demand.isEmpty <;> simp

/-- CALL alone keeps the set non-empty. -/
theorem Demand.isEmpty_of_call {d : Demand} (h : d.call = true) : d.isEmpty = false := by
  simp [Demand.isEmpty, h]

/-- A motor that follows its demands follows the new ones (R163). -/
theorem State.setDemand_followsDemand {s : State} (h : s.motor.followsDemand) (d : Demand) :
    (s.setDemand d).motor.followsDemand := by
  rw [Motor.followsDemand_iff] at h ⊢
  obtain ⟨hempty, hplaced⟩ := h
  have hd : (s.setDemand d).motor.demand = d := rfl
  rw [hd]
  unfold State.setDemand State.motorOnDemand State.motorOnNoDemand
  cases hs : s.motor.demand.isEmpty <;> cases d.isEmpty <;> cases hm : s.motor.state <;> simp_all

/-- A RUNNING motor goes on while a member stands (R163). -/
theorem State.setDemand_running {s : State} (h : s.motor.followsDemand) (hr : s.motor.state = .running) {d : Demand}
    (hd : d.isEmpty = false) : (s.setDemand d).motor.state = .running := by
  have hs : s.motor.demand.isEmpty = false := by
    cases hs : s.motor.demand.isEmpty
    · rfl
    · exact absurd hr ((Motor.followsDemand_iff.mp h).1 hs)
  simp [State.setDemand, hs, hd, hr]

/-! ## Two records of one call -/

/-- The Call Controller of `d` is in the state of that of `c`, and its timers run where they may if those of `c` do. -/
structure Call.Alike (c d : Call) : Prop where
  state : d.state = c.state
  recordState : d.record.state = c.record.state
  stopPending : d.stopPending = c.stopPending
  clearCause : d.clearCause = c.clearCause
  timers : c.TimersInState → d.TimersInState

theorem Call.Alike.refl (c : Call) : c.Alike c := ⟨rfl, rfl, rfl, rfl, id⟩

theorem Call.Alike.trans {c d e : Call} (h : c.Alike d) (k : d.Alike e) : c.Alike e :=
  ⟨k.state.trans h.state, k.recordState.trans h.recordState, k.stopPending.trans h.stopPending,
    k.clearCause.trans h.clearCause, k.timers ∘ h.timers⟩

/-- The record may change in all but its state (R89). -/
theorem Call.Alike.withRecord {c d : Call} (hd : d = { c with record := d.record })
    (hr : d.record.state = c.record.state) : c.Alike d where
  state := by rw [hd]
  recordState := hr
  stopPending := by rw [hd]
  clearCause := by rw [hd]
  timers := fun ⟨h1, h2, h3, h4, h5, h6, h7, h8, h9, h10, h11⟩ => by
    rw [hd]
    exact ⟨h1, h2, h3, h4, h5, h6, h7, h8, h9, h10, h11⟩

/-- In CONNECTED the timers of a connection may start and stop (R77 to R79). -/
theorem Call.Alike.connection {c d : Call} (hc : c.state = .connected)
    (hd : d = { c with record := d.record, idle := d.idle, enquiryDelay := d.enquiryDelay, capture := d.capture })
    (hr : d.record.state = c.record.state) : c.Alike d where
  state := by rw [hd]
  recordState := hr
  stopPending := by rw [hd]
  clearCause := by rw [hd]
  timers := fun ⟨h1, h2, h3, h4, h5, _, _, _, h9, h10, h11⟩ => by
    rw [hd]
    exact ⟨h1, h2, h3, h4, h5, fun _ => hc, fun _ => hc, fun _ => hc, h9, h10, h11⟩

/-! ## What keeps a sound call -/

/-- What an operation that is not the Call Controller's own comes to: the state of the call stays, the line blocks act
only in CONNECTED, the motor goes on following its demands, and CALL is neither placed nor removed. -/
structure State.KeepsCall (s t : State) : Prop where
  call : s.call.Alike t.call
  receiver : t.lrx.state = .disabled ↔ s.lrx.state = .disabled
  guard : t.lrx.guard.isSome = true → s.lrx.guard.isSome = true ∨ s.lrx.state ≠ .disabled
  sender : s.call.state ≠ .connected → t.ltx = s.ltx
  send : s.call.state ≠ .connected → s.store.send.cells = [] → t.store.send.cells = []
  loader : s.isl.loader = .ready → t.isl.loader = .ready
  motor : s.motor.followsDemand → t.motor.followsDemand
  member : t.motor.demand.call = s.motor.demand.call
  running : s.motor.followsDemand → s.motor.demand.call = true → s.motor.state = .running → t.motor.state = .running

/-- The parts of the line, the loader and the motor that a sound call speaks of. -/
def State.lineParts (s : State) :
    LrxState × Option Nat × Ltx × List Entry × LoaderState × Demand × MotorState :=
  (s.lrx.state, s.lrx.guard, s.ltx, s.store.send.cells, s.isl.loader, s.motor.demand, s.motor.state)

@[simp] theorem State.lineParts_eq (s : State) : s.lineParts =
    (s.lrx.state, s.lrx.guard, s.ltx, s.store.send.cells, s.isl.loader, s.motor.demand, s.motor.state) := rfl

/-- A motor with the same demands and the same state follows them too. -/
theorem Motor.followsDemand_congr {m n : Motor} (hd : n.demand = m.demand) (hs : n.state = m.state) :
    n.followsDemand ↔ m.followsDemand := by
  unfold Motor.followsDemand
  rw [hd, hs]

section KeepsCall

variable {s t u : State}

/-- An operation on the call record and the timers keeps the call when the line, the loader and the motor stay. -/
theorem State.KeepsCall.onCall (hc : s.call.Alike t.call) (hp : t.lineParts = s.lineParts) : s.KeepsCall t := by
  simp only [State.lineParts_eq, Prod.mk.injEq] at hp
  obtain ⟨hreceiver, hguard, hsender, hsend, hloader, hdemand, hmotor⟩ := hp
  exact {
    call := hc
    receiver := by rw [hreceiver]
    guard := fun h => .inl (hguard ▸ h)
    sender := fun _ => hsender
    send := fun _ h => hsend.trans h
    loader := hloader.trans
    motor := (Motor.followsDemand_congr hdemand hmotor).mpr
    member := by rw [hdemand]
    running := fun _ _ => hmotor.trans }

/-- What leaves the call, the line, the loader and the motor keeps the call. -/
theorem State.KeepsCall.still (hc : t.call = s.call) (hp : t.lineParts = s.lineParts) : s.KeepsCall t :=
  .onCall (hc ▸ .refl _) hp

/-- In CONNECTED the line blocks act: only the receiver must stay enabled (R40). -/
theorem State.KeepsCall.onLine (hs : s.call.state = .connected) (hc : s.call.Alike t.call)
    (hreceiver : t.lrx.state = .disabled ↔ s.lrx.state = .disabled)
    (hguard : t.lrx.guard.isSome = true → s.lrx.guard.isSome = true ∨ s.lrx.state ≠ .disabled)
    (hloader : t.isl.loader = s.isl.loader) (hmotor : t.motor = s.motor) : s.KeepsCall t where
  call := hc
  receiver := hreceiver
  guard := hguard
  sender := fun h => absurd hs h
  send := fun h => absurd hs h
  loader := hloader.trans
  motor := fun h => hmotor ▸ h
  member := by rw [hmotor]
  running := fun _ _ h => hmotor ▸ h

/-- A motor on its way to RUNNING or out of RUNNING may change while it follows its demands. -/
theorem State.KeepsCall.onMotor {m : Motor} (hm : s.motor.followsDemand → m.followsDemand)
    (hcall : m.demand.call = s.motor.demand.call) (hs : s.motor.state ≠ .running) :
    s.KeepsCall { s with motor := m } where
  call := .refl _
  receiver := .rfl
  guard := .inl
  sender := fun _ => rfl
  send := fun _ => id
  loader := id
  motor := hm
  member := hcall
  running := fun _ _ h => absurd h hs

theorem State.KeepsCall.trans (h : s.KeepsCall t) (k : t.KeepsCall u) : s.KeepsCall u := by
  have hstate := h.call.state
  exact {
    call := h.call.trans k.call
    receiver := k.receiver.trans h.receiver
    guard := fun hu => (k.guard hu).elim h.guard fun hd => .inr (hd ∘ h.receiver.mpr)
    sender := fun hs => (k.sender (hstate ▸ hs)).trans (h.sender hs)
    send := fun hs he => k.send (hstate ▸ hs) (h.send hs he)
    loader := k.loader ∘ h.loader
    motor := k.motor ∘ h.motor
    member := k.member.trans h.member
    running := fun hm hd hr => k.running (h.motor hm) (h.member.trans hd) (h.running hm hd hr) }

/-- Followed by what leaves the call, the line, the loader and the motor. -/
theorem State.KeepsCall.then (h : s.KeepsCall t) (hc : u.call = t.call) (hp : u.lineParts = t.lineParts) :
    s.KeepsCall u := h.trans (.still hc hp)

/-- Preceded by what leaves the call, the line, the loader and the motor. -/
theorem State.KeepsCall.after (h : t.KeepsCall u) (hc : t.call = s.call) (hp : t.lineParts = s.lineParts) :
    s.KeepsCall u := State.KeepsCall.trans (.still hc hp) h

theorem State.KeepsCall.refl (s : State) : s.KeepsCall s := .still rfl rfl

theorem State.KeepsCall.of_eq (h : t = s) : s.KeepsCall t := h ▸ .refl s

/-- Followed by an accepted reply (R174). -/
theorem State.KeepsCall.accept (h : s.KeepsCall t) {kind : Byte} {r : Result} : s.KeepsCall (t.accept kind r) :=
  h.then rfl rfl

/-- A sound call stays sound under an operation that keeps it. -/
theorem State.CallSound.keep (h : s.CallSound) (k : s.KeepsCall t) : t.CallSound := by
  have hstate := k.call.state
  exact {
    timers := k.call.timers h.timers
    record := by rw [k.call.recordState, hstate, h.record]
    stopPending := fun hp => hstate ▸ h.stopPending (k.call.stopPending ▸ hp)
    clearCause := fun hc => k.call.clearCause ▸ h.clearCause (hstate ▸ hc)
    receiver := by rw [k.receiver, hstate, h.receiver]
    guard := fun hg => hstate ▸ (k.guard hg).elim h.guard fun hd => Decidable.not_not.mp (mt h.receiver.mpr hd)
    sender := fun hc => (k.sender (hstate ▸ hc)).trans (h.sender (hstate ▸ hc))
    send := fun hc => k.send (hstate ▸ hc) (h.send (hstate ▸ hc))
    loading := fun hl => hstate ▸ h.loading (mt k.loader hl)
    motor := k.motor h.motor
    running := fun hc => by
      have hs : s.call.state = .connected := hstate ▸ hc
      exact k.running h.motor (h.placed (by rw [hs]; rfl)) (h.running hs)
    placed := fun hd => k.member.trans (h.placed (hstate ▸ hd))
    removed := fun hd => hstate ▸ h.removed (k.member ▸ hd) }

end KeepsCall

variable (s : State)

/-! ## The choices that follow a step -/

/-- A demand set with CALL as it stands keeps the call (R162). -/
theorem State.setDemand_keepsCall {d : Demand} (hd : d.call = s.motor.demand.call) : s.KeepsCall (s.setDemand d) where
  call := .refl _
  receiver := .rfl
  guard := .inl
  sender := fun _ => rfl
  send := fun _ => id
  loader := id
  motor := fun h => State.setDemand_followsDemand h d
  member := hd
  running := fun h hc hr => State.setDemand_running h hr (Demand.isEmpty_of_call (hd.trans hc))

theorem State.placeDemands_keepsCall : s.KeepsCall s.placeDemands := s.setDemand_keepsCall rfl

theorem State.lapseDemands_keepsCall : s.KeepsCall s.lapseDemands := s.setDemand_keepsCall rfl

/-- A removal from another spool leaves SEND. -/
@[simp] theorem Store.removeHead_send (st : Store) {n : SpoolName} (h : n ≠ .send) :
    (st.removeHead n).2.send = st.send := st.removeHead_other (m := .send) h.symm

/-- An append to another spool leaves SEND. -/
@[simp] theorem Store.append_send (st : Store) {n : SpoolName} (h : n ≠ .send) (e : Entry) :
    (st.append n e).send = st.send := st.append_other (m := .send) h.symm e

/-- A chain grows without SEND (R12). -/
@[simp] theorem Store.chainAppend_send (st : Store) (chain : List Nat) (cells : Nat) :
    (st.chainAppend chain cells).2.send = st.send := st.chainAppend_spool chain cells .send

/-- No print spool is SEND (R111). -/
@[simp] theorem PrintSpool.toSpool_ne_send (n : PrintSpool) : n.toSpool ≠ .send := by cases n <;> exact nofun

theorem State.reviewWithdrawn_keepsCall : s.KeepsCall s.reviewWithdrawn := by
  unfold State.reviewWithdrawn
  split <;> exact .still (by simp) (by simp)

theorem State.testReleases_keepsCall : s.KeepsCall s.testReleases := by
  unfold State.testReleases
  dsimp only
  split <;> exact .still (by simp) (by simp)

theorem State.printCell_keepsCall (n : PrintSpool) (c : Cell) : s.KeepsCall (s.printCell n c) := by
  unfold State.printCell State.insertShift State.printOwn
  dsimp only
  repeat' split
  all_goals exact .still (by simp) (by simp)

theorem State.printFrom_keepsCall (n : PrintSpool) : s.KeepsCall (s.printFrom n) := by
  unfold State.printFrom
  split
  · exact s.printCell_keepsCall n _
  · exact .refl s

theorem State.printChoiceItem_keepsCall : s.KeepsCall s.printChoiceItem := by
  have hgrant : ∀ n, s.KeepsCall ({ s with printer := s.printer.grant n }.printFrom n) := fun n =>
    (State.printFrom_keepsCall _ n).after rfl rfl
  have hnewline : s.KeepsCall (if s.printer.newlineOwed = .crAndLf then s.insertCr .owedCr else s.insertLf) := by
    split <;> exact .still (by simp) (by simp)
  have harbitrate : s.KeepsCall (match s.arbitrate with
      | some n => { s with printer := s.printer.grant n }.printFrom n
      | none => s) := by
    split
    · exact hgrant _
    · exact .refl s
  unfold State.printChoiceItem
  split
  · next n _ =>
    split
    · exact s.printFrom_keepsCall n
    split
    · exact hnewline
    split
    · exact harbitrate
    split
    · exact s.printFrom_keepsCall n
    split
    · exact .still rfl rfl
    · exact .refl s
  · split
    · exact hnewline
    · exact harbitrate

theorem State.printChoice_keepsCall : s.KeepsCall s.printChoice := by
  rcases s.printChoice_cases with h | ⟨-, h, -⟩ <;> rw [h]
  · exact .refl s
  · exact s.printChoiceItem_keepsCall

theorem State.punchCell_keepsCall (e : Entry) : s.KeepsCall (s.punchCell e) := by
  unfold State.punchCell
  split <;> exact .still (by simp) (by simp [State.takePunchHead])

theorem State.punchChoiceItem_keepsCall : s.KeepsCall s.punchChoiceItem := by
  unfold State.punchChoiceItem
  split
  · exact s.punchCell_keepsCall _
  split
  · exact .still rfl rfl
  split
  · exact .still rfl rfl
  split
  · exact s.punchCell_keepsCall _
  split
  · exact .still rfl rfl
  split
  · exact .still rfl rfl
  · exact .refl s

theorem State.punchChoice_keepsCall : s.KeepsCall s.punchChoice := by
  rcases s.punchChoice_cases with h | ⟨-, -, -, h⟩ <;> rw [h]
  · exact .refl s
  · exact s.punchChoiceItem_keepsCall

theorem State.drive_keepsCall : s.KeepsCall s.drive := by
  unfold State.drive
  have hreviewed : s.KeepsCall s.testReleases.reviewHoldWait :=
    s.testReleases_keepsCall.then (by simp) (by simp)
  have hplaced := (hreviewed.trans (State.reviewWithdrawn_keepsCall _)).trans (State.placeDemands_keepsCall _)
  have hchosen := (hplaced.trans (State.printChoice_keepsCall _)).trans (State.punchChoice_keepsCall _)
  exact (hchosen.trans (State.lapseDemands_keepsCall _)).then (by simp) (by simp)

/-- The item that LTX takes changes the sender and the store only (R57). -/
theorem State.sendItem_eq : ∃ l st, s.sendItem = { s with ltx := l, store := st } := by
  unfold State.sendItem State.keyAnswerback State.keyEnquiry State.keySend
  repeat' split
  all_goals exact ⟨_, _, rfl⟩

/-- LTX chooses in CONNECTED only (R57). -/
theorem State.sendChoice_keepsCall : s.KeepsCall s.sendChoice := by
  unfold State.sendChoice
  split
  · next h =>
    obtain ⟨l, st, heq⟩ := s.sendItem_eq
    rw [heq]
    exact .onLine h.1 (.refl _) .rfl .inl rfl rfl
  · exact .refl s

theorem State.carryOn_keepsCall : s.KeepsCall s.carryOn := s.drive_keepsCall.trans (State.sendChoice_keepsCall _)

/-- Followed by the choices. -/
theorem State.KeepsCall.carryOn {s t : State} (h : s.KeepsCall t) : s.KeepsCall t.carryOn :=
  h.trans t.carryOn_keepsCall

/-- A sound call stays sound under the choices. -/
theorem State.CallSound.carryOn {s : State} (h : s.CallSound) : s.carryOn.CallSound := h.keep s.carryOn_keepsCall

/-- A sound call stays sound under a reply (R174). -/
theorem State.CallSound.accept {s : State} (h : s.CallSound) {kind : Byte} {r : Result} : (s.accept kind r).CallSound :=
  h.keep (.still rfl rfl)

end Sys2Proof.Machine
end

section
/-! SUPPORT. The traffic of a call keeps it sound: deliveries to a route never reach SEND (R21), and the line blocks and
the Call Controller's events act in CONNECTED only (R79 to R82). -/

namespace Sys2Proof.Machine

variable (s : State)

/-! ## Deliveries to a route leave SEND -/

@[simp] theorem State.appendPunch_send (st : Stream) (c : Cell) : (s.appendPunch st c).store.send = s.store.send := by
  simp [State.appendPunch]

@[simp] theorem State.closeIfFull_store (m : Message) : (s.closeIfFull m).store = s.store := by
  unfold State.closeIfFull; split <;> rfl

@[simp] theorem State.offerFile_send (c : Cell) : (s.offerFile c).1.store.send = s.store.send := by
  unfold State.offerFile State.fileInto State.openMessage
  repeat' split
  all_goals simp [State.fileFullNotice]

/-- R21: no route has SEND for its print spool. -/
@[simp] theorem RouteName.printSpool_ne_send (n : RouteName) : n.printSpool ≠ .send := by cases n <;> exact nofun

@[simp] theorem State.tryPlace_send (n : RouteName) (p : Place) (c : Cell) :
    (s.tryPlace n p c).1.store.send = s.store.send := by
  unfold State.tryPlace State.tryPrint State.tryPunch
  repeat' split
  all_goals simp

@[simp] theorem Delivery.tryStandIn_send (d : Delivery) (n : RouteName) (r : Route) (p : Place) (c : Cell) :
    (d.tryStandIn n r p c).state.store.send = d.state.store.send := by
  unfold Delivery.tryStandIn
  dsimp only
  repeat' split
  all_goals simp

@[simp] theorem Delivery.deliverTo_send (n : RouteName) (r : Route) (c : Cell) (d : Delivery) (p : Place) :
    (d.deliverTo n r c p).state.store.send = d.state.store.send := by
  unfold Delivery.deliverTo
  dsimp only
  repeat' split
  all_goals simp

/-- A presentation leaves SEND (R21, R23). -/
@[simp] theorem State.present_send (n : RouteName) (c : Cell) : (s.present n c).1.store.send = s.store.send := by
  simp only [State.present, State.countQuota_store, State.deliver, List.foldl]
  split <;> simp

theorem State.present_keepsCall (n : RouteName) (c : Cell) : s.KeepsCall (s.present n c).1 := by
  have h := s.present_keeps n c
  exact .still h.call (by simp [h.lrx, h.ltx, h.isl, h.motor])

/-! ## The events the Call Controller takes -/

/-- In CONNECTED an operation on the sender alone keeps the call (R55). -/
theorem State.KeepsCall.onSender {s t : State} (hs : s.call.state = .connected) (hc : t.call = s.call)
    (hreceiver : t.lrx = s.lrx) (hisl : t.isl = s.isl) (hmotor : t.motor = s.motor) : s.KeepsCall t :=
  .onLine hs (hc ▸ .refl _) (by rw [hreceiver]) (fun h => .inl (hreceiver ▸ h)) (by rw [hisl]) hmotor

theorem State.takeEnquiry_keepsCall (hs : s.call.state = .connected) : s.KeepsCall s.takeEnquiry := by
  unfold State.takeEnquiry
  split <;> exact .onSender hs (by simp) (by simp) (by simp) (by simp)

theorem State.tellDelivered_keepsCall (cell : Cell) (enquiry : Bool) : s.KeepsCall (s.tellDelivered cell enquiry) := by
  by_cases hs : s.call.state = .connected
  · rw [State.tellDelivered_of_connected hs cell enquiry rfl]
    split
    · refine State.KeepsCall.trans ?_ (State.takeEnquiry_keepsCall _ ?_)
      · exact .onCall (.connection hs rfl rfl) rfl
      · exact hs
    · exact .onCall (.connection hs rfl rfl) rfl
  · rw [State.tellDelivered_of_not_connected hs]
    exact .refl s

theorem State.reportLoss_keepsCall (loss : Option (SpaceTarget × SpaceReason)) : s.KeepsCall (s.reportLoss loss) := by
  unfold State.reportLoss
  split
  · dsimp only
    split
    · next h => exact .onSender h.2 rfl rfl rfl rfl
    · exact .still rfl rfl
  · exact .still rfl rfl
  · exact .refl s

theorem State.takeBreak_keepsCall : s.KeepsCall s.takeBreak := by
  by_cases hs : s.call.state = .connected
  · rw [State.takeBreak_of_connected hs]
    exact .onLine hs (.connection hs rfl rfl) .rfl .inl rfl rfl
  · exact .of_eq (if_neg hs)

theorem State.takeBreakEnd_keepsCall : s.KeepsCall s.takeBreakEnd := by
  by_cases hs : s.call.state = .connected
  · rw [State.takeBreakEnd_of_connected hs]
    exact .onCall (.connection hs rfl rfl) rfl
  · exact .of_eq (State.takeBreakEnd_of_not_connected hs)

end Sys2Proof.Machine
end

section
/-! SUPPORT. The entries to the states of the Call Controller make a sound call of what goes before them (R72 to R76,
R85 to R88, R91). A lemma `f_callSound` says that the operation `f` leaves a sound call. -/

namespace Sys2Proof.Machine

/-! ## The timers after an entry -/

/-- With every timer stopped each runs in its state only. -/
theorem Call.TimersInState.of_stopped {c : Call} (h : c.stopTimers = c) : c.TimersInState := by
  rw [← h]
  constructor <;> exact fun h => absurd h Bool.false_ne_true

/-! ## Between two connections -/

/-- The line outside CONNECTED: the receiver disabled, the sender at rest and SEND empty (R40, R55, R65, R85). -/
structure State.LineRests (s : State) : Prop where
  receiver : s.lrx.state = .disabled
  guard : s.lrx.guard = none
  sender : s.ltx = Ltx.reset
  send : s.store.send.cells = []

/-- What an attempt begins from: the line at rest, the loader READY, no STOP SERVICE pending, and a motor that follows
its demands. -/
structure State.CanBegin (s : State) : Prop where
  line : s.LineRests
  loader : s.isl.loader = .ready
  motor : s.motor.followsDemand
  noStop : s.call.stopPending = false

section Sound
variable {s t : State}

/-- A change of the state in the rest of the Call Controller's timers and record. -/
theorem State.LineRests.congr (h : s.LineRests) (hp : t.lineParts = s.lineParts) : t.LineRests := by
  simp only [State.lineParts_eq, Prod.mk.injEq] at hp
  obtain ⟨hreceiver, hguard, hsender, hsend, -⟩ := hp
  exact ⟨hreceiver.trans h.receiver, hguard.trans h.guard, hsender.trans h.sender, hsend.trans h.send⟩

theorem State.CallSound.lineRests (h : s.CallSound) (hc : s.call.state ≠ .connected) : s.LineRests where
  receiver := h.receiver.mpr hc
  guard := Option.not_isSome_iff_eq_none.mp (mt h.guard hc)
  sender := h.sender hc
  send := h.send hc

/-- Out of OUT OF SERVICE the loader is READY (R184, R191). -/
theorem State.CallSound.loader_ready (h : s.CallSound) (hc : s.call.state ≠ .outOfService) : s.isl.loader = .ready :=
  Decidable.not_not.mp (mt h.loading hc)

/-- STOP SERVICE is pending in CLEARING and RELEASING only (R68, R70). -/
theorem State.CallSound.no_stop (h : s.CallSound) (h1 : s.call.state ≠ .clearing) (h2 : s.call.state ≠ .releasing) :
    s.call.stopPending = false :=
  Bool.eq_false_iff.mpr fun hp => (h.stopPending hp).elim h1 h2

/-- Where CALL may not stand it is not in the set (R162). -/
theorem State.CallSound.not_placed (h : s.CallSound) (hc : s.call.state.mayDemand = false) :
    s.motor.demand.call = false :=
  Bool.eq_false_iff.mpr fun hd => absurd (h.removed hd) (by simp [hc])

/-- An attempt may begin in IDLE and go on from OFFERED (R71 to R74). -/
theorem State.CallSound.canBegin (h : s.CallSound) (hc : s.call.state = .idle ∨ s.call.state = .offered) :
    s.CanBegin where
  line := h.lineRests (by rcases hc with hc | hc <;> simp [hc])
  loader := h.loader_ready (by rcases hc with hc | hc <;> simp [hc])
  motor := h.motor
  noStop := h.no_stop (by rcases hc with hc | hc <;> simp [hc]) (by rcases hc with hc | hc <;> simp [hc])

/-- A sound call out of CONNECTED, from the line at rest and what the new state of the Call Controller asks for. -/
theorem State.LineRests.callSound (hline : t.LineRests) (hc : t.call.state ≠ .connected)
    (timers : t.call.TimersInState) (record : t.call.record.state = t.call.state.recordState)
    (stopPending : t.call.stopPending = true → t.call.state = .clearing ∨ t.call.state = .releasing)
    (clearCause : t.call.state = .clearing → t.call.clearCause.isSome = true)
    (loading : t.isl.loader ≠ .ready → t.call.state = .outOfService) (motor : t.motor.followsDemand)
    (placed : t.call.state.mustDemand = true → t.motor.demand.call = true)
    (removed : t.motor.demand.call = true → t.call.state.mayDemand = true) : t.CallSound where
  timers := timers
  record := record
  stopPending := stopPending
  clearCause := clearCause
  receiver := ⟨fun _ => hc, fun _ => hline.receiver⟩
  guard := fun hg => by simp [hline.guard] at hg
  sender := fun _ => hline.sender
  send := fun _ => hline.send
  loading := loading
  motor := motor
  running := fun h => absurd h hc
  placed := placed
  removed := removed

/-! ## Rest: OUT OF SERVICE and IDLE -/

/-- OUT OF SERVICE without CALL is sound (R68, R70). -/
theorem State.LineRests.outOfService_callSound (hline : t.LineRests) (hc : t.call.state = .outOfService)
    (timers : t.call.TimersInState) (record : t.call.record.state = .ended) (hstop : t.call.stopPending = false)
    (motor : t.motor.followsDemand) (hcall : t.motor.demand.call = false) : t.CallSound :=
  hline.callSound (by simp [hc]) timers (by simp [hc, record, CallState.recordState]) (by simp [hstop])
    (by simp [hc]) (fun _ => hc) motor (by simp [hc, CallState.mustDemand]) (by simp [hcall])

/-- IDLE without CALL is sound once the loader is READY (R68). -/
theorem State.CanBegin.idle_callSound (h : t.CanBegin) (hc : t.call.state = .idle) (timers : t.call.TimersInState)
    (record : t.call.record.state = .ended) (hcall : t.motor.demand.call = false) : t.CallSound :=
  h.line.callSound (by simp [hc]) timers (by simp [hc, record, CallState.recordState]) (by simp [h.noStop])
    (by simp [hc]) (absurd h.loader) h.motor (by simp [hc, CallState.mustDemand]) (by simp [hcall])

/-- RELEASING is sound with CALL and without (R88, R162). -/
theorem State.LineRests.releasing_callSound (hline : t.LineRests) (hc : t.call.state = .releasing)
    (timers : t.call.TimersInState) (record : t.call.record.state = .ended) (loader : t.isl.loader = .ready)
    (motor : t.motor.followsDemand) : t.CallSound :=
  hline.callSound (by simp [hc]) timers (by simp [hc, record, CallState.recordState]) (by simp [hc])
    (by simp [hc]) (absurd loader) motor (by simp [hc, CallState.mustDemand]) (by simp [hc, CallState.mayDemand])

/-! ## Entries -/

/-- Entry to RELEASING times the space and nothing else (R88). -/
theorem State.enterReleasing_timersInState (s : State) : s.enterReleasing.call.TimersInState :=
  ⟨nofun, nofun, nofun, nofun, nofun, nofun, nofun, nofun, nofun, nofun, fun _ => rfl⟩

/-- R40: entry to CONNECTED enables the receiver. -/
theorem State.enterConnected_enabled (s : State) : s.enterConnected.lrx.state ≠ .disabled := by
  change (if s.lrx.level = .mark then LrxState.markRest
    else .spaceRun (s.copyTiming.clearLineCase.spaceRunFrom s.now none)) ≠ .disabled
  split <;> exact nofun

/-- R76: entry to CONNECTED with CALL placed, the motor RUNNING and the loader READY. -/
theorem State.enterConnected_callSound (loader : s.isl.loader = .ready) (motor : s.motor.followsDemand)
    (hrunning : s.motor.state = .running) (hcall : s.motor.demand.call = true) (hstop : s.call.stopPending = false) :
    s.enterConnected.CallSound where
  timers := ⟨nofun, nofun, nofun, nofun, nofun, fun _ => rfl, fun _ => rfl, nofun, nofun, nofun, nofun⟩
  record := rfl
  stopPending := fun h => absurd (hstop ▸ h) Bool.false_ne_true
  clearCause := nofun
  receiver := ⟨fun h => absurd h s.enterConnected_enabled, fun h => absurd rfl h⟩
  guard := fun _ => rfl
  sender := fun h => absurd rfl h
  send := fun h => absurd rfl h
  loading := absurd loader
  motor := motor
  running := fun _ => hrunning
  placed := fun _ => hcall
  removed := fun _ => rfl

/-- R72, R75: an attempt whose conditions hold connects. -/
theorem State.CallSound.tryConnect (h : s.CallSound) : s.tryConnect.CallSound := by
  unfold State.tryConnect
  split
  · next hready =>
    obtain ⟨hrunning, hstate⟩ := hready
    have hc : s.call.state = .answering ∨ s.call.state = .calling := hstate.imp_right And.left
    have hmotor : s.motor.state = .running := by simpa [State.motorRunning] using hrunning
    refine State.enterConnected_callSound (h.loader_ready ?_) h.motor hmotor (h.placed ?_) (h.no_stop ?_ ?_) <;>
      rcases hc with hc | hc <;> simp [hc, CallState.mustDemand]
  · exact h

/-- CALL placed for an attempt. -/
theorem State.CanBegin.demandCall (h : s.CanBegin) (on : Bool) : (s.demandCall on).CanBegin :=
  ⟨⟨h.line.receiver, h.line.guard, h.line.sender, h.line.send⟩, h.loader, State.setDemand_followsDemand h.motor _,
    h.noStop⟩

/-- An attempt in ANSWERING or CALLING with CALL placed is sound. -/
theorem State.CanBegin.attempt_callSound (h : t.CanBegin) (hc : t.call.state = .answering ∨ t.call.state = .calling)
    (timers : t.call.TimersInState) (record : t.call.record.state = t.call.state.recordState)
    (hcall : t.motor.demand.call = true) : t.CallSound :=
  h.line.callSound (by rcases hc with hc | hc <;> simp [hc]) timers record (by simp [h.noStop])
    (by rcases hc with hc | hc <;> simp [hc]) (absurd h.loader) h.motor (fun _ => hcall)
    (by rcases hc with hc | hc <;> simp [hc, CallState.mayDemand])

/-- R72, R73: entry to ANSWERING. -/
theorem State.CanBegin.enterAnswering (h : s.CanBegin) : s.enterAnswering.CallSound := by
  obtain ⟨⟨hreceiver, hguard, hsender, hsend⟩, loader, motor, noStop⟩ := h
  refine State.CallSound.tryConnect (State.CanBegin.attempt_callSound (State.CanBegin.demandCall ?_ true)
    (.inl rfl) ?_ rfl rfl)
  · exact ⟨⟨hreceiver, hguard, hsender, hsend⟩, loader, motor, noStop⟩
  · exact ⟨nofun, fun _ => .inr rfl, nofun, nofun, nofun, nofun, nofun, nofun, nofun, nofun, nofun⟩

/-- R74: entry to CALLING. -/
theorem State.CanBegin.enterCalling (h : s.CanBegin) : s.enterCalling.CallSound := by
  obtain ⟨⟨hreceiver, hguard, hsender, hsend⟩, loader, motor, noStop⟩ := h
  refine State.CallSound.tryConnect (State.CanBegin.attempt_callSound ?_ (.inr rfl) ?_ rfl rfl)
  · exact ⟨⟨hreceiver, hguard, hsender, hsend⟩, loader, State.setDemand_followsDemand motor _, noStop⟩
  · exact ⟨nofun, nofun, nofun, fun _ => rfl, fun _ => rfl, nofun, nofun, nofun, nofun, nofun, nofun⟩

/-- R72: entry to OFFERED, where CALL does not stand. -/
theorem State.CanBegin.enterOffered (h : s.CanBegin) (hcall : s.motor.demand.call = false) :
    s.enterOffered.CallSound := by
  obtain ⟨⟨hreceiver, hguard, hsender, hsend⟩, loader, motor, noStop⟩ := h
  refine State.LineRests.callSound ⟨hreceiver, hguard, hsender, hsend⟩ nofun ?_ rfl
    (fun hp => absurd (noStop ▸ hp) Bool.false_ne_true) nofun (absurd loader) motor nofun
    (fun hd => absurd (hcall ▸ hd) Bool.false_ne_true)
  exact ⟨nofun, nofun, fun _ => rfl, nofun, nofun, nofun, nofun, nofun, nofun, nofun, nofun⟩

/-- R73, R75, R88: an attempt that ends without CLEARING goes to RELEASING. -/
theorem State.LineRests.declineOffer (h : s.LineRests) (loader : s.isl.loader = .ready)
    (motor : s.motor.followsDemand) (o : CallOutcome) : ((s.endRecord o).enterReleasing).CallSound :=
  State.LineRests.releasing_callSound ⟨h.receiver, h.guard, h.sender, h.send⟩ rfl
    (State.enterReleasing_timersInState _) rfl loader motor

/-- R73, R75, R84: the same with its CLEARED notice. -/
theorem State.CallSound.failAttempt (h : s.CallSound) (hc : s.call.state = .answering ∨ s.call.state = .calling)
    (o : CallOutcome) : (s.failAttempt o).CallSound := by
  obtain ⟨hreceiver, hguard, hsender, hsend⟩ := h.lineRests (by rcases hc with hc | hc <;> simp [hc])
  exact State.LineRests.releasing_callSound ⟨hreceiver, hguard, hsender, hsend⟩ rfl
    (State.enterReleasing_timersInState _) rfl (h.loader_ready (by rcases hc with hc | hc <;> simp [hc])) h.motor

/-! ## Clearing and releasing -/

/-- R86: the end of CLEARING. -/
theorem State.CallSound.endClearing (h : s.CallSound) (hc : s.call.state = .clearing) : s.endClearing.CallSound := by
  obtain ⟨cause, hcause⟩ := Option.isSome_iff_exists.mp (h.clearCause hc)
  obtain ⟨hreceiver, hguard, hsender, hsend⟩ := h.lineRests (by simp [hc])
  have hended : (((s.endRecord cause).clearedNotice cause s.call.record.sent s.call.record.received
      s.call.sendDiscarded).enterReleasing).CallSound :=
    State.LineRests.releasing_callSound ⟨hreceiver, hguard, hsender, hsend⟩ rfl
      (State.enterReleasing_timersInState _) rfl (h.loader_ready (by simp [hc])) h.motor
  rw [State.endClearing, hcause]
  exact hended.keep (.still (by simp) (by simp))

/-- R85, steps 1 to 4, with CALL placed. -/
theorem State.leaveLine_callSound (cause : CallOutcome) (loader : s.isl.loader = .ready)
    (motor : s.motor.followsDemand) (hcall : s.motor.demand.call = true) : (s.leaveLine cause).CallSound := by
  exact State.LineRests.callSound ⟨rfl, rfl, rfl, rfl⟩ nofun (.of_stopped rfl) rfl (fun _ => .inl rfl) (fun _ => rfl)
    (absurd loader) motor (fun _ => hcall) (fun _ => rfl)

@[simp] theorem State.endFiling_call (s : State) (cause : FilingCause) : (s.endFiling cause).call = s.call := by
  unfold State.endFiling
  dsimp only
  split <;> rfl

@[simp] theorem State.endFiling_lineParts (s : State) (cause : FilingCause) :
    (s.endFiling cause).lineParts = s.lineParts := by
  unfold State.endFiling
  dsimp only
  split <;> rfl

/-- R85, R86: the timers of CLEARING run in it. -/
theorem State.CallSound.timeClearing (h : s.CallSound) (hc : s.call.state = .clearing) : s.timeClearing.CallSound := by
  refine h.keep (.onCall ⟨rfl, rfl, rfl, rfl, fun timers => ?_⟩ rfl)
  obtain ⟨h1, h2, h3, h4, h5, h6, h7, h8, -, -, h11⟩ := timers
  exact ⟨h1, h2, h3, h4, h5, h6, h7, h8, fun _ => hc, fun _ => hc, h11⟩

/-- R85: the steps of entry to CLEARING, with CALL placed. -/
theorem State.beginClearing_callSound (cause : CallOutcome) (loader : s.isl.loader = .ready)
    (motor : s.motor.followsDemand) (hcall : s.motor.demand.call = true) : (s.beginClearing cause).CallSound := by
  have hfiled : ((s.leaveLine cause).endFiling .clear).CallSound :=
    (State.leaveLine_callSound cause loader motor hcall).keep (.still (by simp) (State.endFiling_lineParts ..))
  have hmarked : ((s.leaveLine cause).endFiling .clear).markLineRelease.closeEpisode.CallSound :=
    hfiled.keep (.still (by simp) (by simp [State.closeEpisode]))
  exact hmarked.timeClearing (by simp [State.leaveLine, State.emptySend])

/-- R85, R86: entry to CLEARING, and what follows it at once. -/
theorem State.enterClearing_callSound (cause : CallOutcome) (loader : s.isl.loader = .ready)
    (motor : s.motor.followsDemand) (hcall : s.motor.demand.call = true) : (s.enterClearing cause).CallSound := by
  have hbegun := State.beginClearing_callSound cause loader motor hcall
  unfold State.enterClearing
  dsimp only
  split
  · exact hbegun.endClearing (by simp [State.beginClearing, State.timeClearing, State.leaveLine, State.emptySend])
  · exact hbegun

/-- R88: the end of RELEASING. -/
theorem State.CallSound.endReleasing (h : s.CallSound) (hc : s.call.state = .releasing) : s.endReleasing.CallSound := by
  obtain ⟨hreceiver, hguard, hsender, hsend⟩ := h.lineRests (by simp [hc])
  have record : s.call.record.state = .ended := by rw [h.record, hc]; rfl
  have motor := State.setDemand_followsDemand h.motor { s.motor.demand with call := false }
  unfold State.endReleasing
  dsimp only
  split
  · exact State.LineRests.outOfService_callSound ⟨hreceiver, hguard, hsender, hsend⟩ rfl
      (.of_stopped rfl) record rfl motor rfl
  · next hstop =>
    exact State.CanBegin.idle_callSound ⟨⟨hreceiver, hguard, hsender, hsend⟩, h.loader_ready (by simp [hc]), motor,
      Bool.eq_false_iff.mpr hstop⟩ rfl (.of_stopped rfl) record rfl

end Sound

end Sys2Proof.Machine
end

section
/-! SUPPORT. The rows of the line, of the call timers and of the motor leave a sound call (R39 to R48, R56 to R60, R71
to R88, R163). -/

namespace Sys2Proof.Machine

/-! ## The Line Receiver -/

section Receiver
variable (s : State)

theorem State.poorCharacter_keepsCall : s.KeepsCall s.poorCharacter := by
  unfold State.poorCharacter
  dsimp only
  split <;> exact .still rfl rfl

theorem State.recordDelivery_keepsCall (k : Quality) : s.KeepsCall (s.recordDelivery k) := by
  unfold State.recordDelivery
  dsimp only
  split
  · exact .still rfl rfl
  · exact (State.poorCharacter_keepsCall _).after rfl rfl

theorem State.handOn_keepsCall (c : Cell) (enquiry : Bool) : s.KeepsCall (s.handOn c enquiry) :=
  ((s.present_keepsCall .received c).trans (State.reportLoss_keepsCall _ _)).trans (State.tellDelivered_keepsCall _ _ _)

theorem State.receiveCase_keepsCall (c : Code) : s.KeepsCall (s.receiveCase c) := .onCall (.withRecord rfl rfl) rfl

theorem State.deliverReceived_keepsCall (code : Code) (k : Quality) : s.KeepsCall (s.deliverReceived code k) :=
  ((s.recordDelivery_keepsCall k).trans (State.receiveCase_keepsCall _ code)).trans (State.handOn_keepsCall _ _ _)

theorem State.deliverSubstituted_keepsCall : s.KeepsCall s.deliverSubstituted :=
  (s.recordDelivery_keepsCall .substituted).trans (State.handOn_keepsCall _ _ _)

theorem State.discardPending_keepsCall (char : Option PendingCharacter) : s.KeepsCall (s.discardPending char) := by
  unfold State.discardPending
  split
  · exact (State.poorCharacter_keepsCall _).after rfl rfl
  · exact .refl s

variable {s}

/-- An enabled receiver goes on to another enabled state, and may start its guard (R40, R57). -/
theorem State.KeepsCall.onReceiver {t : State} (hs : s.lrx.state ≠ .disabled) (ht : t.lrx.state ≠ .disabled)
    (hp : t = { s with lrx := t.lrx }) : s.KeepsCall t := by
  rw [hp]
  exact {
    call := .refl _
    receiver := ⟨(absurd · ht), (absurd · hs)⟩
    guard := fun _ => .inr hs
    sender := fun _ => rfl
    send := fun _ => id
    loader := id
    motor := id
    member := rfl
    running := fun _ _ => id }

theorem State.reachBreak_keepsCall (hs : s.lrx.state ≠ .disabled) (r : SpaceRun) : s.KeepsCall (s.reachBreak r) := by
  have hrun : s.KeepsCall (s.receiverState (.spaceRun { r with char := none, broken := true })) :=
    .onReceiver hs nofun rfl
  have hdiscarded := hrun.trans (State.discardPending_keepsCall _ r.char)
  exact hdiscarded.trans ((State.takeBreak_keepsCall _).after rfl rfl)

theorem State.ensureBreak_keepsCall (hs : s.lrx.state ≠ .disabled) (r : SpaceRun) : s.KeepsCall (s.ensureBreak r) := by
  unfold State.ensureBreak
  split
  · exact .refl s
  · exact State.reachBreak_keepsCall hs r

/-- R80, R84: a CLEAR event clears a connection. -/
theorem State.CallSound.takeClear (h : s.CallSound) : s.takeClear.CallSound := by
  unfold State.takeClear
  split
  · next hc =>
    exact State.enterClearing_callSound .farEnd (h.loader_ready (by simp [hc])) h.motor
      (h.placed (by simp [hc, CallState.mustDemand]))
  · exact h

theorem State.CallSound.markInRun (h : s.CallSound) (hs : s.lrx.state ≠ .disabled) (r : SpaceRun) (te : Nat) :
    (s.markInRun r te).CallSound := by
  have hbroken := State.ensureBreak_keepsCall hs r
  have hrest : ∀ t : State, t.lrx.state ≠ .disabled → t.KeepsCall (t.receiverState .markRest) := fun t ht =>
    .onReceiver ht nofun rfl
  unfold State.markInRun
  dsimp only
  split
  · split
    · exact h.keep ((hrest s hs).trans (State.deliverSubstituted_keepsCall _))
    · exact h.keep (hrest s hs)
  · split
    · exact (h.keep hbroken).takeClear
    · exact h.keep ((hbroken.trans (hrest _ (mt hbroken.receiver.mp hs))).trans (State.takeBreakEnd_keepsCall _))

theorem State.CallSound.receiverChange (h : s.CallSound) (level : Level) (te : Nat) :
    (s.receiverChange level te).CallSound := by
  unfold State.receiverChange
  split
  · exact h
  · next hs =>
    have hon : s.lrx.state ≠ .disabled := by simp [hs]
    split
    · rw [State.startEdge_eq]
      exact h.keep (.onReceiver hon nofun rfl)
    · exact h
  · next a hs => exact h.keep (.onReceiver (by simp [hs]) nofun rfl)
  · next r hs =>
    split
    · exact h.markInRun (by simp [hs]) r te
    · exact h

/-- A filtered change starts and stops the timers of the state the Call Controller is in (R71, R73, R75, R86, R88). -/
theorem State.callLevelChange_keepsCall (level : Level) (te : Nat) : s.KeepsCall (s.callLevelChange level te) := by
  refine .onCall ⟨by simp, ?_, ?_, ?_, ?_⟩ (by rw [State.callLevelChange_eq]; rfl)
  · unfold State.callLevelChange
    split <;> rfl
  · unfold State.callLevelChange
    split <;> rfl
  · unfold State.callLevelChange
    split <;> rfl
  · rintro ⟨h1, h2, h3, h4, h5, h6, h7, h8, h9, h10, h11⟩
    unfold State.callLevelChange
    split
    · next hc => exact ⟨fun _ => hc, h2, h3, h4, h5, h6, h7, h8, h9, h10, h11⟩
    · next hc => exact ⟨h1, fun _ => .inl hc, h3, h4, h5, h6, h7, h8, h9, h10, h11⟩
    · next hc => exact ⟨h1, fun _ => .inr hc, h3, h4, h5, h6, h7, h8, h9, h10, h11⟩
    · next hc => exact ⟨h1, h2, h3, h4, fun _ => hc, h6, h7, h8, h9, h10, h11⟩
    · next hc => exact ⟨h1, h2, h3, h4, h5, h6, h7, h8, h9, fun _ => hc, h11⟩
    · next hc => exact ⟨h1, h2, h3, h4, h5, h6, h7, h8, h9, h10, fun _ => hc⟩
    · exact ⟨h1, h2, h3, h4, h5, h6, h7, h8, h9, h10, h11⟩
    · exact ⟨h1, h2, h3, h4, h5, h6, h7, h8, h9, h10, h11⟩

end Receiver

/-! ## The rows of the line -/

section LineRows
variable {s : State} (h : s.CallSound)
include h

/-- The clock goes on. -/
theorem State.CallSound.advance (t : Nat) : (s.advance t).CallSound := h.keep (.still rfl rfl)

theorem rxFilteredChange_callSound (level : Level) (te : Nat) : (rxFilteredChange level te s).CallSound := by
  unfold rxFilteredChange
  split
  · exact h
  · have hconfirmed : (s.confirmLevel level te).CallSound := h.keep (.still rfl rfl)
    exact ((hconfirmed.keep (State.callLevelChange_keepsCall level te)).receiverChange level te).carryOn

/-- A sample is read while a character is in assembly, so with the receiver enabled (R41). -/
theorem State.CallSound.atSample (k : Nat) {act : State → Assembly → State}
    (hact : ∀ (t : State) a, t.lrx.state ≠ .disabled → t.KeepsCall (act t a)) : (s.atSample k act).CallSound := by
  unfold State.atSample
  split
  · next a hs =>
    split
    · exact (h.advance _).keep (hact _ a (by simp [hs]))
    · exact h
  · exact h

theorem startSample_callSound : (startSample s).CallSound := by
  refine h.atSample 0 fun t a ht => ?_
  by_cases hmark : levelAt a.changes (sampleTime a.t0 t.timing.unit 0) = .mark
  · rw [State.readStart_of_mark hmark]
    exact State.KeepsCall.carryOn (.onReceiver ht nofun rfl)
  · rw [State.readStart_of_space hmark]
    exact .onReceiver ht nofun rfl

theorem unitSample_callSound : (unitSample s).CallSound := by
  unfold unitSample
  split
  · split
    · exact h.atSample _ fun t a ht => .onReceiver ht nofun rfl
    · exact h
  · exact h

theorem stopSample_callSound : (stopSample s).CallSound := by
  refine h.atSample 6 fun t a ht => ?_
  by_cases hmark : levelAt a.changes (sampleTime a.t0 t.timing.unit 6) = .mark
  · rw [State.readStop_of_mark hmark]
    refine State.KeepsCall.carryOn (State.KeepsCall.trans ?_ (State.deliverReceived_keepsCall _ _ _))
    exact .onReceiver ht nofun rfl
  · rw [State.readStop_of_space hmark]
    exact .onReceiver ht nofun rfl

theorem breakThreshold_callSound : (breakThreshold s).CallSound := by
  unfold breakThreshold
  split
  · next r hs =>
    split
    · exact h
    · exact ((h.advance _).keep (State.reachBreak_keepsCall (by simp [hs]) r)).carryOn
  · exact h

theorem clearThreshold_callSound : (clearThreshold s).CallSound := by
  unfold clearThreshold
  split
  · next r hs => exact ((h.advance _).keep (State.ensureBreak_keepsCall (by simp [hs]) r)).takeClear.carryOn
  · exact h

/-- What a timer does at its due tick, on a clock that has gone on (log 1). -/
theorem State.CallSound.onTimer {timer : Option Nat} {act : State → State}
    (hact : ∀ due, timer = some due → ∀ t : State, t.CallSound → t.call = s.call → t.lrx = s.lrx → (act t).CallSound) :
    (s.onTimer timer act).CallSound := by
  unfold State.onTimer
  split
  · next due => exact hact due rfl _ (h.advance due) rfl rfl
  · exact h

theorem turnaroundGuardExpiry_callSound : (turnaroundGuardExpiry s).CallSound := by
  refine h.onTimer fun due hdue t ht hcall hlrx => ht.keep (State.KeepsCall.trans ?_ (State.sendChoice_keepsCall _))
  have hconnected : t.call.state = .connected := by
    rw [hcall]
    exact h.guard (by simp [hdue])
  exact .onLine hconnected (.refl _) .rfl nofun rfl rfl

/-- Only a connected sender keys (R55, R65). -/
theorem State.CallSound.connected_of_activity (ha : s.ltx.activity ≠ .idle) : s.call.state = .connected :=
  Decidable.not_not.mp fun hc => ha (by rw [h.sender hc]; rfl)

omit h in
/-- In CONNECTED a sent character is counted, restarts the idle timer, and may open the capture window (R79, R80). -/
theorem State.reportSent_keepsCall (hs : s.call.state = .connected) (k : Keying) :
    s.KeepsCall (if k.source = .enquiry then s.tellSent.openCapture else s.tellSent) := by
  rw [State.reportSent_eq]
  exact .onCall (.connection hs rfl rfl) rfl

theorem characterSent_callSound : (characterSent s).CallSound := by
  unfold characterSent
  split
  · next k hk =>
    have hs : s.call.state = .connected := h.connected_of_activity (by simp [hk])
    have hdone : s.KeepsCall ((s.advance k.due).keyingDone k) :=
      .onLine hs (.withRecord rfl rfl) .rfl .inl rfl rfl
    have hpresented := hdone.trans (State.present_keepsCall _ .sentCopy k.cell)
    exact (h.keep (hpresented.trans (State.reportSent_keepsCall (hpresented.call.state.trans hs) k))).carryOn
  · exact h

theorem breakKeyingEnd_callSound : (breakKeyingEnd s).CallSound := by
  unfold breakKeyingEnd
  split
  · next due hk =>
    have hs : s.call.state = .connected := h.connected_of_activity (by simp [hk])
    refine h.keep (State.KeepsCall.trans ?_ (State.sendChoice_keepsCall _))
    exact .onSender hs rfl rfl rfl rfl
  · exact h

end LineRows

/-! ## The rows of the call timers -/

section CallRows
variable {s : State} (h : s.CallSound)
include h

/-- R72: a recognised call. -/
theorem State.CallSound.recognise (hc : s.call.state = .idle) : s.recognise.CallSound := by
  have hbegin := h.canBegin (.inl hc)
  obtain ⟨⟨hreceiver, hguard, hsender, hsend⟩, loader, motor, noStop⟩ := hbegin
  have hopened : ∀ state, (s.openRecord .incoming state).CanBegin := fun _ =>
    ⟨⟨hreceiver, hguard, hsender, hsend⟩, loader, motor, noStop⟩
  unfold State.recognise
  split
  · exact (hopened .answering).enterAnswering
  · exact (hopened .offered).enterOffered (h.not_placed (by rw [hc]; rfl))
  · exact (hopened .offered).line.declineOffer loader motor .declined

theorem callRecognition_callSound : (callRecognition s).CallSound :=
  h.onTimer fun due hdue t ht hcall _ =>
    (ht.recognise (by rw [hcall]; exact h.timers.recognition (by simp [hdue]))).carryOn

/-- R73: a caller has withdrawn. -/
theorem State.CallSound.withdrawn : s.withdrawn.CallSound := by
  unfold State.withdrawn
  split
  · next hc =>
    obtain ⟨⟨hreceiver, hguard, hsender, hsend⟩, loader, motor, noStop⟩ := h.canBegin (.inr hc)
    exact State.CanBegin.idle_callSound ⟨⟨hreceiver, hguard, hsender, hsend⟩, loader, motor, noStop⟩ rfl
      (.of_stopped rfl) rfl (h.not_placed (by rw [hc]; rfl))
  · next hc => exact h.failAttempt (.inl hc) .withdrawn
  · exact h

theorem withdrawal_callSound : (withdrawal s).CallSound :=
  h.onTimer fun _ _ _ ht _ _ => ht.withdrawn.carryOn

theorem State.CallSound.declineOffer (hc : s.call.state = .offered) : s.declineOffer.CallSound := by
  have hbegin := h.canBegin (.inr hc)
  exact hbegin.line.declineOffer hbegin.loader hbegin.motor .declined

theorem offerTimeout_callSound : (offerTimeout s).CallSound := by
  refine h.onTimer fun due hdue t ht hcall _ => State.CallSound.carryOn ?_
  have hc : t.call.state = .offered := by rw [hcall]; exact h.timers.offer (by simp [hdue])
  split
  · exact (ht.canBegin (.inr hc)).enterAnswering
  · exact ht.declineOffer hc

theorem confirmation_callSound : (confirmation s).CallSound := h.onTimer fun _ _ _ ht _ _ => ht.tryConnect.carryOn

theorem confirmTimeout_callSound : (confirmTimeout s).CallSound :=
  h.onTimer fun _ hdue _ ht hcall _ =>
    (ht.failAttempt (.inr (by rw [hcall]; exact h.timers.confirm (by simp [hdue]))) .noConfirm).carryOn

/-- A station clear begins where CALL stands (R84). -/
theorem State.CallSound.enterClearing (hc : s.call.state = .connected ∨ s.call.state = .calling)
    (cause : CallOutcome) : (s.enterClearing cause).CallSound :=
  State.enterClearing_callSound cause (h.loader_ready (by rcases hc with hc | hc <;> simp [hc])) h.motor
    (h.placed (by rcases hc with hc | hc <;> rw [hc] <;> rfl))

theorem idleTimeout_callSound : (idleTimeout s).CallSound :=
  h.onTimer fun _ hdue _ ht hcall _ =>
    (ht.enterClearing (.inl (by rw [hcall]; exact h.timers.idle (by simp [hdue]))) .idle).carryOn

theorem enquiryDelayExpiry_callSound : (enquiryDelayExpiry s).CallSound := by
  refine h.onTimer fun due hdue t ht hcall _ => ht.keep (State.KeepsCall.trans ?_ (State.sendChoice_keepsCall _))
  have hs : t.call.state = .connected := by rw [hcall]; exact h.timers.enquiryDelay (by simp [hdue])
  exact .onLine hs (.connection hs rfl rfl) .rfl .inl rfl rfl

theorem captureWindowExpiry_callSound : (captureWindowExpiry s).CallSound := by
  unfold captureWindowExpiry
  split
  · next w hw =>
    have hs : s.call.state = .connected := h.timers.capture (by simp [hw])
    exact h.keep (.onCall (.connection hs rfl rfl) rfl)
  · exact h

theorem clearingEnd_callSound : (clearingEnd s).CallSound :=
  h.onTimer fun _ hdue _ ht hcall _ =>
    (ht.endClearing (by rw [hcall]; exact h.timers.clearSpace (by simp [hdue]))).carryOn

theorem clearingTimeout_callSound : (clearingTimeout s).CallSound :=
  h.onTimer fun _ hdue _ ht hcall _ =>
    (ht.endClearing (by rw [hcall]; exact h.timers.clearing (by simp [hdue]))).carryOn

theorem releasingEnd_callSound : (releasingEnd s).CallSound :=
  h.onTimer fun _ hdue _ ht hcall _ =>
    (ht.endReleasing (by rw [hcall]; exact h.timers.releasing (by simp [hdue]))).carryOn

/-! ## The motor's timers -/

theorem runUpExpiry_callSound : (runUpExpiry s).CallSound := by
  unfold runUpExpiry
  split
  · next due hm =>
    have hup : (s.advance due).motor.state ≠ .running := by simp [hm]
    dsimp only
    split
    · next hempty => exact (h.advance due).keep (.onMotor (fun _ => hempty) rfl hup)
    · next hplaced =>
      have hrunning : State.CallSound { s.advance due with motor := { s.motor with state := .running } } :=
        (h.advance due).keep (.onMotor (fun _ => Bool.eq_false_iff.mpr hplaced) rfl hup)
      exact hrunning.tryConnect.carryOn
  · exact h

theorem runOnExpiry_callSound : (runOnExpiry s).CallSound := by
  unfold runOnExpiry
  split
  · next due hm =>
    refine (h.advance due).keep (.onMotor (fun hmotor => ?_) rfl (by simp [hm]))
    simpa [Motor.followsDemand, hm] using hmotor
  · exact h

end CallRows

end Sys2Proof.Machine
end

section
/-! SUPPORT. The rows of the mechanisms and of the keyboard keep a sound call: SEND takes a key's cell in CONNECTED only
(R151), and the sender its requests (R154, R155). -/

namespace Sys2Proof.Machine

variable (s : State)

/-! ## The rows of the mechanisms -/

theorem selectEnd_keepsCall : s.KeepsCall (selectEnd s) := by
  unfold selectEnd State.beginStrike
  dsimp only
  repeat' split
  all_goals exact .still rfl rfl

theorem strikeEnd_keepsCall : s.KeepsCall (strikeEnd s) := by
  unfold strikeEnd
  repeat' split
  all_goals exact .still rfl rfl

theorem punchPulseEnd_keepsCall : s.KeepsCall (punchPulseEnd s) := by
  unfold punchPulseEnd
  repeat' split
  all_goals exact .still rfl rfl

theorem feedPulseEnd_keepsCall : s.KeepsCall (feedPulseEnd s) := by
  unfold feedPulseEnd
  repeat' split
  all_goals exact .still rfl rfl

theorem State.finishPrintCycle_keepsCall (c : PrintCycle) (fault : Bool) :
    s.KeepsCall (s.finishPrintCycle c fault) := by
  unfold State.finishPrintCycle
  dsimp only
  repeat' split
  all_goals exact .still (by simp) (by simp)

theorem State.finishPunchCycle_keepsCall (c : PunchCycle) (fault : Bool) :
    s.KeepsCall (s.finishPunchCycle c fault) := by
  unfold State.finishPunchCycle
  dsimp only
  repeat' split
  all_goals exact .still (by simp) (by simp)

theorem State.report_keepsCall (m : Mechanism) (fault : Bool) : s.KeepsCall (s.report m fault) := by
  unfold State.report
  repeat' split
  · exact (s.finishPrintCycle_keepsCall _ fault).carryOn
  · exact .refl s
  · exact (s.finishPunchCycle_keepsCall _ fault).carryOn
  · exact .refl s

theorem State.settleAt_keepsCall (m : Mechanism) (elapsed : Nat) (phase : SettlePhase) :
    s.KeepsCall (s.settleAt m elapsed phase) := by
  cases m <;> exact .still rfl rfl

theorem State.endSettle_keepsCall (m : Mechanism) (elapsed : Nat) (fault : Bool) :
    s.KeepsCall (s.endSettle m elapsed fault) :=
  (s.settleAt_keepsCall m elapsed .idle).trans (State.report_keepsCall _ m fault)

theorem settleFixedEnd_keepsCall (m : Mechanism) : s.KeepsCall (settleFixedEnd m s) := by
  unfold settleFixedEnd
  dsimp only
  split
  · exact s.endSettle_keepsCall ..
  · exact .refl s

theorem settleSampledReading_keepsCall (m : Mechanism) (busy : Bool) : s.KeepsCall (settleSampledReading m busy s) := by
  unfold settleSampledReading
  dsimp only
  repeat' split
  · exact s.settleAt_keepsCall ..
  · exact s.endSettle_keepsCall ..
  · exact .refl s

theorem settleAddEnd_keepsCall (m : Mechanism) : s.KeepsCall (settleAddEnd m s) := by
  unfold settleAddEnd
  dsimp only
  split
  · exact s.endSettle_keepsCall ..
  · exact .refl s

theorem extendedReading_keepsCall (m : Mechanism) (busy : Bool) : s.KeepsCall (extendedReading m busy s) := by
  unfold extendedReading
  dsimp only
  repeat' split
  · exact .refl s
  · exact s.endSettle_keepsCall ..
  · exact s.endSettle_keepsCall ..
  · exact s.settleAt_keepsCall ..

/-- A timer keeps the call when what it does keeps it (log 1). -/
theorem State.onTimer_keepsCall {timer : Option Nat} {act : State → State} (hact : ∀ t : State, t.KeepsCall (act t)) :
    s.KeepsCall (s.onTimer timer act) := by
  unfold State.onTimer
  split
  · exact (hact _).after rfl rfl
  · exact .refl s

theorem bellTimerExpiry_keepsCall : s.KeepsCall (bellTimerExpiry s) := s.onTimer_keepsCall fun _ => .still rfl rfl

theorem holdWaitExpiry_keepsCall : s.KeepsCall (holdWaitExpiry s) := by
  unfold holdWaitExpiry
  split
  · dsimp only
    split
    · exact (State.carryOn_keepsCall _).after rfl rfl
    · exact .still rfl rfl
  · exact .refl s

theorem releaseTimerExpiry_keepsCall : s.KeepsCall (releaseTimerExpiry s) :=
  s.onTimer_keepsCall fun _ => (State.carryOn_keepsCall _).after rfl rfl

theorem State.paperOutTaken_keepsCall (asserted : Bool) (te : Nat) : s.KeepsCall (s.paperOutTaken asserted te) := by
  have hgone : s.KeepsCall s.paperGone := (State.carryOn_keepsCall _).after (by simp) (by simp)
  unfold State.paperOutTaken
  split
  · split
    · exact hgone
    · exact .still rfl rfl
  · split
    · exact .refl s
    · exact .still rfl rfl

theorem paperOutChange_keepsCall (asserted : Bool) (te : Nat) : s.KeepsCall (paperOutChange asserted te s) := by
  unfold paperOutChange
  split
  · exact (State.paperOutTaken_keepsCall _ asserted te).after rfl rfl
  · exact .refl s

theorem paperRestoreExpiry_keepsCall : s.KeepsCall (paperRestoreExpiry s) :=
  s.onTimer_keepsCall fun _ => (State.carryOn_keepsCall _).after rfl rfl

theorem paperLowChange_keepsCall (asserted : Bool) (te : Nat) : s.KeepsCall (paperLowChange asserted te s) := by
  unfold paperLowChange
  split <;> exact .still rfl rfl

theorem State.tapeOutTaken_keepsCall (asserted : Bool) (te : Nat) : s.KeepsCall (s.tapeOutTaken asserted te) := by
  have hgone : s.KeepsCall s.tapeGone := (State.carryOn_keepsCall _).after (by simp) (by simp)
  unfold State.tapeOutTaken
  split
  · split
    · exact hgone
    · exact .still rfl rfl
  · split
    · exact .refl s
    · exact .still rfl rfl

theorem tapeOutChange_keepsCall (asserted : Bool) (te : Nat) : s.KeepsCall (tapeOutChange asserted te s) := by
  unfold tapeOutChange
  split
  · exact (State.tapeOutTaken_keepsCall _ asserted te).after rfl rfl
  · exact .refl s

theorem tapeRestoreExpiry_keepsCall : s.KeepsCall (tapeRestoreExpiry s) :=
  s.onTimer_keepsCall fun _ => (State.carryOn_keepsCall _).after rfl rfl

theorem tapeLowChange_keepsCall (asserted : Bool) (te : Nat) : s.KeepsCall (tapeLowChange asserted te s) := by
  unfold tapeLowChange
  split <;> exact .still rfl rfl

theorem inputFilterStart_keepsCall (input : InputPin) (asserted : Bool) :
    s.KeepsCall (inputFilterStart input asserted s) := by
  unfold inputFilterStart
  split
  · exact (State.carryOn_keepsCall _).after (by simp) (by simp)
  · exact .refl s

/-! ## The replay -/

theorem State.replayCell_keepsCall (t : ReplayTarget) (c : Cell) : s.KeepsCall (s.replayCell t c) := by
  cases t <;>
    exact .still (by simp [State.replayCell, State.appendPunch]) (by simp [State.replayCell, State.appendPunch])

theorem State.advanceReplay_keepsCall (r : Replay) (total : Nat) : s.KeepsCall (s.advanceReplay r total) := by
  unfold State.advanceReplay
  split <;> exact .still rfl rfl

theorem replayCopy_keepsCall : s.KeepsCall (replayCopy s) := by
  unfold replayCopy
  repeat' split
  · exact .refl s
  · exact .refl s
  · exact ((s.replayCell_keepsCall _ _).trans (State.advanceReplay_keepsCall _ _ _)).carryOn
  · exact .refl s

/-! ## The keyboard -/

/-- Keys go to the line in CONNECTED only (R151). -/
theorem State.keysToLine_connected {s : State} (h : s.keysToLine = true) : s.call.state = .connected := by
  simp only [State.keysToLine, Bool.and_eq_true, beq_iff_eq] at h
  exact h.2

/-- Cells appended to another spool leave SEND (R7). -/
@[simp] theorem Store.appendAll_send (st : Store) {n : SpoolName} (h : n ≠ .send) (es : List Entry) :
    (st.appendAll n es).send = st.send := by
  unfold Store.appendAll
  induction es generalizing st with
  | nil => rfl
  | cons e es ih => exact (ih _).trans (st.append_send h e)

/-- A batch to another spool leaves SEND (R7). -/
theorem Store.batch_send {st st' : Store} {n : SpoolName} (h : n ≠ .send) {es : List Entry}
    (hok : st.batch n es = .ok st') : st'.send = st.send := by
  rcases st.batch_cases n es with ⟨-, heq⟩ | ⟨-, heq⟩ <;> rw [heq] at hok <;> cases hok
  exact st.appendAll_send h es

theorem State.keyToSend_keepsCall (hs : s.call.state = .connected) (cell : Cell) : s.KeepsCall (s.keyToSend cell) := by
  unfold State.keyToSend
  split
  · exact .onSender hs rfl rfl rfl rfl
  · exact .still rfl rfl

theorem State.keyToLocal_keepsCall (cell : Cell) : s.KeepsCall (s.keyToLocal cell) := by
  unfold State.keyToLocal
  dsimp only
  split <;> exact (s.present_keepsCall .keyedLocal cell).then rfl rfl

theorem State.pressCode_keepsCall (c : Code) (requirement : Option Case) : s.KeepsCall (s.pressCode c requirement) := by
  unfold State.pressCode
  dsimp only
  split
  · next h => exact s.keyToSend_keepsCall (State.keysToLine_connected h) _
  · exact s.keyToLocal_keepsCall _

theorem State.changeMode_keepsCall (mode : KeyboardMode) : s.KeepsCall (s.changeMode mode) := by
  unfold State.changeMode
  exact .still (by simp) (by simp)

theorem State.pressHereIs_keepsCall : s.KeepsCall s.pressHereIs := by
  unfold State.pressHereIs
  split
  · next h => exact .onSender (State.keysToLine_connected h) (by simp) (by simp) (by simp) (by simp)
  split
  · exact .refl s
  split
  · next st hok => exact .still rfl (by simp [Store.batch_send (n := .pLocal) nofun hok])
  · exact .still rfl rfl

theorem State.pressBreak_keepsCall : s.KeepsCall s.pressBreak := by
  unfold State.pressBreak
  split
  · next h => exact .onSender (State.keysToLine_connected h) rfl rfl rfl rfl
  · exact .still rfl rfl

theorem State.pressMode_keepsCall : s.KeepsCall s.pressMode := by
  unfold State.pressMode
  split
  · exact s.changeMode_keepsCall .line
  · exact s.changeMode_keepsCall .loc
  · exact .refl s

theorem State.pressFeed_keepsCall : s.KeepsCall s.pressFeed := by
  unfold State.pressFeed
  split <;> exact .still (by simp) (by simp)

theorem State.pressKey_keepsCall (entry : KeyEntry) : s.KeepsCall (s.pressKey entry) := by
  unfold State.pressKey
  split
  · exact .refl s
  · exact s.pressCode_keepsCall _ _
  · exact s.pressHereIs_keepsCall
  · exact s.pressBreak_keepsCall
  · exact s.pressMode_keepsCall
  · exact s.pressFeed_keepsCall

theorem State.actOnPress_keepsCall (p : Fin 64) : s.KeepsCall (s.actOnPress p) := by
  unfold State.actOnPress
  split
  · exact .still rfl rfl
  · exact .refl s
  · split
    · exact .refl s
    · exact (s.pressKey_keepsCall _).carryOn

theorem State.actOnRelease_keepsCall (p : Fin 64) : s.KeepsCall (s.actOnRelease p) := by
  unfold State.actOnRelease
  split
  · exact .still rfl rfl
  · exact .refl s
  · split
    · exact (State.carryOn_keepsCall _).after rfl rfl
    · exact .refl s

theorem confirmedPress_keepsCall (p : Fin 64) : s.KeepsCall (confirmedPress p s) := by
  unfold confirmedPress
  split
  · exact (State.actOnPress_keepsCall _ p).after (by simp) (by simp)
  · exact .refl s

theorem confirmedRelease_keepsCall (p : Fin 64) : s.KeepsCall (confirmedRelease p s) := by
  unfold confirmedRelease
  split
  · exact (State.actOnRelease_keepsCall _ p).after (by simp) (by simp)
  · exact .refl s

end Sys2Proof.Machine
end

section
/-! SUPPORT. The loader, the commands of the host and the Control Link leave a sound call, and so does every step. -/

namespace Sys2Proof.Machine

/-! ## Power-on, the RESET pin and RESTART -/

/-- The power-on values are sound whatever the clock, the straps and the queue (R184). -/
theorem State.powerOnValues_callSound (occasion : LoadOccasion) (straps : BitVec 2) (holdOff : Bool)
    (now freeIndex : Nat) (pending : List Instr) :
    (State.powerOnValues occasion straps holdOff now freeIndex pending).CallSound :=
  State.LineRests.outOfService_callSound ⟨rfl, rfl, rfl, rfl⟩ rfl
    (.of_stopped rfl) rfl rfl rfl rfl

/-- R166: at RESTART the demand set is empty, and the motor is OFF or in its run-on. -/
theorem State.restartMotor_followsDemand (s : State) : s.restartMotor.motor.followsDemand := by
  rw [Motor.followsDemand_iff]
  refine ⟨fun _ => ?_, nofun⟩
  simp only [State.restartMotor]
  split <;> exact nofun

theorem State.restartPrinter_still (s : State) :
    s.restartPrinter.call = s.call ∧ s.restartPrinter.lineParts = s.lineParts := by
  unfold State.restartPrinter
  dsimp only
  split <;> simp

theorem State.restartPunch_still (s : State) :
    s.restartPunch.call = s.call ∧ s.restartPunch.lineParts = s.lineParts := by
  simp [State.restartPunch]

/-- OUT OF SERVICE as RESTART leaves the Call Controller (R91). -/
structure Call.Restarted (c : Call) : Prop where
  state : c.state = .outOfService
  timers : c.TimersInState
  record : c.record.state = .ended
  noStop : c.stopPending = false

/-- R91: RESTART ends an open record, stops every timer and leaves the Call Controller OUT OF SERVICE. -/
theorem State.restartCall_restarted (s : State) : s.restartCall.call.Restarted := by
  unfold State.restartCall
  dsimp only
  split
  · next hended => exact ⟨rfl, .of_stopped rfl, hended, rfl⟩
  · exact ⟨rfl, .of_stopped rfl, rfl, rfl⟩

/-- R160, R166: the motor and the keyboard at RESTART. -/
theorem State.LineRests.restartMotor {s : State} (hline : s.LineRests) (hcall : s.call.Restarted) :
    s.restartMotor.restartKeyboard.CallSound := by
  obtain ⟨hreceiver, hguard, hsender, hsend⟩ := hline
  obtain ⟨state, timers, record, noStop⟩ := hcall
  exact State.LineRests.outOfService_callSound ⟨hreceiver, hguard, hsender, hsend⟩ state timers record noStop
    s.restartMotor_followsDemand rfl

/-- R132, R147, R166: the mechanisms and the motor at RESTART. -/
theorem State.LineRests.restartMechanisms {s : State} (hline : s.LineRests) (hcall : s.call.Restarted) :
    s.restartPrinter.restartPunch.restartMotor.restartKeyboard.CallSound := by
  obtain ⟨hprinter, hprinterParts⟩ := s.restartPrinter_still
  obtain ⟨hpunch, hpunchParts⟩ := s.restartPrinter.restartPunch_still
  rw [← hprinter, ← hpunch] at hcall
  exact (hline.congr (hpunchParts.trans hprinterParts)).restartMotor hcall

/-- R192, step 2: the blocks at RESTART are sound, whatever stood before. -/
theorem State.restartBlocks_callSound (s : State) : s.restartBlocks.CallSound := by
  have hcall := State.endFiling_call s.restartCall.resetSender.disableReceiver .restart
  have hparts := State.endFiling_lineParts s.restartCall.resetSender.disableReceiver .restart
  simp only [State.lineParts_eq, Prod.mk.injEq] at hparts
  obtain ⟨hreceiver, hguard, hsender, -⟩ := hparts
  have hrestarted := s.restartCall_restarted
  refine State.LineRests.restartMechanisms ⟨hreceiver, hguard, hsender, rfl⟩ ?_
  exact hcall ▸ hrestarted

/-- RESTART leaves a sound call, whatever stood before it (R91, R192). -/
theorem restart_callSound (s : State) : (restart s).CallSound := State.restartBlocks_callSound _

/-! ## The loads -/

section Loads
variable {s : State}

theorem State.setSwitch_keepsCall (s : State) (on : Bool) : s.KeepsCall (s.setSwitch on) := by
  unfold State.setSwitch
  exact .still (by simp) (by simp)

theorem State.handOverKeyboard_keepsCall (s : State) (before : KeyboardMode) :
    s.KeepsCall (s.handOverKeyboard before) := by
  unfold State.handOverKeyboard
  exact .still (by simp) (by simp)

/-- R187: the loader becomes READY. -/
theorem State.loadDone_keepsCall (s : State) (occasion : LoadOccasion) : s.KeepsCall (s.loadDone occasion) :=
  ⟨.refl _, .rfl, .inl, fun _ => rfl, fun _ => id, fun _ => rfl, id, rfl, fun _ _ => id⟩

/-- A load takes its items without a change of the loader's state (R187). -/
@[simp] theorem Isl.take_loader (i : Isl) (occasion : LoadOccasion) (l : Loaded) :
    (i.take occasion l).loader = i.loader := by
  cases occasion <;> rfl

/-- R68, R69: service starts from OUT OF SERVICE on a READY loader. -/
theorem State.CallSound.startService (h : s.CallSound) (hc : s.call.state = .outOfService)
    (loader : s.isl.loader = .ready) : (s.enterCall .idle).CallSound := by
  obtain ⟨hreceiver, hguard, hsender, hsend⟩ := h.lineRests (by simp [hc])
  have record : s.call.record.state = .ended := by rw [h.record, hc]; rfl
  exact State.CanBegin.idle_callSound
    ⟨⟨hreceiver, hguard, hsender, hsend⟩, loader, h.motor, h.no_stop (by simp [hc]) (by simp [hc])⟩ rfl
    (.of_stopped rfl) record (h.not_placed (by rw [hc]; rfl))

/-- R68, R187, R191: what follows a load that has ended on a READY loader. -/
theorem State.CallSound.afterLoad {t : State} (h : s.CallSound) (hc : s.call.state = .outOfService)
    (hload : s.KeepsCall t) (loader : t.isl.loader = .ready) (occasion : LoadOccasion) :
    (t.afterLoad occasion).CallSound := by
  have ht := h.keep hload
  unfold State.afterLoad
  split
  · exact ht.accept
  · split
    · exact ht.startService (hload.call.state.trans hc) loader
    · exact ht

theorem State.handOverValues_keepsCall (s : State) (l : Loaded) : s.KeepsCall (s.handOverValues l) := .still rfl rfl

/-- R187: the loaded values are handed over before the loader becomes READY. -/
theorem State.CallSound.endLoad (h : s.CallSound) (hc : s.call.state = .outOfService) (l : Loading)
    (image : List Byte) : (s.endLoad l image).CallSound := by
  unfold State.endLoad
  dsimp only
  refine (h.afterLoad hc ?_ rfl l.occasion).carryOn
  refine .trans (.trans (.trans (.trans ?_ (State.handOverValues_keepsCall _ _)) (State.setSwitch_keepsCall _ _))
    (State.handOverKeyboard_keepsCall _ _)) (State.loadDone_keepsCall _ _)
  exact .still rfl (by simp)

theorem loadEnd_callSound (h : s.CallSound) (image : List Byte) : (loadEnd image s).CallSound := by
  unfold loadEnd
  split
  · next l hl =>
    split
    · exact (h.endLoad (h.loading (by simp [hl])) l image)
    · exact h
  · exact h

end Loads

end Sys2Proof.Machine
end

section
/-! SUPPORT. Every command of the host leaves a sound call where the link lets it reach its owner (R173). -/

namespace Sys2Proof.Machine

/-! ## The commands of service, calls and the line -/

section Calls
variable {s : State} (h : s.CallSound)
include h

/-- A refusal leaves a sound call (R174). -/
theorem State.CallSound.refuse (kind : Byte) (r : Reason) : (s.refuse kind r).CallSound := h.keep (.still rfl rfl)

/-- R68: STOP SERVICE may be set and cleared in CLEARING and RELEASING. -/
theorem State.CallSound.withStop (hc : s.call.state = .clearing ∨ s.call.state = .releasing) (pending : Bool) :
    (s.withStop pending).CallSound := by
  obtain ⟨⟨h1, h2, h3, h4, h5, h6, h7, h8, h9, h10, h11⟩, record, -, clearCause, receiver, guard, sender, send,
    loading, motor, running, placed, removed⟩ := h
  exact ⟨⟨h1, h2, h3, h4, h5, h6, h7, h8, h9, h10, h11⟩, record, fun _ => hc, clearCause, receiver, guard, sender,
    send, loading, motor, running, placed, removed⟩

theorem startService_callSound (loader : s.isl.loader = .ready) : (startService s).CallSound := by
  have hclear : (s.call.state = .clearing ∨ s.call.state = .releasing) →
      (if s.call.stopPending then (s.withStop false).accept 0x02 .done
        else s.refuse 0x02 .wrongState).CallSound := fun hc => by
    split
    · exact (h.withStop hc false).accept
    · exact h.refuse _ _
  unfold startService
  split
  · next hc => exact (h.startService hc loader).accept
  · next hc => exact hclear (.inl hc)
  · next hc => exact hclear (.inr hc)
  · exact h.refuse _ _

/-- R70: STOP SERVICE in a state without a connection ends it there. -/
theorem State.CallSound.leaveService {t : State} (hc : s.call.state ≠ .connected)
    (hstate : t.call.state = .outOfService) (timers : t.call.stopTimers = t.call) (record : t.call.record.state = .ended)
    (hstop : t.call.stopPending = false) (hline : t.lrx = s.lrx ∧ t.ltx = s.ltx ∧ t.store = s.store)
    (motor : t.motor.followsDemand) (hcall : t.motor.demand.call = false) : t.CallSound := by
  obtain ⟨hlrx, hltx, hstore⟩ := hline
  obtain ⟨hreceiver, hguard, hsender, hsend⟩ := h.lineRests hc
  rw [← hlrx] at hreceiver hguard
  rw [← hltx] at hsender
  rw [← hstore] at hsend
  exact State.LineRests.outOfService_callSound ⟨hreceiver, hguard, hsender, hsend⟩ hstate (.of_stopped timers) record
    hstop motor hcall

/-- R70, R84: STOP SERVICE clears a call that stands or is being placed. -/
theorem State.CallSound.stopConnection (hc : s.call.state = .connected ∨ s.call.state = .calling) :
    ((s.withStop true).enterClearing .stopService).CallSound :=
  State.enterClearing_callSound (s := s.withStop true) .stopService
    (h.loader_ready (by rcases hc with hc | hc <;> simp [hc])) h.motor
    (h.placed (by rcases hc with hc | hc <;> rw [hc] <;> rfl))

/-- R70: STOP SERVICE takes CALL and the record from a call in ANSWERING. -/
theorem State.CallSound.stopAnswering (hc : s.call.state = .answering) :
    (((s.demandCall false).endRecord .stopService).enterCall .outOfService).CallSound :=
  h.leaveService (by simp [hc]) rfl rfl rfl (h.no_stop (by simp [hc]) (by simp [hc])) ⟨rfl, rfl, rfl⟩
    (State.setDemand_followsDemand h.motor _) rfl

theorem State.CallSound.stopEffect : s.stopEffect.1.CallSound := by
  unfold State.stopEffect
  split <;> dsimp only
  · exact h
  · next hc =>
    exact h.leaveService (by simp [hc]) rfl rfl (h.record.trans (by rw [hc]; rfl))
      (h.no_stop (by simp [hc]) (by simp [hc])) ⟨rfl, rfl, rfl⟩ h.motor (h.not_placed (by rw [hc]; rfl))
  · next hc =>
    exact h.leaveService (by simp [hc]) rfl rfl rfl (h.no_stop (by simp [hc]) (by simp [hc])) ⟨rfl, rfl, rfl⟩ h.motor
      (h.not_placed (by rw [hc]; rfl))
  · next hc => exact (h.stopAnswering hc).carryOn
  · next hc => exact (h.stopConnection (.inr hc)).carryOn
  · next hc => exact (h.stopConnection (.inl hc)).carryOn
  · next hc => exact h.withStop (.inl hc) true
  · next hc => exact h.withStop (.inr hc) true

theorem acceptCall_callSound : (acceptCall s).CallSound := by
  unfold acceptCall
  split
  · next hc => exact (h.canBegin (.inr hc)).enterAnswering.carryOn.accept
  · exact h.refuse _ _

theorem declineCall_callSound : (declineCall s).CallSound := by
  unfold declineCall
  split
  · next hc => exact (h.declineOffer hc).carryOn.accept
  · exact h.refuse _ _

theorem placeCall_callSound : (placeCall s).CallSound := by
  unfold placeCall
  split
  · next hc => exact (h.canBegin (.inl hc)).enterCalling.carryOn.accept
  · exact h.refuse _ _

theorem clearCall_callSound : (clearCall s).CallSound := by
  unfold clearCall
  split
  · next hc => exact (h.enterClearing (.inl hc) .station).carryOn.accept
  · next hc => exact (h.enterClearing (.inr hc) .station).carryOn.accept
  · next hc => exact (h.failAttempt (.inl hc) .station).carryOn.accept
  · exact h.refuse _ _

/-- R191: RELOAD begins in OUT OF SERVICE only. -/
theorem reload_callSound : (reload s).CallSound := by
  unfold reload
  split
  · next hc =>
    obtain ⟨timers, record, stopPending, clearCause, receiver, guard, sender, send, -, motor, running, placed,
      removed⟩ := h
    exact ⟨timers, record, stopPending, clearCause, receiver, guard, sender, send, fun _ => hc, motor, running, placed,
      removed⟩
  · exact h.refuse _ _

/-- R184: the read of byte 0 leaves the loader loading. -/
theorem storeByte0Read_callSound (byte : Option Byte) : (storeByte0Read byte s).CallSound := by
  unfold storeByte0Read
  split
  · next l hl =>
    split
    · exact h
    · exact h.keep ⟨.refl _, .rfl, .inl, fun _ => rfl, fun _ => id, by simp [hl], id, rfl, fun _ _ => id⟩
  · exact h

end Calls

section Keeps
variable (s : State)

/-- A refusal keeps the call (R174). -/
theorem State.refuse_keepsCall (kind : Byte) (r : Reason) : s.KeepsCall (s.refuse kind r) := .still rfl rfl

theorem sendAnswerback_keepsCall : s.KeepsCall (sendAnswerback s) := by
  unfold sendAnswerback
  split
  · next hc =>
    have htriggered : s.KeepsCall s.triggerAnswerback := .onSender hc (by simp) (by simp) (by simp) (by simp)
    split
    · exact htriggered.carryOn.accept
    · exact .still rfl rfl
  · exact s.refuse_keepsCall _ _

theorem sendEnquiry_keepsCall : s.KeepsCall (sendEnquiry s) := by
  unfold sendEnquiry
  split
  · next hc =>
    have hrequest : s.KeepsCall s.requestEnquiry := .onSender hc rfl rfl rfl rfl
    exact hrequest.carryOn.accept
  · exact s.refuse_keepsCall _ _

theorem sendBreak_keepsCall : s.KeepsCall (sendBreak s) := by
  unfold sendBreak
  split
  · next hc =>
    have hrequest : s.KeepsCall s.requestBreak := .onSender hc rfl rfl rfl rfl
    exact hrequest.carryOn.accept
  · exact s.refuse_keepsCall _ _

theorem resumeSend_keepsCall : s.KeepsCall (resumeSend s) := by
  unfold resumeSend
  split
  · next hc =>
    have hended : s.KeepsCall s.endHold := .onSender hc rfl rfl rfl rfl
    split
    · exact hended.carryOn.accept
    · exact .still rfl rfl
  · exact s.refuse_keepsCall _ _

theorem getLineQuality_keepsCall (clear : Byte) : s.KeepsCall (getLineQuality clear s) := by
  unfold getLineQuality
  repeat' split
  all_goals exact .still rfl rfl

/-! ## The commands of the routes, the spools and the Message File -/

theorem setRoute_keepsCall (route destinations printStandIn punchStandIn : Byte) (reload : Word16) (action : Byte) :
    s.KeepsCall (setRoute route destinations printStandIn punchStandIn reload action s) := by
  unfold setRoute
  split <;> exact .still rfl rfl

theorem getRoute_keepsCall (route clear : Byte) : s.KeepsCall (getRoute route clear s) := by
  unfold getRoute
  dsimp only
  repeat' split
  all_goals exact .still rfl rfl

theorem rearmRoute_keepsCall (route : Byte) : s.KeepsCall (rearmRoute route s) := by
  unfold rearmRoute
  split <;> exact .still rfl rfl

/-- R181: text goes to SEND in CONNECTED only. -/
theorem State.submitRefusal_send (h : s.submitRefusal .send = none) : s.call.state = .connected := by
  simpa [State.submitRefusal] using h

theorem State.submitCells_keepsCall {t : SubmitTarget} (h : s.submitRefusal t = none) (cells : List Cell) :
    s.KeepsCall (s.submitCells t cells) := by
  unfold State.submitCells
  dsimp only
  split
  · exact s.refuse_keepsCall _ _
  · next st hok =>
    refine State.KeepsCall.carryOn (State.KeepsCall.accept ?_)
    cases t with
    | send => exact .onSender (s.submitRefusal_send h) rfl rfl rfl rfl
    | print => exact .still rfl (by simp [State.claimFor, Store.batch_send (n := .pSubmit) nofun hok])
    | punch =>
      exact .still (by simp [State.claimFor]) (by simp [State.claimFor, Store.batch_send (n := .punch) nofun hok])

theorem submitText_keepsCall (target : Byte) (bytes : List Byte) : s.KeepsCall (submitText target bytes s) := by
  unfold submitText
  split
  · split
    · exact s.refuse_keepsCall _ _
    · next h => exact s.submitCells_keepsCall h _
  · exact s.refuse_keepsCall _ _

/-- A spool that is emptied leaves SEND empty or as it was (R11). -/
theorem Store.emptySpool_send {st : Store} (h : st.send.cells = []) (n : SpoolName) :
    (st.emptySpool n).2.send.cells = [] := by
  by_cases hn : n = .send
  · subst hn
    rfl
  · have hother := st.emptySpool_other (n := n) (m := .send) (Ne.symm hn)
    exact (congrArg Spool.cells hother).trans h

theorem State.emptySpool_keepsCall (n : SpoolName) : s.KeepsCall { s with store := (s.store.emptySpool n).2 } :=
  ⟨.refl _, .rfl, .inl, fun _ => rfl, fun _ h => Store.emptySpool_send h n, id, id, rfl, fun _ _ => id⟩

theorem State.spoolEmptied_keepsCall (n : SpoolName) : s.KeepsCall (s.spoolEmptied n) := by
  unfold State.spoolEmptied
  split <;> exact .still (by simp) (by simp)

theorem clearSpool_keepsCall (spool : Byte) : s.KeepsCall (clearSpool spool s) := by
  unfold clearSpool
  split
  · exact s.refuse_keepsCall _ _
  · next n _ => exact ((s.emptySpool_keepsCall n).trans (State.spoolEmptied_keepsCall _ n)).accept.carryOn

theorem getMessage_keepsCall (number : Byte) : s.KeepsCall (getMessage number s) := by
  unfold getMessage
  repeat' split
  all_goals exact .still rfl rfl

theorem fetchMessage_keepsCall (number : Byte) (offset : Word16) (count : Byte) :
    s.KeepsCall (fetchMessage number offset count s) := by
  unfold fetchMessage
  repeat' split
  all_goals exact .still rfl rfl

theorem deleteMessage_keepsCall (number : Byte) : s.KeepsCall (deleteMessage number s) := by
  unfold deleteMessage
  repeat' split
  all_goals exact .still rfl rfl

theorem replayMessage_keepsCall (number target : Byte) : s.KeepsCall (replayMessage number target s) := by
  unfold replayMessage
  repeat' split
  all_goals exact .still rfl rfl

theorem cancelReplay_keepsCall : s.KeepsCall (cancelReplay s) := by
  unfold cancelReplay
  split <;> exact .still rfl rfl

/-! ## The commands of the mechanisms, the keyboard and the store -/

theorem printerHold_keepsCall : s.KeepsCall (printerHold s) := by
  have hset : s.KeepsCall (s.withHold true) := .still rfl rfl
  exact hset.carryOn.accept

theorem printerRelease_keepsCall : s.KeepsCall (printerRelease s) := by
  have hset : s.KeepsCall (s.withHold false) := .still rfl rfl
  exact hset.carryOn.accept

theorem State.resetPrinter_keepsCall : s.KeepsCall s.resetPrinter := by
  unfold State.resetPrinter
  split <;> exact .still (by simp) (by simp)

theorem printerReset_keepsCall : s.KeepsCall (printerReset s) := s.resetPrinter_keepsCall.carryOn.accept

theorem punchOn_keepsCall : s.KeepsCall (punchOn s) := (s.setSwitch_keepsCall true).carryOn.accept

theorem punchOff_keepsCall : s.KeepsCall (punchOff s) := (s.setSwitch_keepsCall false).carryOn.accept

theorem State.requestFeed_keepsCall (blanks : Nat) : s.KeepsCall (s.requestFeed blanks) := by
  unfold State.requestFeed
  exact .still (by simp) (by simp)

theorem punchFeed_keepsCall (count : Byte) : s.KeepsCall (punchFeed count s) := by
  unfold punchFeed
  split
  · exact s.refuse_keepsCall _ _
  split
  · exact s.refuse_keepsCall _ _
  split
  · exact s.refuse_keepsCall _ _
  · exact (s.requestFeed_keepsCall count.toNat).accept.carryOn

theorem punchRelease_keepsCall : s.KeepsCall (punchRelease s) := by
  have hreleased : s.KeepsCall s.releasePunch.carryOn := (State.carryOn_keepsCall _).after rfl rfl
  unfold punchRelease
  repeat' split
  · exact .still rfl rfl
  · exact hreleased.accept
  · exact .still rfl rfl
  · exact s.refuse_keepsCall _ _

theorem State.resetPunch_keepsCall : s.KeepsCall s.resetPunch := by
  have hemptied : s.KeepsCall { s with store := (s.store.emptySpool .punch).2, punch := s.punch.resetSteps } :=
    (s.emptySpool_keepsCall .punch).then rfl rfl
  exact hemptied.then (by simp [State.resetPunch]) (by simp [State.resetPunch])

theorem punchReset_keepsCall : s.KeepsCall (punchReset s) := s.resetPunch_keepsCall.carryOn.accept

theorem setKeyboardMode_keepsCall (mode : Byte) : s.KeepsCall (setKeyboardMode mode s) := by
  unfold setKeyboardMode
  repeat' split
  · exact s.refuse_keepsCall _ _
  · exact s.refuse_keepsCall _ _
  · exact (s.changeMode_keepsCall _).carryOn.accept

theorem setOption_keepsCall (offset : Byte) (value : Word16) : s.KeepsCall (setOption offset value s) := by
  unfold setOption
  repeat' split
  all_goals exact .still rfl rfl

theorem getOption_keepsCall (offset : Byte) : s.KeepsCall (getOption offset s) := by
  unfold getOption
  split <;> exact .still rfl rfl

theorem storeRead_keepsCall (offset count : Byte) : s.KeepsCall (storeRead offset count s) := by
  unfold storeRead
  repeat' split
  all_goals exact .still rfl rfl

theorem storeWrite_keepsCall (offset : Byte) (bytes : List Byte) : s.KeepsCall (storeWrite offset bytes s) := by
  unfold storeWrite
  repeat' split
  all_goals exact .still rfl rfl

theorem storeOperationEnd_keepsCall (acknowledged : Bool) (bytes : List Byte) :
    s.KeepsCall (storeOperationEnd acknowledged bytes s) := by
  unfold storeOperationEnd
  repeat' split
  all_goals exact .still rfl rfl

theorem storeWritePollTimeout_keepsCall : s.KeepsCall (storeWritePollTimeout s) := by
  unfold storeWritePollTimeout
  split <;> exact .still rfl rfl

end Keeps

end Sys2Proof.Machine
end

section
/-! The Control Link lets every command through to an owner that leaves a sound call, and so does every row and every
step (R172 to R174). -/

namespace Sys2Proof.Machine

/-! ## The owners -/

/-- An owner leaves a sound call wherever the link's checks let a command of the kind reach it: on a READY loader, but
for GET STATUS (R173). -/
def OwnerSound (kind : Byte) (owner : State → State) : Prop :=
  ∀ s : State, s.CallSound → (kind ≠ 0x01 → s.isl.loader = .ready) → (owner s).CallSound

theorem OwnerSound.of_keeps {kind : Byte} {owner : State → State} (hk : ∀ s : State, s.KeepsCall (owner s)) :
    OwnerSound kind owner := fun s h _ => h.keep (hk s)

theorem OwnerSound.of_sound {kind : Byte} {owner : State → State}
    (hs : ∀ s : State, s.CallSound → (owner s).CallSound) : OwnerSound kind owner := fun s h _ => hs s h

/-- START SERVICE reaches its owner on a READY loader only (R91, R173). -/
theorem startService_ownerSound {kind : Byte} (hk : kind ≠ 0x01) : OwnerSound kind startService :=
  fun _ h loader => startService_callSound h (loader hk)

theorem stopService_callSound {s : State} (h : s.CallSound) : (stopService s).CallSound := h.stopEffect.accept

theorem commandOwner_ownerSound (kind : Byte) (body : List Byte) : OwnerSound kind (commandOwner kind body) := by
  unfold commandOwner
  split
  · exact .of_keeps fun _ => .still rfl rfl
  · next hk => exact startService_ownerSound (fun hone => absurd (hone ▸ hk) (by decide))
  · exact .of_sound fun _ => stopService_callSound
  · exact .of_keeps fun s => setOption_keepsCall s _ _
  · exact .of_keeps fun s => getOption_keepsCall s _
  · exact .of_keeps fun s => setRoute_keepsCall s _ _ _ _ _ _
  · exact .of_keeps fun s => getRoute_keepsCall s _ _
  · exact .of_keeps fun s => rearmRoute_keepsCall s _
  · exact .of_keeps fun s => submitText_keepsCall s _ _
  · exact .of_keeps fun s => clearSpool_keepsCall s _
  · exact .of_sound fun _ => acceptCall_callSound
  · exact .of_sound fun _ => declineCall_callSound
  · exact .of_sound fun _ => placeCall_callSound
  · exact .of_sound fun _ => clearCall_callSound
  · exact .of_keeps sendAnswerback_keepsCall
  · exact .of_keeps sendEnquiry_keepsCall
  · exact .of_keeps sendBreak_keepsCall
  · exact .of_keeps resumeSend_keepsCall
  · exact .of_keeps fun _ => .still rfl rfl
  · exact .of_keeps fun s => getLineQuality_keepsCall s _
  · exact .of_keeps fun _ => .still rfl rfl
  · exact .of_keeps fun s => getMessage_keepsCall s _
  · exact .of_keeps fun s => fetchMessage_keepsCall s _ _ _
  · exact .of_keeps fun s => deleteMessage_keepsCall s _
  · exact .of_keeps fun s => replayMessage_keepsCall s _ _
  · exact .of_keeps cancelReplay_keepsCall
  · exact .of_keeps printerHold_keepsCall
  · exact .of_keeps printerRelease_keepsCall
  · exact .of_keeps printerReset_keepsCall
  · exact .of_keeps punchOn_keepsCall
  · exact .of_keeps punchOff_keepsCall
  · exact .of_keeps fun s => punchFeed_keepsCall s _
  · exact .of_keeps punchRelease_keepsCall
  · exact .of_keeps punchReset_keepsCall
  · exact .of_keeps fun s => setKeyboardMode_keepsCall s _
  · exact .of_keeps fun s => storeRead_keepsCall s _ _
  · exact .of_keeps fun s => storeWrite_keepsCall s _ _
  · exact .of_sound fun _ => reload_callSound
  · exact .of_sound fun s _ => restart_callSound s
  · exact .of_keeps .refl

/-! ## Frames -/

section Frames
variable {s : State} (h : s.CallSound)
include h

omit h in
/-- A command that the link does not refuse is GET STATUS or comes on a READY loader (R173). -/
theorem State.loader_of_linkRefusal {kind : Byte} {length : Nat} (hnone : s.linkRefusal kind length = none)
    (hk : kind ≠ 0x01) : s.isl.loader = .ready := by
  unfold State.linkRefusal at hnone
  split at hnone
  · cases hnone
  split at hnone
  · cases hnone
  split at hnone
  · cases hnone
  · next hready =>
    have hone : s.isl.loader ≠ .ready → kind = 0x01 := by simpa [State.ready] using hready
    exact Decidable.not_not.mp fun hl => hk (hone hl)

theorem State.CallSound.dispatch {kind : Byte} {owner : State → State} (howner : OwnerSound kind owner)
    (length : Nat) : (s.dispatch kind length owner).CallSound := by
  have hawaits : s.awaitReply.CallSound := h.keep (.still rfl rfl)
  unfold State.dispatch
  dsimp only
  split
  · exact hawaits.refuse _ _
  · next hnone => exact howner _ hawaits (State.loader_of_linkRefusal hnone)

omit h in
theorem State.frameEnded_keepsCall (s : State) (turn : Turn) (kind : Byte) : s.KeepsCall (s.frameEnded turn kind) := by
  unfold State.frameEnded
  split <;> exact .still rfl rfl

omit h in
theorem State.frameFails_keepsCall (s : State) (turn : Turn) (kind : Byte) (r : Reason) :
    s.KeepsCall (s.frameFails turn kind r) := by
  unfold State.frameFails
  split
  · exact s.refuse_keepsCall _ _
  · exact s.frameEnded_keepsCall turn kind

omit h in
theorem State.withInbound_keepsCall (s : State) (i : Inbound) : s.KeepsCall (s.withInbound i) := .still rfl rfl

theorem State.CallSound.frameComplete (turn : Turn) (kind : Byte) (body : List Byte) :
    (s.frameComplete turn kind body).CallSound := by
  have hended : (s.withInbound .empty).CallSound := h.keep (s.withInbound_keepsCall .empty)
  unfold State.frameComplete
  dsimp only
  split
  · exact hended.dispatch (commandOwner_ownerSound kind body) body.length
  · exact hended.keep (State.frameEnded_keepsCall _ turn kind)

theorem State.CallSound.takeByte (b : Byte) : (s.takeByte b).CallSound := by
  unfold State.takeByte
  split
  · exact h.keep (.still rfl rfl)
  · unfold State.takeLength
    split
    · exact h.frameComplete _ _ _
    split
    · exact h.keep (s.withInbound_keepsCall _)
    · exact h.keep ((s.withInbound_keepsCall _).trans (State.frameFails_keepsCall _ _ _ _))
  · unfold State.takeBodyByte
    split
    · exact h.frameComplete _ _ _
    · exact h.keep (s.withInbound_keepsCall _)
  · exact h.keep (s.withInbound_keepsCall _)

omit h in
/-- Bytes taken one after another (R172). -/
theorem State.foldl_takeByte_callSound (bytes : List Byte) {s : State} (h : s.CallSound) :
    (bytes.foldl State.takeByte s).CallSound := by
  induction bytes generalizing s with
  | nil => exact h
  | cons b bytes ih => exact ih (h.takeByte b)

/-- A command frame leaves a sound call when its owner does (log 3). -/
theorem State.CallSound.hostCommand {kind : Byte} {body : List Byte} {owner : State → State}
    (howner : OwnerSound kind owner) : (s.hostCommand kind body owner).CallSound := by
  unfold State.hostCommand
  split
  · exact h.dispatch howner body.length
  · exact State.foldl_takeByte_callSound _ h

theorem inboundByte_callSound (b : Byte) (stop : Level) : (inboundByte b stop s).CallSound := by
  cases stop
  · exact h
  · exact h.takeByte b

omit h in
theorem State.abandonFrame_keepsCall (s : State) (kind : Byte) (turn : Turn) (due : Nat) :
    s.KeepsCall (s.abandonFrame kind turn due) :=
  (State.frameFails_keepsCall _ turn kind .incomplete).after rfl rfl

omit h in
theorem interByteTimeout_keepsCall (s : State) : s.KeepsCall (interByteTimeout s) := by
  unfold interByteTimeout
  split
  · exact s.abandonFrame_keepsCall _ _ _
  · exact s.abandonFrame_keepsCall _ _ _
  · exact .refl s

omit h in
theorem discardQuietTimeout_keepsCall (s : State) : s.KeepsCall (discardQuietTimeout s) := by
  unfold discardQuietTimeout
  split <;> exact .still rfl rfl

omit h in
theorem outboundFrameEnd_keepsCall (s : State) : s.KeepsCall (outboundFrameEnd s) := by
  unfold outboundFrameEnd
  repeat' split
  all_goals exact .still rfl rfl

end Frames

/-! ## Every row and every step -/

/-- Every row completes, and leaves a sound call. -/
theorem exec_callSound {s : State} (h : s.CallSound) (i : Instr) : ∃ t, exec i s = .next t ∧ t.CallSound := by
  cases i with
  | powerOn | resetPin => exact ⟨_, rfl, State.powerOnValues_callSound _ _ _ _ _ _⟩
  | loadEnd => exact ⟨_, rfl, loadEnd_callSound h _⟩
  | storeByte0Read => exact ⟨_, rfl, storeByte0Read_callSound h _⟩
  | inboundByte => exact ⟨_, rfl, inboundByte_callSound h _ _⟩
  | interByteTimeout => exact ⟨_, rfl, h.keep (interByteTimeout_keepsCall s)⟩
  | discardQuietTimeout => exact ⟨_, rfl, h.keep (discardQuietTimeout_keepsCall s)⟩
  | outboundFrameStart | holdOffAssert | holdOffDeassert => exact ⟨_, rfl, h.keep (.still rfl rfl)⟩
  | outboundFrameEnd => exact ⟨_, rfl, h.keep (outboundFrameEnd_keepsCall s)⟩
  | unknownCommandKind => exact ⟨_, rfl, h.hostCommand (commandOwner_ownerSound _ _)⟩
  | getStatus | getCall | listMessages => exact ⟨_, rfl, h.hostCommand (.of_keeps fun _ => .still rfl rfl)⟩
  | startService => exact ⟨_, rfl, h.hostCommand (startService_ownerSound (by decide))⟩
  | stopService => exact ⟨_, rfl, h.hostCommand (.of_sound fun _ => stopService_callSound)⟩
  | acceptCall => exact ⟨_, rfl, h.hostCommand (.of_sound fun _ => acceptCall_callSound)⟩
  | declineCall => exact ⟨_, rfl, h.hostCommand (.of_sound fun _ => declineCall_callSound)⟩
  | placeCall => exact ⟨_, rfl, h.hostCommand (.of_sound fun _ => placeCall_callSound)⟩
  | clearCall => exact ⟨_, rfl, h.hostCommand (.of_sound fun _ => clearCall_callSound)⟩
  | reload => exact ⟨_, rfl, h.hostCommand (.of_sound fun _ => reload_callSound)⟩
  | restart => exact ⟨_, rfl, h.hostCommand (.of_sound fun t _ => restart_callSound t)⟩
  | sendAnswerback => exact ⟨_, rfl, h.hostCommand (.of_keeps sendAnswerback_keepsCall)⟩
  | sendEnquiry => exact ⟨_, rfl, h.hostCommand (.of_keeps sendEnquiry_keepsCall)⟩
  | sendBreak => exact ⟨_, rfl, h.hostCommand (.of_keeps sendBreak_keepsCall)⟩
  | resumeSend => exact ⟨_, rfl, h.hostCommand (.of_keeps resumeSend_keepsCall)⟩
  | getLineQuality => exact ⟨_, rfl, h.hostCommand (.of_keeps fun t => getLineQuality_keepsCall t _)⟩
  | setOption => exact ⟨_, rfl, h.hostCommand (.of_keeps fun t => setOption_keepsCall t _ _)⟩
  | getOption => exact ⟨_, rfl, h.hostCommand (.of_keeps fun t => getOption_keepsCall t _)⟩
  | setRoute => exact ⟨_, rfl, h.hostCommand (.of_keeps fun t => setRoute_keepsCall t _ _ _ _ _ _)⟩
  | getRoute => exact ⟨_, rfl, h.hostCommand (.of_keeps fun t => getRoute_keepsCall t _ _)⟩
  | rearmRoute => exact ⟨_, rfl, h.hostCommand (.of_keeps fun t => rearmRoute_keepsCall t _)⟩
  | submitText => exact ⟨_, rfl, h.hostCommand (.of_keeps fun t => submitText_keepsCall t _ _)⟩
  | clearSpool => exact ⟨_, rfl, h.hostCommand (.of_keeps fun t => clearSpool_keepsCall t _)⟩
  | getMessage => exact ⟨_, rfl, h.hostCommand (.of_keeps fun t => getMessage_keepsCall t _)⟩
  | fetchMessage => exact ⟨_, rfl, h.hostCommand (.of_keeps fun t => fetchMessage_keepsCall t _ _ _)⟩
  | deleteMessage => exact ⟨_, rfl, h.hostCommand (.of_keeps fun t => deleteMessage_keepsCall t _)⟩
  | replayMessage => exact ⟨_, rfl, h.hostCommand (.of_keeps fun t => replayMessage_keepsCall t _ _)⟩
  | cancelReplay => exact ⟨_, rfl, h.hostCommand (.of_keeps cancelReplay_keepsCall)⟩
  | printerHold => exact ⟨_, rfl, h.hostCommand (.of_keeps printerHold_keepsCall)⟩
  | printerRelease => exact ⟨_, rfl, h.hostCommand (.of_keeps printerRelease_keepsCall)⟩
  | printerReset => exact ⟨_, rfl, h.hostCommand (.of_keeps printerReset_keepsCall)⟩
  | punchOn => exact ⟨_, rfl, h.hostCommand (.of_keeps punchOn_keepsCall)⟩
  | punchOff => exact ⟨_, rfl, h.hostCommand (.of_keeps punchOff_keepsCall)⟩
  | punchFeed => exact ⟨_, rfl, h.hostCommand (.of_keeps fun t => punchFeed_keepsCall t _)⟩
  | punchRelease => exact ⟨_, rfl, h.hostCommand (.of_keeps punchRelease_keepsCall)⟩
  | punchReset => exact ⟨_, rfl, h.hostCommand (.of_keeps punchReset_keepsCall)⟩
  | setKeyboardMode => exact ⟨_, rfl, h.hostCommand (.of_keeps fun t => setKeyboardMode_keepsCall t _)⟩
  | storeRead => exact ⟨_, rfl, h.hostCommand (.of_keeps fun t => storeRead_keepsCall t _ _)⟩
  | storeWrite => exact ⟨_, rfl, h.hostCommand (.of_keeps fun t => storeWrite_keepsCall t _ _)⟩
  | storeOperationEnd => exact ⟨_, rfl, h.keep (storeOperationEnd_keepsCall s _ _)⟩
  | storeWritePollTimeout => exact ⟨_, rfl, h.keep (storeWritePollTimeout_keepsCall s)⟩
  | rxFilteredChange => exact ⟨_, rfl, rxFilteredChange_callSound h _ _⟩
  | startSample => exact ⟨_, rfl, startSample_callSound h⟩
  | unitSample => exact ⟨_, rfl, unitSample_callSound h⟩
  | stopSample => exact ⟨_, rfl, stopSample_callSound h⟩
  | breakThreshold => exact ⟨_, rfl, breakThreshold_callSound h⟩
  | clearThreshold => exact ⟨_, rfl, clearThreshold_callSound h⟩
  | turnaroundGuardExpiry => exact ⟨_, rfl, turnaroundGuardExpiry_callSound h⟩
  | characterSent => exact ⟨_, rfl, characterSent_callSound h⟩
  | breakKeyingEnd => exact ⟨_, rfl, breakKeyingEnd_callSound h⟩
  | callRecognition => exact ⟨_, rfl, callRecognition_callSound h⟩
  | withdrawal => exact ⟨_, rfl, withdrawal_callSound h⟩
  | offerTimeout => exact ⟨_, rfl, offerTimeout_callSound h⟩
  | confirmation => exact ⟨_, rfl, confirmation_callSound h⟩
  | confirmTimeout => exact ⟨_, rfl, confirmTimeout_callSound h⟩
  | idleTimeout => exact ⟨_, rfl, idleTimeout_callSound h⟩
  | enquiryDelayExpiry => exact ⟨_, rfl, enquiryDelayExpiry_callSound h⟩
  | captureWindowExpiry => exact ⟨_, rfl, captureWindowExpiry_callSound h⟩
  | clearingEnd => exact ⟨_, rfl, clearingEnd_callSound h⟩
  | clearingTimeout => exact ⟨_, rfl, clearingTimeout_callSound h⟩
  | releasingEnd => exact ⟨_, rfl, releasingEnd_callSound h⟩
  | runUpExpiry => exact ⟨_, rfl, runUpExpiry_callSound h⟩
  | runOnExpiry => exact ⟨_, rfl, runOnExpiry_callSound h⟩
  | selectEnd => exact ⟨_, rfl, h.keep (selectEnd_keepsCall s)⟩
  | strikeEnd => exact ⟨_, rfl, h.keep (strikeEnd_keepsCall s)⟩
  | punchPulseEnd => exact ⟨_, rfl, h.keep (punchPulseEnd_keepsCall s)⟩
  | feedPulseEnd => exact ⟨_, rfl, h.keep (feedPulseEnd_keepsCall s)⟩
  | settleFixedEnd => exact ⟨_, rfl, h.keep (settleFixedEnd_keepsCall s _)⟩
  | settleSampledReading => exact ⟨_, rfl, h.keep (settleSampledReading_keepsCall s _ _)⟩
  | settleAddEnd => exact ⟨_, rfl, h.keep (settleAddEnd_keepsCall s _)⟩
  | extendedReading => exact ⟨_, rfl, h.keep (extendedReading_keepsCall s _ _)⟩
  | bellTimerExpiry => exact ⟨_, rfl, h.keep (bellTimerExpiry_keepsCall s)⟩
  | paperOutChange => exact ⟨_, rfl, h.keep (paperOutChange_keepsCall s _ _)⟩
  | paperRestoreExpiry => exact ⟨_, rfl, h.keep (paperRestoreExpiry_keepsCall s)⟩
  | paperLowChange => exact ⟨_, rfl, h.keep (paperLowChange_keepsCall s _ _)⟩
  | inputFilterStart => exact ⟨_, rfl, h.keep (inputFilterStart_keepsCall s _ _)⟩
  | holdWaitExpiry => exact ⟨_, rfl, h.keep (holdWaitExpiry_keepsCall s)⟩
  | tapeOutChange => exact ⟨_, rfl, h.keep (tapeOutChange_keepsCall s _ _)⟩
  | tapeRestoreExpiry => exact ⟨_, rfl, h.keep (tapeRestoreExpiry_keepsCall s)⟩
  | tapeLowChange => exact ⟨_, rfl, h.keep (tapeLowChange_keepsCall s _ _)⟩
  | releaseTimerExpiry => exact ⟨_, rfl, h.keep (releaseTimerExpiry_keepsCall s)⟩
  | confirmedPress => exact ⟨_, rfl, h.keep (confirmedPress_keepsCall s _)⟩
  | confirmedRelease => exact ⟨_, rfl, h.keep (confirmedRelease_keepsCall s _)⟩
  | replayCopy => exact ⟨_, rfl, h.keep (replayCopy_keepsCall s)⟩

/-- Settles O10: a row keeps the call, or is an entry of the Call Controller that makes a sound call of its new
state. -/
theorem everyStepKeepsCallLineAndMotorTogether : Obligations.EveryStepKeepsCallLineAndMotorTogether := by
  intro s t h hstep
  unfold step at hstep
  split at hstep
  · next c rest _ =>
    have htaken : State.CallSound { s with pending := rest } := h.keep (.still rfl rfl)
    obtain ⟨u, hexec, hsound⟩ := exec_callSound htaken c
    rw [hexec] at hstep
    cases hstep
    exact hsound
  · cases hstep
    exact h.keep (.still rfl rfl)

end Sys2Proof.Machine
end

section
/-! The commands of the Call Controller, the line and the call record: a taken frame is what its owner does, whatever
reply was pending (R73, R74, R78, R82 to R84, R90). -/

namespace Sys2Proof.Machine

/-! ## The owners do not look at the pending reply -/

section
variable (s : State) (p : PendingReply)

theorem acceptCall_withReply : acceptCall (s.withReply p) = acceptCall s := by
  unfold acceptCall
  rw [State.enterAnswering_withReply, State.carryOn_withReply, State.withReply_accept, State.withReply_refuse]

theorem declineCall_withReply : declineCall (s.withReply p) = declineCall s := by
  unfold declineCall
  rw [State.declineOffer_withReply, State.carryOn_withReply, State.withReply_accept, State.withReply_refuse]

theorem placeCall_withReply : placeCall (s.withReply p) = placeCall s := by
  unfold placeCall
  rw [State.enterCalling_withReply, State.carryOn_withReply, State.withReply_accept, State.withReply_refuse]

theorem clearCall_withReply : clearCall (s.withReply p) = clearCall s := by
  have hstate : (s.withReply p).call.state = s.call.state := rfl
  unfold clearCall
  rw [State.enterClearing_withReply, State.failAttempt_withReply, (s.enterClearing .station).carryOn_withReply,
    (s.failAttempt .station).carryOn_withReply, (s.enterClearing .station).carryOn.withReply_accept,
    (s.failAttempt .station).carryOn.withReply_accept, State.withReply_refuse, hstate]

theorem State.triggerAnswerback_withReply :
    (s.withReply p).triggerAnswerback = s.triggerAnswerback.withReply p := by
  have hresult : (s.withReply p).answerbackResult = s.answerbackResult := rfl
  unfold State.triggerAnswerback
  rw [hresult]
  split <;> rfl

theorem sendAnswerback_withReply : sendAnswerback (s.withReply p) = sendAnswerback s := by
  unfold sendAnswerback
  rw [State.triggerAnswerback_withReply, State.carryOn_withReply, ← ite_withReply]
  rfl

theorem sendEnquiry_withReply : sendEnquiry (s.withReply p) = sendEnquiry s := by
  have hrequest : (s.withReply p).requestEnquiry = s.requestEnquiry.withReply p := rfl
  unfold sendEnquiry
  rw [hrequest, State.carryOn_withReply, State.withReply_accept, State.withReply_refuse]

theorem sendBreak_withReply : sendBreak (s.withReply p) = sendBreak s := by
  have hrequest : (s.withReply p).requestBreak = s.requestBreak.withReply p := rfl
  unfold sendBreak
  rw [hrequest, State.carryOn_withReply, State.withReply_accept, State.withReply_refuse]

theorem resumeSend_withReply : resumeSend (s.withReply p) = resumeSend s := by
  have hended : (s.withReply p).endHold = s.endHold.withReply p := rfl
  unfold resumeSend
  rw [hended, State.carryOn_withReply, ← ite_withReply]
  rfl

theorem reload_withReply_of_inService (h : s.call.state ≠ .outOfService) :
    reload (s.withReply p) = s.refuse 0x26 .wrongState := if_neg h

end

/-! ## A command frame that is taken -/

/-- A frame of two bytes, taken in turn, is what its owner does when the owner does not look at the reply (R173). -/
theorem State.taken_eq {s : State} (h : s.TakesCommands) {kind : Byte} {owner : State → State}
    (hkind : isCommandKind kind = true) (hlength : lengthAllowed kind ([] : List Byte).length = true)
    (hreply : owner (s.withReply (.awaited none)) = owner s) : s.hostCommand kind [] owner = owner s :=
  (State.hostCommand_taken h owner hkind hlength (Nat.zero_le 48)).trans hreply

section
variable {s : State} (h : s.TakesCommands)
include h

theorem exec_acceptCall : exec .acceptCall s = .next (acceptCall s) :=
  congrArg Host.Outcome.next (State.taken_eq h rfl rfl (acceptCall_withReply s _))

theorem exec_declineCall : exec .declineCall s = .next (declineCall s) :=
  congrArg Host.Outcome.next (State.taken_eq h rfl rfl (declineCall_withReply s _))

theorem exec_placeCall : exec .placeCall s = .next (placeCall s) :=
  congrArg Host.Outcome.next (State.taken_eq h rfl rfl (placeCall_withReply s _))

theorem exec_clearCall : exec .clearCall s = .next (clearCall s) :=
  congrArg Host.Outcome.next (State.taken_eq h rfl rfl (clearCall_withReply s _))

theorem exec_sendAnswerback : exec .sendAnswerback s = .next (sendAnswerback s) :=
  congrArg Host.Outcome.next (State.taken_eq h rfl rfl (sendAnswerback_withReply s _))

theorem exec_sendEnquiry : exec .sendEnquiry s = .next (sendEnquiry s) :=
  congrArg Host.Outcome.next (State.taken_eq h rfl rfl (sendEnquiry_withReply s _))

theorem exec_sendBreak : exec .sendBreak s = .next (sendBreak s) :=
  congrArg Host.Outcome.next (State.taken_eq h rfl rfl (sendBreak_withReply s _))

theorem exec_resumeSend : exec .resumeSend s = .next (resumeSend s) :=
  congrArg Host.Outcome.next (State.taken_eq h rfl rfl (resumeSend_withReply s _))

/-- RELOAD is refused but in OUT OF SERVICE (R191). -/
theorem exec_reload_of_inService (hc : s.call.state ≠ .outOfService) :
    exec .reload s = .next (s.refuse 0x26 .wrongState) :=
  congrArg Host.Outcome.next
    ((State.hostCommand_taken h reload rfl rfl (by simp)).trans (reload_withReply_of_inService s _ hc))

theorem exec_getCall : exec .getCall s = .next (getCall s) :=
  congrArg Host.Outcome.next (State.taken_eq h rfl rfl rfl)

end

/-! ## The owners by the state of the call -/

section
variable {s : State}

/-- R84: CLEAR CALL clears a call that stands or is being placed. -/
theorem clearCall_of_connection (hc : s.call.state = .connected ∨ s.call.state = .calling) :
    clearCall s = (s.enterClearing .station).carryOn.accept 0x0E .done := by
  unfold clearCall
  rcases hc with hc | hc <;> rw [hc]

/-- R73: CLEAR CALL ends an attempt that is being answered. -/
theorem clearCall_of_answering (hc : s.call.state = .answering) :
    clearCall s = (s.failAttempt .station).carryOn.accept 0x0E .done := by
  unfold clearCall
  rw [hc]

theorem clearCall_of_no_call (hconnected : s.call.state ≠ .connected) (hcalling : s.call.state ≠ .calling)
    (hanswering : s.call.state ≠ .answering) : clearCall s = s.refuse 0x0E .wrongState := by
  unfold clearCall
  split
  · next hc => exact absurd hc hconnected
  · next hc => exact absurd hc hcalling
  · next hc => exact absurd hc hanswering
  · rfl

/-- R82: a free answerback begins at its first position. -/
theorem sendAnswerback_of_started (hc : s.call.state = .connected) (hfree : s.ltx.answerback = none)
    (hlist : s.isl.answerback ≠ []) : sendAnswerback s =
      ({ s with ltx := { s.ltx with answerback := some 0 } }).carryOn.accept 0x0F (.answerback .started) := by
  have hresult : s.answerbackResult = .started := by simp [State.answerbackResult, hfree, hlist]
  rw [sendAnswerback, if_pos hc, if_pos hresult, hresult, State.triggerAnswerback_of_free hfree hlist]

/-- R82: an answerback that does not start changes nothing. -/
theorem sendAnswerback_of_not_started {r : AnswerbackResult} (hc : s.call.state = .connected)
    (hresult : s.answerbackResult = r) (hr : r ≠ .started) : sendAnswerback s = s.accept 0x0F (.answerback r) := by
  rw [sendAnswerback, if_pos hc, hresult, if_neg hr]

/-- R83: RESUME SEND ends a hold that stands. -/
theorem resumeSend_of_hold (hc : s.call.state = .connected) (hhold : s.ltx.hold = true) :
    resumeSend s = ({ s with ltx := { s.ltx with hold := false } }).carryOn.accept 0x12 (.resumed true) := by
  rw [resumeSend, if_pos hc, if_pos hhold, hhold]
  rfl

theorem resumeSend_of_no_hold (hc : s.call.state = .connected) (hhold : s.ltx.hold = false) :
    resumeSend s = s.accept 0x12 (.resumed false) := by
  rw [resumeSend, if_pos hc, if_neg (by simp [hhold]), hhold]

end

/-! ## The obligations -/

/-- Settles O21: each frame reaches its owner, and the owner decides by the state of the call. -/
theorem callCommandsCompleteByTheCallState : Obligations.CallCommandsCompleteByTheCallState := by
  refine ⟨fun s h => ?taken, fun s h => ?refused⟩
  case taken =>
    rw [exec_acceptCall h, exec_declineCall h, exec_placeCall h, exec_clearCall h]
    refine ⟨fun hc => ⟨?_, ?_⟩, fun hc => ?_, fun hc => ?_, fun hc => ?_⟩
    · rw [acceptCall, if_pos hc]
    · rw [declineCall, if_pos hc]
      rfl
    · rw [placeCall, if_pos hc]
    · rw [clearCall_of_connection hc]
    · rw [clearCall_of_answering hc]
  case refused =>
    rw [exec_acceptCall h, exec_declineCall h, exec_placeCall h, exec_clearCall h, exec_sendAnswerback h,
      exec_sendEnquiry h, exec_sendBreak h, exec_resumeSend h]
    refine ⟨fun hc => ⟨?_, ?_⟩, fun hc => ?_, fun h1 h2 h3 => ?_, fun hc => ⟨?_, ?_, ?_, ?_⟩,
      exec_reload_of_inService h⟩
    · rw [acceptCall, if_neg hc]
    · rw [declineCall, if_neg hc]
    · rw [placeCall, if_neg hc]
    · rw [clearCall_of_no_call h1 h2 h3]
    · rw [sendAnswerback, if_neg hc]
    · rw [sendEnquiry, if_neg hc]
    · rw [sendBreak, if_neg hc]
    · rw [resumeSend, if_neg hc]

/-- Settles O22: each frame reaches its owner, and in CONNECTED the owner acts by what LTX is doing. -/
theorem lineCommandsComplete : Obligations.LineCommandsComplete := by
  intro s h hc
  rw [exec_sendAnswerback h, exec_sendEnquiry h, exec_sendBreak h, exec_resumeSend h]
  refine ⟨fun hfree hlist => ?_, fun hbusy => ?_, fun hfree hlist => ?_, ?_, ?_, fun hhold => ?_, fun hhold => ?_⟩
  · rw [sendAnswerback_of_started hc hfree hlist]
  · rw [sendAnswerback_of_not_started hc (if_pos (Option.isSome_iff_ne_none.2 hbusy)) (by decide)]
  · rw [sendAnswerback_of_not_started (r := .empty) hc (by simp [State.answerbackResult, hfree, hlist]) (by decide)]
  · rw [sendEnquiry, if_pos hc]
    rfl
  · rw [sendBreak, if_pos hc]
    rfl
  · rw [resumeSend_of_hold hc hhold]
  · rw [resumeSend_of_no_hold hc hhold]

/-- Settles O23: the owner reads the record as it stands, and its seconds up to now. -/
theorem getCallReportsTheRecord : Obligations.GetCallReportsTheRecord := by
  intro s h
  rw [exec_getCall h]
  rfl

end Sys2Proof.Machine
end

section
/-! The Call Controller's entries, each as one whole next state, and the rows of its timers at their due ticks
(R71 to R78, R84 to R89). -/

namespace Sys2Proof.Machine

/-! ## Timers -/

/-- A timer that is running acts at its due tick (log 1, log 2). -/
theorem State.onTimer_of_due {s : State} {timer : Option Nat} {due : Nat} (h : timer = some due)
    (act : State → State) : s.onTimer timer act = act { s with now := max s.now due } := by
  rw [h]
  rfl

/-- A timer has fallen due when its tick has come. -/
theorem State.reached_some (s : State) (due : Nat) : s.reached (some due) = true ↔ due ≤ s.now := by
  simp [State.reached]

theorem State.reached_none (s : State) : s.reached none = false := rfl

/-- A timed space has lasted when the level is space and its tick has come (R86). -/
theorem State.reached_spaceDue (s : State) (ticks : Nat) :
    s.reached (s.spaceDue ticks) = true ↔ s.lrx.level = .space ∧ s.lrx.since + ticks ≤ s.now := by
  unfold State.spaceDue
  split
  · next h => simp [State.reached_some, h]
  · next h => simp [State.reached_none, h]

/-- A timed mark has lasted when the level is mark and its tick has come (R75). -/
theorem State.reached_markDue (s : State) : s.reached s.markDue = true ↔
    s.lrx.level = .mark ∧ s.lrx.since + s.opt .callRecognition * Config.tenMs ≤ s.now := by
  unfold State.markDue
  split
  · next h => simp [State.reached_some, h]
  · next h => simp [State.reached_none, h]

/-! ## Entry to CONNECTED -/

/-- Settles O47: the nine steps write parts of the state that do not overlap. -/
theorem entryToConnectedTakesItsNineSteps : Obligations.EntryToConnectedTakesItsNineSteps := by
  rintro s timing rfl
  unfold State.enterConnected State.notice State.startEnquiryDelay State.restartIdle State.recordState State.enterCall
    State.rearm State.resetSender State.enableReceiver State.clearLineCase State.copyTiming Call.stopTimers
  rfl

/-! ## The two conditions of a connection -/

/-- R72: an answered call connects when the motor is RUNNING. -/
theorem State.tryConnect_of_answering {s : State} (hc : s.call.state = .answering) :
    s.tryConnect = if s.motor.state = .running then s.enterConnected else s := by
  unfold State.tryConnect
  exact if_congr (by simp [State.motorRunning, hc]) rfl rfl

/-- R75: a placed call connects when the mark has lasted and the motor is RUNNING. -/
theorem State.tryConnect_of_calling {s : State} (hc : s.call.state = .calling) : s.tryConnect =
    if s.motor.state = .running ∧ s.reached s.call.markTiming = true then s.enterConnected else s := by
  unfold State.tryConnect
  exact if_congr (by simp [State.motorRunning, hc]) rfl rfl

/-- R72, R75: no other state connects. -/
theorem State.tryConnect_of_other {s : State} (hanswering : s.call.state ≠ .answering)
    (hcalling : s.call.state ≠ .calling) : s.tryConnect = s := by
  unfold State.tryConnect
  exact if_neg (by simp [hanswering, hcalling])

/-! ## Attempts -/

/-- R72, R73: entry to ANSWERING is the entry's own writes, the demand and the test of the motor. -/
theorem State.enterAnswering_eq (s : State) : s.enterAnswering =
    (State.demandCall { s with call := { s.call.stopTimers with
      state := .answering, enteredAt := s.now, withdrawal := s.call.withdrawal
      record := { s.call.record with state := .answering } } } true).tryConnect := rfl

/-- R74: entry to CALLING is the entry's own writes, the demand and the test of the mark and the motor. -/
theorem State.enterCalling_eq (s : State) : s.enterCalling =
    (State.demandCall { s with call := { s.call.stopTimers with
      state := .calling, enteredAt := s.now
      confirm := some (s.now + s.opt .confirmTime * 100000)
      markTiming := s.markDue
      record := { kind := .placed, state := .calling, outcome := none, openedAt := s.now,
                  elapsed := 0, received := 0, sent := 0, breaks := 0, lineCase := .unknown,
                  caller := none } } } true).tryConnect := rfl

/-- R73, R75, R84: the whole next state of an attempt that ends. -/
theorem State.failAttempt_eq (s : State) (o : CallOutcome) : s.failAttempt o = { s with
    call := { s.call.stopTimers with
      state := .releasing, enteredAt := s.now
      releasing := if s.lrx.level = .space then some (max s.now s.lrx.since + 100000) else none
      record := { s.call.record with state := .ended, outcome := some o, elapsed := s.call.record.seconds s.now } }
    link := s.link.queueNotice (.cleared o 0 0 0 (s.call.record.seconds s.now)) } := rfl

/-- R71 to R73: the timers of an offer and an answer, at their due ticks. -/
theorem attemptTimersAct (due : Nat) (s u : State) (hu : u = { s with now := max s.now due }) :
    (s.call.recognition = some due → exec .callRecognition s = .next u.recognise.carryOn) ∧
    (s.call.withdrawal = some due → exec .withdrawal s = .next u.withdrawn.carryOn) ∧
    (s.call.offer = some due → exec .offerTimeout s =
      .next (if s.opt .offerDefault = 0 then u.enterAnswering else u.declineOffer).carryOn) := by
  subst hu
  exact ⟨fun h => congrArg Host.Outcome.next (State.onTimer_of_due h _),
    fun h => congrArg Host.Outcome.next (State.onTimer_of_due h _),
    fun h => congrArg Host.Outcome.next (State.onTimer_of_due h _)⟩

/-- Settles O45: the rows are their timers' actions by the policy and the state, and each entry is its writes and then
the test of its conditions. -/
theorem attemptsBeginAndEnd : Obligations.AttemptsBeginAndEnd := by
  refine ⟨fun due s u hu => ?rows, ⟨fun due s h => ?noConfirm, fun o s seconds hseconds => ?failed⟩,
    ⟨fun s kind state => rfl, fun c => rfl, fun s => rfl, fun s v hv => ?answering, fun s v hv => ?calling⟩⟩
  case rows =>
    obtain ⟨recognition, withdrawal, offer⟩ := attemptTimersAct due s u hu
    have hopt : u.opt = s.opt := by rw [hu]; rfl
    have hstate : u.call.state = s.call.state := by rw [hu]
    refine ⟨fun h => ?_, fun h => ?_, fun h => ?_⟩
    · rw [recognition h]
      exact ⟨fun hp => by simp only [State.recognise, hopt, hp], fun hp => by simp only [State.recognise, hopt, hp],
        fun hp => by simp only [State.recognise, hopt, hp]⟩
    · rw [withdrawal h, State.withdrawn, hstate]
      exact ⟨fun hc => by rw [hc], fun hc => by rw [hc]⟩
    · rw [offer h]
      exact ⟨fun hd => by rw [if_pos hd], fun hd => by rw [if_neg (by simp [hd]), State.declineOffer]⟩
  case noConfirm => exact congrArg Host.Outcome.next (State.onTimer_of_due h _)
  case failed =>
    subst hseconds
    exact State.failAttempt_eq s o
  case answering =>
    have hc : v.call.state = .answering := by rw [hv]; rfl
    rw [State.enterAnswering_eq, ← hv, State.tryConnect_of_answering hc]
    exact ⟨fun h => if_pos h, fun h => if_neg h⟩
  case calling =>
    have hentry : s.enterCalling = v.tryConnect := by rw [hv]; exact State.enterCalling_eq s
    have hc : v.call.state = .calling := by rw [hv]; rfl
    have hdue : v.reached v.call.markTiming = s.reached s.markDue := by rw [hv]; rfl
    have hboth : (v.motor.state = .running ∧ v.reached v.call.markTiming = true) ↔ v.motor.state = .running ∧
        s.lrx.level = .mark ∧ s.lrx.since + s.opt .callRecognition * 1000 ≤ s.now := by
      rw [hdue, State.reached_markDue]
      rfl
    rw [hentry, State.tryConnect_of_calling hc]
    exact ⟨fun h => if_pos (hboth.2 h), fun h => if_neg (mt hboth.1 h)⟩

end Sys2Proof.Machine
end

section
/-! The motor's run-up and the timers of a connection, of CLEARING and of RELEASING at their due ticks, and entry to
CLEARING as one whole next state (R72, R75 to R79, R84 to R88, R136, R163, R164, R171). -/

namespace Sys2Proof.Machine

/-! ## The run-up and the timers of a connection -/

/-- R163: a run-up that ends without demand goes into the run-on. -/
theorem runUpExpiry_of_no_demand {s : State} {due : Nat} (h : s.motor.state = .runUp due)
    (hempty : s.motor.demand.isEmpty = true) : runUpExpiry s = { s with
      now := max s.now due
      motor := { s.motor with
        state := .runOn (max s.now due + s.opt .runOnTime * 100000), printWithdrawn := false } } := by
  unfold runUpExpiry
  rw [h]
  exact if_pos hempty

/-- R163, R164: a run-up that ends with demand goes into RUNNING, which a call may have waited for. -/
theorem runUpExpiry_of_demand {s : State} {due : Nat} (h : s.motor.state = .runUp due)
    (hdemand : s.motor.demand.isEmpty = false) : runUpExpiry s =
      (State.tryConnect { s with now := max s.now due, motor := { s.motor with state := .running } }).carryOn := by
  have hdemand' : (s.advance due).motor.demand.isEmpty = false := hdemand
  unfold runUpExpiry
  rw [h]
  dsimp only
  rw [hdemand', if_neg (by decide)]
  rfl

/-- Settles O46: RUNNING and the lasted mark are tested where they come about; a timer of a connection does the one
thing it was started for. -/
theorem connectionRowsComplete : Obligations.ConnectionRowsComplete := by
  refine ⟨fun due s u r hu hr => ⟨fun hm => ⟨fun hempty => ?runOn, fun hdemand => ?running⟩, fun hmark hc => ?confirmed,
    fun hm => ?off, fun hbell => ?bell⟩, fun due s => ⟨fun h => ?idle, fun h => ?enquiry, fun n h => ?capture⟩⟩
  case runOn =>
    subst hu
    exact congrArg Host.Outcome.next (runUpExpiry_of_no_demand hm hempty)
  case running =>
    have hrow : exec .runUpExpiry s = .next r.tryConnect.carryOn := by
      subst hr hu
      exact congrArg Host.Outcome.next (runUpExpiry_of_demand hm hdemand)
    have hcall : r.call = s.call := by rw [hr, hu]
    have hnow : r.now = u.now := by rw [hr]
    have hrunning : r.motor.state = .running := by rw [hr]
    rw [hrow, ← hcall, ← hnow]
    refine ⟨fun hc => ?_, fun hc => ⟨fun m hm hle => ?_, fun m hm hlt => ?_, fun hm => ?_⟩, fun h1 h2 => ?_⟩
    · rw [State.tryConnect_of_answering hc, if_pos hrunning]
    · rw [State.tryConnect_of_calling hc, if_pos ⟨hrunning, by rw [hm]; exact (r.reached_some m).2 hle⟩]
    · rw [State.tryConnect_of_calling hc, if_neg]
      rintro ⟨-, hreached⟩
      rw [hm, State.reached_some] at hreached
      omega
    · rw [State.tryConnect_of_calling hc, if_neg]
      rintro ⟨-, hreached⟩
      rw [hm, State.reached_none] at hreached
      cases hreached
    · rw [State.tryConnect_of_other h1 h2]
  case confirmed =>
    have hrow : exec .confirmation s = .next u.tryConnect.carryOn := by
      subst hu
      exact congrArg Host.Outcome.next (State.onTimer_of_due hmark _)
    have hmotor : u.motor = s.motor := by rw [hu]
    have hstate : u.call.state = .calling := by rw [hu]; exact hc
    have hreached : u.reached u.call.markTiming = true := by
      rw [hu]
      dsimp only
      rw [hmark, State.reached_some]
      exact Nat.le_max_right _ _
    rw [hrow, State.tryConnect_of_calling hstate, hmotor]
    exact ⟨fun h => by rw [if_pos ⟨h, hreached⟩], fun h => by rw [if_neg fun hboth => h hboth.1]⟩
  case off =>
    subst hu
    change Host.Outcome.next (runOnExpiry s) = _
    rw [runOnExpiry, hm]
    rfl
  case bell =>
    subst hu
    exact congrArg Host.Outcome.next (State.onTimer_of_due hbell _)
  case idle => exact congrArg Host.Outcome.next (State.onTimer_of_due h _)
  case enquiry => exact congrArg Host.Outcome.next (State.onTimer_of_due h _)
  case capture =>
    change Host.Outcome.next (captureWindowExpiry s) = _
    rw [captureWindowExpiry, h]
    rfl

/-! ## The ends of CLEARING and RELEASING -/

/-- R136: the punch after a MARKED LINE release has become DUE. -/
def Punch.lineDue (p : Punch) : Punch := if p.lineRelease = .marked then { p with lineRelease := .due } else p

/-- R86, R136: a MARKED LINE release becomes DUE, and nothing else changes. -/
theorem State.lineReleaseDue_eq (s : State) : s.lineReleaseDue = { s with punch := s.punch.lineDue } := by
  unfold State.lineReleaseDue Punch.lineDue
  split <;> rfl

/-- R86, R88, R136: the whole next state of a CLEARING that ends. -/
theorem State.endClearing_eq {s : State} {cause : CallOutcome} (hcause : s.call.clearCause = some cause) :
    s.endClearing = { s with
      call := { s.call.stopTimers with
        state := .releasing, enteredAt := s.now
        releasing := if s.lrx.level = .space then some (max s.now s.lrx.since + 100000) else none
        record := { s.call.record with
          state := .ended, outcome := some cause, elapsed := s.call.record.seconds s.now } }
      link := s.link.queueNotice (.cleared cause s.call.record.sent s.call.record.received s.call.sendDiscarded
        (s.call.record.seconds s.now))
      punch := s.punch.lineDue } := by
  unfold State.endClearing
  rw [hcause]
  dsimp only
  rw [State.lineReleaseDue_eq]
  rfl

/-- R68, R70, R88: RELEASING ends in IDLE, or in OUT OF SERVICE where STOP SERVICE waited for it. -/
theorem State.endReleasing_eq (s : State) : s.endReleasing =
    if s.call.stopPending = true then { s.demandCall false with call :=
      { s.call.stopTimers with state := .outOfService, enteredAt := s.now, stopPending := false } }
    else { s.demandCall false with call := { s.call.stopTimers with state := .idle, enteredAt := s.now } } := rfl

/-- Settles O49: the end of CLEARING by either timer is one operation, and so is the end of RELEASING. -/
theorem clearingAndReleasingRowsComplete : Obligations.ClearingAndReleasingRowsComplete := by
  rintro due s u rfl
  refine ⟨fun cause seconds hcause hseconds t ht => ?clearing, fun h => ?releasing⟩
  case clearing =>
    have hend : State.endClearing { s with now := max s.now due } = t := by
      rw [ht, hseconds]
      exact State.endClearing_eq hcause
    rw [← hend]
    exact ⟨fun h => congrArg Host.Outcome.next (State.onTimer_of_due h _),
      fun h => congrArg Host.Outcome.next (State.onTimer_of_due h _)⟩
  case releasing =>
    have hrow : exec .releasingEnd s = .next (State.endReleasing { s with now := max s.now due }).carryOn :=
      congrArg Host.Outcome.next (State.onTimer_of_due h _)
    rw [hrow, State.endReleasing_eq]
    exact ⟨fun hstop => by rw [if_neg (by simp [hstop])], fun hstop => by rw [if_pos (by exact hstop)]⟩

/-! ## Entry to CLEARING -/

/-- R85, steps 1 to 4, with the cells of SEND returned and counted (R11). -/
theorem State.leaveLine_eq (s : State) (cause : CallOutcome) : s.leaveLine cause = { s with
    ltx := Ltx.reset
    lrx := { s.lrx with state := .disabled, guard := none }
    store := { s.store with free := s.store.send.chain.reverse ++ s.store.free, send := Spool.empty }
    call := { s.call.stopTimers with
      state := .clearing, enteredAt := s.now, clearCause := some cause
      sendDiscarded := s.store.send.cells.length
      record := { s.call.record with state := .clearing } } } := by
  unfold State.leaveLine State.emptySend
  simp only [Store.emptySpool_eq]
  rfl

/-- R100: without a RECEIVING record the end of filing only forgets the part. -/
theorem State.endFiling_of_none {s : State} (cause : FilingCause) (h : s.file.receiving = none) :
    s.endFiling cause = { s with file := { s.file with lastPart := 0 } } := by
  unfold State.endFiling
  rw [h]

/-- R100: a RECEIVING record is closed as not continued at a clear, and reported. -/
theorem State.endFiling_clear_of_some {s : State} {m c : Message} (h : s.file.receiving = some m)
    (hc : c = m.close false s.call.record.caller s.now) : s.endFiling .clear = { s with
      file := { s.file with
        records := s.file.records.map fun r => if r.number = m.number then c else r
        lastPart := 0 }
      link := s.link.queueNotice (.messageFiled (c.summary s.now) .clear) } := by
  subst hc
  unfold State.endFiling
  rw [h]
  rfl

/-- R136: the punch with the release of a LINE owner MARKED. -/
def Punch.lineMarked (p : Punch) : Punch :=
  if p.owner = some .line then { p with lineRelease := .marked } else p

/-- R85, step 6, R136: a LINE owner's release is MARKED, and nothing else changes. -/
theorem State.markLineRelease_eq (s : State) : s.markLineRelease = { s with punch := s.punch.lineMarked } := by
  unfold State.markLineRelease Punch.lineMarked
  split <;> rfl

/-- R85: the steps of entry to CLEARING, over what filing left. -/
theorem State.beginClearing_eq {s : State} {cause : CallOutcome} {filed : List Message} {l : Link}
    (hfiled : (s.leaveLine cause).endFiling .clear = { s.leaveLine cause with
      file := { s.file with records := filed, lastPart := 0 }, link := l }) :
    s.beginClearing cause = { s with
      ltx := Ltx.reset
      lrx := { s.lrx with state := .disabled, guard := none }
      store := { s.store with
        free := s.store.send.chain.reverse ++ s.store.free, send := Spool.empty, episode := .closed }
      file := { s.file with records := filed, lastPart := 0 }
      link := l
      punch := s.punch.lineMarked
      call := { s.call.stopTimers with
        state := .clearing, enteredAt := s.now, clearCause := some cause
        sendDiscarded := s.store.send.cells.length
        clearing := some (s.now + 500000)
        clearSpace := s.spaceDue (s.timing.clearRec * 1000)
        record := { s.call.record with state := .clearing } } } := by
  unfold State.beginClearing
  rw [hfiled, State.markLineRelease_eq, State.leaveLine_eq]
  rfl

/-- R86: CLEARING ends at entry for a far-end clear, and where the space has lasted. -/
theorem State.enterClearing_eq (s : State) (cause : CallOutcome) : s.enterClearing cause =
    if cause = .farEnd ∨ (s.beginClearing cause).reached (s.beginClearing cause).call.clearSpace = true then
      (s.beginClearing cause).endClearing
    else s.beginClearing cause := rfl

/-- R136: a release MARKED at entry, or before it, is DUE at the end. -/
theorem Punch.lineMarked_lineDue (p : Punch) : p.lineMarked.lineDue =
    if p.owner = some .line ∨ p.lineRelease = .marked then { p with lineRelease := .due } else p := by
  unfold Punch.lineDue Punch.lineMarked
  by_cases howner : p.owner = some .line
  · simp only [howner, if_true, true_or]
  · simp only [howner, if_false, false_or]

/-- Settles O48: the parts that entry writes do not overlap, the space that CLEARING waits for is the one R86 times, and
its end works on what entry left. -/
theorem entryToClearingTakesItsSteps : Obligations.EntryToClearingTakesItsSteps := by
  intro s u cause ends filed l seconds hnone hsome hends hseconds hu
  have hfiled : (s.leaveLine cause).endFiling .clear = { s.leaveLine cause with
      file := { s.file with records := filed, lastPart := 0 }, link := l } := by
    rw [State.leaveLine_eq]
    cases hreceiving : s.file.receiving with
    | none =>
      obtain ⟨rfl, rfl⟩ := hnone hreceiving
      exact State.endFiling_of_none .clear hreceiving
    | some m =>
      obtain ⟨rfl, rfl⟩ := hsome m _ hreceiving rfl
      exact State.endFiling_clear_of_some hreceiving rfl
  have hbegun : s.beginClearing cause = u := (State.beginClearing_eq hfiled).trans hu.symm
  have hreached : (cause = .farEnd ∨ u.reached u.call.clearSpace = true) ↔ ends := by
    have hsame : u.reached u.call.clearSpace = s.reached (s.spaceDue (s.timing.clearRec * Config.tenMs)) := by
      rw [hu]
      rfl
    rw [hends, hsame, State.reached_spaceDue]
    rfl
  rw [State.enterClearing_eq, hbegun]
  refine ⟨fun hnot => if_neg (mt hreached.1 hnot), fun hend => (if_pos (hreached.2 hend)).trans ?_⟩
  rw [State.endClearing_eq (cause := cause) (by rw [hu]), ← Punch.lineMarked_lineDue, hu, hseconds]
  rfl

end Sys2Proof.Machine
end

section
/-! What holds of the file by itself, and the record operations that keep it (R93 to R98, R104 to R107). -/

namespace Sys2Proof.Machine

/-! ## The invariant of the file -/

/-- R93 to R98, R105: the invariant of the Message File, on the file alone. -/
structure File.Sound (f : File) : Prop where
  few : f.records.length ≤ Config.fileRecords
  numbers : (f.records.map Message.number).Nodup
  each : ∀ m ∈ f.records, m.Sound
  receiving : f.records.countP (fun m => m.state == .receiving) ≤ 1
  replaying : ∀ m ∈ f.records, m.state = .replaying ↔ f.replay.map Replay.number = some m.number
  replay : ∀ r ∈ f.replay, ∃ m ∈ f.records, m.number = r.number ∧ r.position < m.cells.length

theorem State.fileSound_iff {s : State} : s.FileSound ↔ s.file.Sound :=
  ⟨fun ⟨few, numbers, each, receiving, replaying, replay⟩ => ⟨few, numbers, each, receiving, replaying, replay⟩,
    fun ⟨few, numbers, each, receiving, replaying, replay⟩ => ⟨few, numbers, each, receiving, replaying, replay⟩⟩

/-- The record that is filed into is RECEIVING (R93). -/
theorem File.state_of_receiving {f : File} {m : Message} (h : f.receiving = some m) : m.state = .receiving := by
  simpa using List.find?_some h

/-- The record of a number holds it. -/
theorem File.number_of_find {f : File} {number : Nat} {m : Message} (h : f.find number = some m) :
    m.number = number := by
  simpa using List.find?_some h

/-- A record replaced twice is the second one (R97, R98). -/
theorem File.replace_replace (f : File) {m m' : Message} (h : m'.number = m.number) :
    (f.replace m).replace m' = f.replace m' := by
  simp only [File.replace, List.map_map, h]
  congr 1
  refine List.map_congr_left fun r _ => ?_
  by_cases hr : r.number = m.number <;> simp [hr]

section Keeps

variable {f g : File} (h : f.Sound)
include h

/-- Numbers differ, so a number names one record (R94). -/
theorem File.Sound.eq_of_number {m m' : Message} (hm : m ∈ f.records) (hm' : m' ∈ f.records)
    (heq : m'.number = m.number) : m' = m :=
  List.inj_on_of_nodup_map h.numbers hm' hm heq

/-- Records that change one by one, with their numbers kept and none of them newly RECEIVING, stay sound. -/
theorem File.Sound.mapped (change : Message → Message) (records : g.records = f.records.map change)
    (number : ∀ m ∈ f.records, (change m).number = m.number) (each : ∀ m ∈ f.records, (change m).Sound)
    (receiving : ∀ m ∈ f.records, (change m).state = .receiving → m.state = .receiving)
    (replaying : ∀ m ∈ f.records, (change m).state = .replaying ↔ g.replay.map Replay.number = some m.number)
    (replay : ∀ r ∈ g.replay, ∃ m ∈ f.records, m.number = r.number ∧ r.position < (change m).cells.length) :
    g.Sound where
  few := by simpa [records] using h.few
  numbers := by
    rw [records, List.map_map, List.map_congr_left (f := Message.number ∘ change) number]
    exact h.numbers
  each := by simpa [records] using each
  receiving := by
    rw [records, List.countP_map]
    exact (List.countP_mono_left fun m hm => by simpa using receiving m hm).trans h.receiving
  replaying := by
    rw [records, List.forall_mem_map]
    exact fun m hm => number m hm ▸ replaying m hm
  replay := fun r hr => by
    obtain ⟨m, hm, hnumber, hposition⟩ := replay r hr
    exact ⟨change m, records ▸ List.mem_map_of_mem hm, (number m hm).trans hnumber, hposition⟩

/-- A record replaced by a sound one, no shorter, neither newly RECEIVING nor with another part in a replay (R97,
R98). -/
theorem File.Sound.replace {m m' : Message} (hm : m ∈ f.records) (number : m'.number = m.number) (sound : m'.Sound)
    (receiving : m'.state = .receiving → m.state = .receiving)
    (replaying : m'.state = .replaying ↔ m.state = .replaying) (grows : m.cells.length ≤ m'.cells.length) :
    (f.replace m').Sound := by
  have hone : ∀ r ∈ f.records, r.number = m'.number → r = m := fun r hr heq =>
    h.eq_of_number hm hr (heq.trans number)
  refine h.mapped (fun r => if r.number = m'.number then m' else r) rfl (fun r _ => ?_) (fun r hr => ?_)
    (fun r hr => ?_) (fun r hr => ?_) (fun r hr => ?_)
  · split
    · next heq => exact heq.symm
    · rfl
  · split
    · exact sound
    · exact h.each r hr
  · split
    · next heq => exact fun hs => hone r hr heq ▸ receiving hs
    · exact id
  · split
    · next heq =>
      rw [replaying, ← hone r hr heq]
      exact h.replaying r hr
    · exact h.replaying r hr
  · obtain ⟨k, hk, hnumber, hposition⟩ := h.replay r hr
    refine ⟨k, hk, hnumber, ?_⟩
    split
    · next heq => exact (hone k hk heq ▸ hposition).trans_le grows
    · exact hposition

/-- A sound RECEIVING record with a number of its own opens at the end of a file that has none (R93, R96). -/
theorem File.Sound.opened {m : Message} (records : g.records = f.records ++ [m]) (replay : g.replay = f.replay)
    (few : f.records.length < Config.fileRecords) (none_receiving : f.receiving = none)
    (number : m.number ∉ f.records.map Message.number) (sound : m.Sound) (state : m.state = .receiving) : g.Sound where
  few := by simpa [records] using few
  numbers := by
    rw [records, List.map_append]
    exact h.numbers.append (List.nodup_singleton _) (by simpa using number)
  each := by
    rw [records, List.forall_mem_append]
    exact ⟨h.each, by simpa using sound⟩
  receiving := by
    have hnone : f.records.countP (fun r => r.state == .receiving) = 0 :=
      List.countP_eq_zero.mpr (List.find?_eq_none.mp none_receiving)
    rw [records, List.countP_append, hnone, Nat.zero_add]
    exact List.countP_le_length
  replaying := by
    have hother : f.replay.map Replay.number ≠ some m.number := fun heq => by
      obtain ⟨r, hr, hnumber⟩ := Option.map_eq_some_iff.mp heq
      obtain ⟨k, hk, hkr, -⟩ := h.replay r hr
      exact number (List.mem_map.mpr ⟨k, hk, hkr.trans hnumber⟩)
    rw [records, replay, List.forall_mem_append]
    exact ⟨h.replaying, by simpa [state] using hother⟩
  replay := fun r hr => by
    obtain ⟨k, hk, hrest⟩ := h.replay r (replay ▸ hr)
    exact ⟨k, records ▸ List.mem_append_left _ hk, hrest⟩

/-- A record that is not being replayed leaves the file (R104). -/
theorem File.Sound.delete {m : Message} (hm : m ∈ f.records) (state : m.state ≠ .replaying) :
    ({ f with records := f.records.filter fun r => r.number != m.number } : File).Sound where
  few := (List.length_filter_le _ _).trans h.few
  numbers := h.numbers.sublist (List.filter_sublist.map _)
  each := fun r hr => h.each r (List.mem_of_mem_filter hr)
  receiving := (List.filter_sublist.countP_le).trans h.receiving
  replaying := fun r hr => h.replaying r (List.mem_of_mem_filter hr)
  replay := fun r hr => by
    obtain ⟨k, hk, hnumber, hposition⟩ := h.replay r hr
    have hother : k.number ≠ m.number := fun heq =>
      state ((h.replaying m hm).mpr (Option.map_eq_some_iff.mpr ⟨r, hr, hnumber.symm.trans heq⟩))
    exact ⟨k, List.mem_filter.mpr ⟨hk, by simpa using hother⟩, hnumber, hposition⟩

/-- A record becomes the replayed one, from its first cell, when no replay is in progress (R105). -/
theorem File.Sound.beginReplay {m : Message} (hm : m ∈ f.records) (hnone : f.replay = none) (t : ReplayTarget) :
    ({ f.replace { m with state := .replaying } with
      replay := some { number := m.number, target := t, position := 0 } } : File).Sound := by
  have hidle : ∀ r ∈ f.records, r.state ≠ .replaying := fun r hr hs => by
    simpa [hnone] using (h.replaying r hr).mp hs
  obtain ⟨number, cells, chain, -⟩ := h.each m hm
  refine h.mapped (fun r => if r.number = m.number then { m with state := .replaying } else r) rfl
    (fun r _ => ?_) (fun r hr => ?_) (fun r hr => ?_) (fun r hr => ?_) (fun r hr => ?_)
  · split
    · next heq => exact heq.symm
    · rfl
  · split
    · exact ⟨number, cells, chain, nofun⟩
    · exact h.each r hr
  · split
    · exact nofun
    · exact id
  · split
    · next heq => simp [heq]
    · next hne => simpa [Ne.symm hne] using hidle r hr
  · cases hr
    refine ⟨m, hm, rfl, ?_⟩
    rw [if_pos rfl]
    exact cells.1

/-- The replay moves on to a position inside its record (R106). -/
theorem File.Sound.advance {r : Replay} {m : Message} (hr : f.replay = some r) (hm : m ∈ f.records)
    (number : m.number = r.number) {position : Nat} (inside : position < m.cells.length) :
    ({ f with replay := some { r with position := position } } : File).Sound where
  few := h.few
  numbers := h.numbers
  each := h.each
  receiving := h.receiving
  replaying := fun k hk => by simpa [hr] using h.replaying k hk
  replay := fun r' hr' => by
    cases hr'
    exact ⟨m, hm, number, inside⟩

/-- The end of a replay returns its record to FILED (R106, R107, R109). -/
theorem File.Sound.endReplay : f.endReplay.Sound := by
  unfold File.endReplay
  split
  · next r hr =>
    refine h.mapped (fun m => if m.number = r.number then { m with state := .filed } else m) rfl
      (fun m _ => ?_) (fun m hm => ?_) (fun m hm => ?_) (fun m hm => ?_) nofun
    · split <;> rfl
    · obtain ⟨number, cells, chain, growing⟩ := h.each m hm
      split
      · exact ⟨number, cells, chain, nofun⟩
      · exact ⟨number, cells, chain, growing⟩
    · split
      · exact nofun
      · exact id
    · split
      · simp
      · next hne =>
        rw [h.replaying m hm, hr]
        simp [Ne.symm hne]
  · exact h

end Keeps

/-- The power-on value of the file is sound (R184). -/
theorem File.reset_sound : File.reset.Sound := State.fileSound_iff.mp State.reset_fileSound

end Sys2Proof.Machine
end

section
/-! The next number, the growth of a chain, and what filing a cell does, case by case (R12, R94 to R99). -/

namespace Sys2Proof.Machine

/-! ## The next number -/

/-- The search ends on a number of the cycle, with every number before it used (R94). -/
theorem freeNumber_eq_iterate (used : List Nat) (fuel c : Nat) :
    ∃ k, freeNumber used fuel c = numberAfter^[k] c ∧ ∀ j < k, numberAfter^[j] c ∈ used := by
  induction fuel generalizing c with
  | zero => exact ⟨0, rfl, nofun⟩
  | succ fuel ih =>
    rw [freeNumber]
    split
    · next hused =>
      obtain ⟨k, heq, hall⟩ := ih (numberAfter c)
      refine ⟨k + 1, heq, fun j hj => ?_⟩
      cases j with
      | zero => simpa using hused
      | succ j => exact hall j (by omega)
    · exact ⟨0, rfl, nofun⟩

theorem numberAfter_range (n : Nat) : 1 ≤ numberAfter n ∧ numberAfter n ≤ 255 := by
  unfold numberAfter
  split <;> omega

/-- The next number is the first one after the last, round the cycle, that no record holds (R94). -/
theorem File.nextNumber_first {f : File} (few : f.records.length < Config.fileRecords) :
    ∃ k, f.nextNumber = (numberAfter f.lastNumber - 1 + k) % 255 + 1 ∧
      f.nextNumber ∉ f.records.map Message.number ∧
      ∀ j < k, (numberAfter f.lastNumber - 1 + j) % 255 + 1 ∈ f.records.map Message.number := by
  have hcycle := numberAfter_iterate (numberAfter_range f.lastNumber)
  obtain ⟨k, heq, hall⟩ := freeNumber_eq_iterate (f.records.map Message.number) 255 (numberAfter f.lastNumber)
  exact ⟨k, heq.trans (hcycle k), File.nextNumber_fresh (few.trans (by decide)), fun j hj => hcycle j ▸ hall j hj⟩

/-! ## The growth of a chain -/

section Chain
variable {st : Store} {cells : Nat}

/-- R12: a chain whose last block has room takes a cell without a block. -/
theorem Store.chainRefusal_of_room (h : cells % 16 ≠ 0) : st.chainRefusal cells = none := if_pos h

theorem Store.chainAppend_of_room (h : cells % 16 ≠ 0) (chain : List Nat) :
    st.chainAppend chain cells = (chain, st) := if_pos h

/-- R12, R14: a full last block asks for a free block beyond the reserve. -/
theorem Store.chainRefusal_of_reserve (h : cells % 16 = 0) (hfree : st.freeCount ≤ 24) :
    st.chainRefusal cells = some .reserve := by
  simp [Store.chainRefusal, Config.blockCells, Config.fileReserve, h, Nat.not_lt.mpr hfree]

theorem Store.chainRefusal_of_free (hfree : 24 < st.freeCount) : st.chainRefusal cells = none := by
  simp [Store.chainRefusal, Config.fileReserve, hfree]

theorem Store.chainAppend_of_free (h : cells % 16 = 0) (hfree : 24 < st.freeCount) (chain : List Nat) :
    st.chainAppend chain cells = (chain ++ st.free.take 1, { st with free := st.free.tail }) := by
  unfold Store.chainAppend
  rw [if_neg (by simpa [Config.blockCells] using h)]
  split
  · next hnil => simp [Store.freeCount, hnil] at hfree
  · next b rest hcons => rw [hcons]; rfl

/-- R12: a chain that is not refused holds the blocks one more cell needs. -/
theorem Store.chainAppend_length {chain : List Nat} (hlength : chain.length = (cells + 15) / 16)
    (h : st.chainRefusal cells = none) : (st.chainAppend chain cells).1.length = (cells + 1 + 15) / 16 := by
  by_cases hroom : cells % 16 = 0
  · have hfree : 24 < st.freeCount := by
      by_contra hfew
      simp [Store.chainRefusal_of_reserve hroom (Nat.le_of_not_lt hfew)] at h
    have htake : (st.free.take 1).length = 1 := by
      rw [List.length_take]
      exact min_eq_left (Nat.one_le_of_lt hfree)
    rw [Store.chainAppend_of_free hroom hfree, List.length_append, htake]
    omega
  · rw [Store.chainAppend_of_room hroom, hlength]
    omega

end Chain

/-! ## A cell filed into the RECEIVING record -/

/-- R97: the counts of a record with one more cell. -/
theorem qualityCount_eq (n : Nat) (c : Cell) (q : Quality) :
    qualityCount n c q = n + (if c.quality = q then 1 else 0) := by
  unfold qualityCount
  split <;> rfl

theorem Message.fileCell_length (m : Message) (c : Cell) (chain : List Nat) :
    (m.fileCell c chain).cells.length = m.cells.length + 1 := List.length_append

section FileInto
variable {s : State} {m : Message} {c : Cell} {chain : List Nat} {st : Store}
  (hgrown : s.store.chainAppend m.chain m.cells.length = (chain, st))
include hgrown

theorem State.fileInto_of_room (h : m.cells.length + 1 < 2048) :
    s.fileInto m c = { s with store := st, file := s.file.replace (m.fileCell c chain) } := by
  unfold State.fileInto State.closeIfFull
  rw [hgrown]
  exact if_neg (Nat.not_le.mpr ((Message.fileCell_length m c chain).trans_lt h))

/-- R98: the 2048th cell closes the record. -/
theorem State.fileInto_of_full (h : 2048 ≤ m.cells.length + 1) {x : Message}
    (hx : x = (m.fileCell c chain).close true s.call.record.caller s.now) :
    s.fileInto m c = { s with
      store := st, file := s.file.replace x
      link := s.link.queueNotice (.messageFiled (x.summary s.now) .length) } := by
  subst hx
  have hlast : (s.file.replace (m.fileCell c chain)).replace
      ((m.fileCell c chain).close true s.call.record.caller s.now) =
      s.file.replace ((m.fileCell c chain).close true s.call.record.caller s.now) := File.replace_replace _ rfl
  unfold State.fileInto State.closeIfFull
  rw [hgrown, ← hlast]
  exact if_pos (h.trans_eq (Message.fileCell_length m c chain).symm)

end FileInto

/-! ## An offer to FILE -/

section Offer
variable {s : State} (hc : s.call.state = .connected) (c : Cell)
include hc

theorem State.offerFile_of_receiving {m : Message} (hm : s.file.receiving = some m)
    (hspace : s.store.chainRefusal m.cells.length = none) : s.offerFile c = (s.fileInto m c, none) := by
  simp only [State.offerFile, hc, ne_eq, not_true_eq_false, if_false, hm, hspace]

/-- R97, R99: a RECEIVING record that cannot grow counts the loss. -/
theorem State.offerFile_of_refused {m : Message} (hm : s.file.receiving = some m) {r : SpaceReason}
    (hspace : s.store.chainRefusal m.cells.length = some r) :
    s.offerFile c = ({ s with file := s.file.replace { m with lost := satAdd m.lost 1 } }, some (.space .file r)) := by
  simp only [State.offerFile, hc, ne_eq, not_true_eq_false, if_false, hm, hspace]

variable (hnone : s.file.receiving = none)
include hnone

/-- R93, R99: a full file opens no record. -/
theorem State.offerFile_of_full_file (hfull : 24 ≤ s.file.records.length) :
    s.offerFile c = (s.fileFullNotice, some .fileFull) := by
  simp only [State.offerFile, hc, ne_eq, not_true_eq_false, if_false, hnone]
  exact if_pos hfull

/-- R12, R99: no record opens on the reserve. -/
theorem State.offerFile_of_no_block (hfew : s.file.records.length < 24) {r : SpaceReason}
    (hspace : s.store.chainRefusal 0 = some r) : s.offerFile c = (s, some (.space .file r)) := by
  simp only [State.offerFile, hc, ne_eq, not_true_eq_false, if_false, hnone, hspace]
  exact if_neg (Nat.not_le.mpr hfew)

/-- R96: a record opens when the file and the store have room. -/
theorem State.offerFile_of_open (hfew : s.file.records.length < 24) (hspace : s.store.chainRefusal 0 = none) :
    s.offerFile c = (s.openMessage c, none) := by
  simp only [State.offerFile, hc, ne_eq, not_true_eq_false, if_false, hnone, hspace]
  exact if_neg (Nat.not_le.mpr hfew)

end Offer

/-- R96: the record that opens, with the front free block and its first cell. -/
theorem State.openMessage_eq (s : State) (c : Cell) (hfree : 24 < s.store.freeCount) : s.openMessage c = { s with
    store := { s.store with free := s.store.free.tail }
    file := { s.file with
      records := s.file.records ++ [
        { number := s.file.nextNumber, state := .receiving, kind := s.call.record.kind
          part := min 15 (s.file.lastPart + 1), continued := false, cells := [c]
          chain := s.store.free.take 1
          doubtful := if c.quality = .doubtful then 1 else 0
          substituted := if c.quality = .substituted then 1 else 0
          lost := 0, openedAt := s.now, duration := none, caller := none }]
      lastNumber := s.file.nextNumber
      lastPart := min 15 (s.file.lastPart + 1) } } := by
  unfold State.openMessage
  rw [Store.chainAppend_of_free (Nat.zero_mod 16) hfree]
  rfl

/-- Settles O59: the offer runs the tests in their order, and what it then files is one case each. -/
theorem fileCopiesStopAtTheReserve : Obligations.FileCopiesStopAtTheReserve := by
  refine fun c s => ⟨fun hc => if_pos hc, fun hc => ⟨fun m hm => ⟨fun hblock hfree => ?_, ?_⟩, fun hnone => ?_⟩⟩
  · rw [State.offerFile_of_refused hc c hm (Store.chainRefusal_of_reserve hblock hfree)]
    rfl
  · intro hspace chain free g x v hroom hblock hg hx hv
    have hrefusal : s.store.chainRefusal m.cells.length = none :=
      hspace.elim Store.chainRefusal_of_room Store.chainRefusal_of_free
    have hgrown : s.store.chainAppend m.chain m.cells.length = (chain, { s.store with free := free }) := by
      by_cases hfull : m.cells.length % 16 = 0
      · obtain ⟨rfl, rfl⟩ := hblock hfull
        exact Store.chainAppend_of_free hfull (hspace.resolve_left (not_not.mpr hfull)) m.chain
      · obtain ⟨rfl, rfl⟩ := hroom hfull
        exact Store.chainAppend_of_room hfull m.chain
    have hg' : g = m.fileCell c chain := by
      rw [hg, Message.fileCell, qualityCount_eq, qualityCount_eq]
    rw [State.offerFile_of_receiving hc c hm hrefusal, hv]
    refine ⟨fun hshort => ?_, fun hlong => ?_⟩
    · rw [State.fileInto_of_room hgrown hshort, ← hg', hg]
      rfl
    · rw [State.fileInto_of_full hgrown hlong (x := x) (by rw [hx, hg']; rfl), hx, hg]
      rfl
  · refine ⟨fun hfull => State.offerFile_of_full_file hc c hnone hfull, fun hfew => ?_⟩
    refine ⟨fun hfree => ?_, fun hfree first candidate hfirst hcandidate => ?_⟩
    · exact State.offerFile_of_no_block hc c hnone hfew (Store.chainRefusal_of_reserve (Nat.zero_mod 16) hfree)
    · obtain ⟨k, hnext, hfresh, hused⟩ := File.nextNumber_first hfew
      obtain rfl : first = numberAfter s.file.lastNumber := hfirst
      rw [← hcandidate k] at hnext
      refine ⟨k, hnext ▸ hfresh, fun j hj => hcandidate j ▸ hused j hj, ?_⟩
      rw [State.offerFile_of_open hc c hnone hfew (Store.chainRefusal_of_free hfree), ← hnext,
        s.openMessage_eq c hfree]

end Sys2Proof.Machine
end

section
/-! What leaves the Message File as it is: the choices that follow a step, and every operation that neither files a copy
nor ends a connection nor replays a record. -/

namespace Sys2Proof.Machine

variable (s : State)

/-! ## The choices -/

@[simp] theorem State.insertShift_file (k : Case) : (s.insertShift k).file = s.file := by
  simp [State.insertShift]

@[simp] theorem State.printOwn_file (n : PrintSpool) (c : Cell) : (s.printOwn n c).file = s.file := by
  simp [State.printOwn]

@[simp] theorem State.printCell_file (n : PrintSpool) (c : Cell) : (s.printCell n c).file = s.file := by
  unfold State.printCell
  dsimp only
  repeat' split
  all_goals simp

@[simp] theorem State.printFrom_file (n : PrintSpool) : (s.printFrom n).file = s.file := by
  unfold State.printFrom
  split <;> simp

@[simp] theorem State.printChoiceItem_file : s.printChoiceItem.file = s.file := by
  unfold State.printChoiceItem
  repeat' split
  all_goals simp

@[simp] theorem State.printChoice_file : s.printChoice.file = s.file := by
  rcases s.printChoice_cases with h | ⟨-, h, -⟩ <;> simp [h]

@[simp] theorem State.testReleases_file : s.testReleases.file = s.file := by
  unfold State.testReleases
  dsimp only
  split <;> simp

@[simp] theorem State.punchCell_file (e : Entry) : (s.punchCell e).file = s.file := by
  unfold State.punchCell
  split <;> simp

@[simp] theorem State.punchChoiceItem_file : s.punchChoiceItem.file = s.file := by
  unfold State.punchChoiceItem State.startFeedRequestCycle State.startBlankCycle
  repeat' split
  all_goals simp

@[simp] theorem State.punchChoice_file : s.punchChoice.file = s.file := by
  rcases s.punchChoice_cases with h | ⟨-, -, -, h⟩ <;> simp [h]

@[simp] theorem State.drive_file : s.drive.file = s.file := by
  simp [State.drive]

@[simp] theorem State.sendItem_file : s.sendItem.file = s.file := by
  unfold State.sendItem State.keyAnswerback State.keyEnquiry State.keySend State.keyShift
  repeat' split
  all_goals simp

@[simp] theorem State.sendChoice_file : s.sendChoice.file = s.file := by
  unfold State.sendChoice
  split <;> simp

/-- The choices leave the file as it is. -/
@[simp] theorem State.carryOn_file : s.carryOn.file = s.file := by
  simp [State.carryOn]

/-! ## The copies to a mechanism -/

@[simp] theorem State.appendPunch_file (st : Stream) (c : Cell) : (s.appendPunch st c).file = s.file := by
  simp [State.appendPunch]

@[simp] theorem State.replayCell_file (t : ReplayTarget) (c : Cell) : (s.replayCell t c).file = s.file := by
  cases t <;> simp [State.replayCell]

/-- The cell at the replay's position is one of the record of its number (R106). -/
theorem File.replayNext_eq_some {f : File} {r : Replay} {m : Message} {c : Cell} :
    f.replayNext r = some (m, c) ↔ f.find r.number = some m ∧ m.cells[r.position]? = some c := by
  simp only [File.replayNext, Option.bind_eq_some_iff, Option.map_eq_some_iff, Prod.mk.injEq]
  exact ⟨fun ⟨_, hfind, _, hcell, hm, hc⟩ => hm ▸ hc ▸ ⟨hfind, hcell⟩,
    fun ⟨hfind, hcell⟩ => ⟨m, hfind, c, hcell, rfl, rfl⟩⟩

/-! ## The calls and the receiver -/

@[simp] theorem State.reportLoss_file (loss : Option (SpaceTarget × SpaceReason)) :
    (s.reportLoss loss).file = s.file := by
  unfold State.reportLoss
  split
  · dsimp only
    split <;> simp
  · simp
  · rfl

@[simp] theorem State.enterConnected_file : s.enterConnected.file = s.file := by
  simp [State.enterConnected]

@[simp] theorem State.tryConnect_file : s.tryConnect.file = s.file := by
  unfold State.tryConnect
  split <;> simp

@[simp] theorem State.enterAnswering_file : s.enterAnswering.file = s.file := by
  simp [State.enterAnswering]

@[simp] theorem State.enterCalling_file : s.enterCalling.file = s.file := by
  simp [State.enterCalling]

@[simp] theorem State.failAttempt_file (o : CallOutcome) : (s.failAttempt o).file = s.file := rfl

@[simp] theorem State.declineOffer_file : s.declineOffer.file = s.file := rfl

@[simp] theorem State.endClearing_file : s.endClearing.file = s.file := by
  unfold State.endClearing
  split <;> simp

@[simp] theorem State.endReleasing_file : s.endReleasing.file = s.file := by
  unfold State.endReleasing
  dsimp only
  split <;> simp

@[simp] theorem State.tellDelivered_file (cell : Cell) (enquiry : Bool) :
    (s.tellDelivered cell enquiry).file = s.file := by
  unfold State.tellDelivered State.takeEnquiry
  dsimp only
  repeat' split
  all_goals simp

@[simp] theorem State.callLevelChange_file (level : Level) (te : Nat) : (s.callLevelChange level te).file = s.file := by
  unfold State.callLevelChange
  split <;> rfl

@[simp] theorem State.recognise_file : s.recognise.file = s.file := by
  unfold State.recognise State.enterOffered
  split <;> simp

@[simp] theorem State.withdrawn_file : s.withdrawn.file = s.file := by
  unfold State.withdrawn
  split <;> simp

@[simp] theorem State.poorCharacter_file : s.poorCharacter.file = s.file := by
  unfold State.poorCharacter
  dsimp only
  split <;> simp

@[simp] theorem State.recordDelivery_file (k : Quality) : (s.recordDelivery k).file = s.file := by
  unfold State.recordDelivery
  dsimp only
  split <;> simp

@[simp] theorem State.reachBreak_file (r : SpaceRun) : (s.reachBreak r).file = s.file := by
  unfold State.reachBreak State.discardPending
  split <;> simp

@[simp] theorem State.ensureBreak_file (r : SpaceRun) : (s.ensureBreak r).file = s.file := by
  unfold State.ensureBreak
  split <;> simp

/-- What a timer does on its expiry is all that its row does to the file (log 1). -/
theorem State.onTimer_file {timer : Option Nat} {act : State → State} (hact : ∀ t : State, (act t).file = t.file) :
    (s.onTimer timer act).file = s.file := by
  unfold State.onTimer
  split
  · exact hact _
  · rfl

theorem State.atSample_file {act : State → Assembly → State} (k : Nat)
    (hact : ∀ (t : State) a, (act t a).file = t.file) : (s.atSample k act).file = s.file := by
  unfold State.atSample
  repeat' split
  all_goals simp [hact]

theorem startSample_file : (startSample s).file = s.file := by
  refine s.atSample_file 0 fun t a => ?_
  unfold State.readStart
  split <;> simp

theorem unitSample_file : (unitSample s).file = s.file := by
  unfold unitSample
  split
  · split
    · exact s.atSample_file _ fun _ _ => rfl
    · rfl
  · rfl

theorem breakThreshold_file : (breakThreshold s).file = s.file := by
  unfold breakThreshold
  repeat' split
  all_goals simp

theorem turnaroundGuardExpiry_file : (turnaroundGuardExpiry s).file = s.file := s.onTimer_file fun _ => by simp

theorem breakKeyingEnd_file : (breakKeyingEnd s).file = s.file := by
  unfold breakKeyingEnd
  split <;> simp

theorem callRecognition_file : (callRecognition s).file = s.file := s.onTimer_file fun _ => by simp

theorem withdrawal_file : (withdrawal s).file = s.file := s.onTimer_file fun _ => by simp

theorem offerTimeout_file : (offerTimeout s).file = s.file := s.onTimer_file fun _ => by
  split <;> simp

theorem confirmation_file : (confirmation s).file = s.file := s.onTimer_file fun _ => by simp

theorem confirmTimeout_file : (confirmTimeout s).file = s.file := s.onTimer_file fun _ => by simp

theorem enquiryDelayExpiry_file : (enquiryDelayExpiry s).file = s.file := s.onTimer_file fun _ => by simp

theorem captureWindowExpiry_file : (captureWindowExpiry s).file = s.file := by
  unfold captureWindowExpiry
  split <;> simp

theorem clearingEnd_file : (clearingEnd s).file = s.file := s.onTimer_file fun _ => by simp

theorem clearingTimeout_file : (clearingTimeout s).file = s.file := s.onTimer_file fun _ => by simp

theorem releasingEnd_file : (releasingEnd s).file = s.file := s.onTimer_file fun _ => by simp

theorem runUpExpiry_file : (runUpExpiry s).file = s.file := by
  unfold runUpExpiry
  dsimp only
  repeat' split
  all_goals simp

theorem runOnExpiry_file : (runOnExpiry s).file = s.file := by
  unfold runOnExpiry
  split <;> simp

/-! ## The mechanisms -/

theorem selectEnd_file : (selectEnd s).file = s.file := by
  unfold selectEnd State.beginStrike
  dsimp only
  repeat' split
  all_goals simp

@[simp] theorem State.beginSettle_file (m : Mechanism) (mode : TimingMode) (programmed extra : Nat) :
    (s.beginSettle m mode programmed extra).file = s.file := by
  simp [State.beginSettle]

theorem strikeEnd_file : (strikeEnd s).file = s.file := by
  unfold strikeEnd
  repeat' split
  all_goals simp

theorem punchPulseEnd_file : (punchPulseEnd s).file = s.file := by
  unfold punchPulseEnd
  repeat' split
  all_goals simp

theorem feedPulseEnd_file : (feedPulseEnd s).file = s.file := by
  unfold feedPulseEnd
  repeat' split
  all_goals simp

@[simp] theorem State.finishPrintCycle_file (c : PrintCycle) (fault : Bool) :
    (s.finishPrintCycle c fault).file = s.file := by
  unfold State.finishPrintCycle
  dsimp only
  repeat' split
  all_goals simp

@[simp] theorem State.finishPunchCycle_file (c : PunchCycle) (fault : Bool) :
    (s.finishPunchCycle c fault).file = s.file := by
  unfold State.finishPunchCycle
  dsimp only
  repeat' split
  all_goals simp

@[simp] theorem State.endSettle_file (m : Mechanism) (elapsed : Nat) (fault : Bool) :
    (s.endSettle m elapsed fault).file = s.file := by
  unfold State.endSettle State.report
  repeat' split
  all_goals simp

theorem settleFixedEnd_file (m : Mechanism) : (settleFixedEnd m s).file = s.file := by
  unfold settleFixedEnd
  dsimp only
  split <;> simp

theorem settleSampledReading_file (m : Mechanism) (busy : Bool) : (settleSampledReading m busy s).file = s.file := by
  unfold settleSampledReading
  dsimp only
  repeat' split
  all_goals simp

theorem settleAddEnd_file (m : Mechanism) : (settleAddEnd m s).file = s.file := by
  unfold settleAddEnd
  dsimp only
  split <;> simp

theorem extendedReading_file (m : Mechanism) (busy : Bool) : (extendedReading m busy s).file = s.file := by
  unfold extendedReading
  dsimp only
  repeat' split
  all_goals simp

theorem bellTimerExpiry_file : (bellTimerExpiry s).file = s.file := s.onTimer_file fun _ => rfl

theorem holdWaitExpiry_file : (holdWaitExpiry s).file = s.file := by
  unfold holdWaitExpiry
  dsimp only
  repeat' split
  all_goals simp

theorem releaseTimerExpiry_file : (releaseTimerExpiry s).file = s.file := s.onTimer_file fun _ => by simp

theorem paperOutChange_file (asserted : Bool) (te : Nat) : (paperOutChange asserted te s).file = s.file := by
  unfold paperOutChange State.paperOutTaken State.paperGone
  dsimp only
  repeat' split
  all_goals simp

theorem paperRestoreExpiry_file : (paperRestoreExpiry s).file = s.file := s.onTimer_file fun _ => by simp

theorem paperLowChange_file (asserted : Bool) (te : Nat) : (paperLowChange asserted te s).file = s.file := by
  unfold paperLowChange
  split <;> simp

theorem tapeOutChange_file (asserted : Bool) (te : Nat) : (tapeOutChange asserted te s).file = s.file := by
  unfold tapeOutChange State.tapeOutTaken State.tapeGone
  dsimp only
  repeat' split
  all_goals simp

theorem tapeRestoreExpiry_file : (tapeRestoreExpiry s).file = s.file := s.onTimer_file fun _ => by simp

theorem tapeLowChange_file (asserted : Bool) (te : Nat) : (tapeLowChange asserted te s).file = s.file := by
  unfold tapeLowChange
  split <;> simp

theorem inputFilterStart_file (input : InputPin) (asserted : Bool) :
    (inputFilterStart input asserted s).file = s.file := by
  unfold inputFilterStart
  split <;> simp

/-! ## The keyboard -/

@[simp] theorem State.keyToSend_file (cell : Cell) : (s.keyToSend cell).file = s.file := by
  unfold State.keyToSend
  split <;> simp

@[simp] theorem State.changeMode_file (mode : KeyboardMode) : (s.changeMode mode).file = s.file := by
  simp [State.changeMode]

@[simp] theorem State.pressHereIs_file : s.pressHereIs.file = s.file := by
  unfold State.pressHereIs
  repeat' split
  all_goals simp

@[simp] theorem State.pressBreak_file : s.pressBreak.file = s.file := by
  unfold State.pressBreak
  split <;> simp

@[simp] theorem State.pressMode_file : s.pressMode.file = s.file := by
  unfold State.pressMode
  split <;> simp

@[simp] theorem State.pressFeed_file : s.pressFeed.file = s.file := by
  unfold State.pressFeed
  split <;> simp

theorem confirmedRelease_file (p : Fin 64) : (confirmedRelease p s).file = s.file := by
  unfold confirmedRelease State.actOnRelease
  repeat' split
  all_goals simp

/-! ## The loader and the store -/

theorem storeByte0Read_file (byte : Option Byte) : (storeByte0Read byte s).file = s.file := by
  unfold storeByte0Read
  repeat' split
  all_goals simp

@[simp] theorem State.setSwitch_file (on : Bool) : (s.setSwitch on).file = s.file := by
  simp [State.setSwitch]

@[simp] theorem State.handOverKeyboard_file (before : KeyboardMode) : (s.handOverKeyboard before).file = s.file := by
  simp [State.handOverKeyboard]

@[simp] theorem State.loadDone_file (occasion : LoadOccasion) : (s.loadDone occasion).file = s.file := rfl

@[simp] theorem State.afterLoad_file (occasion : LoadOccasion) : (s.afterLoad occasion).file = s.file := by
  unfold State.afterLoad
  repeat' split
  all_goals simp

theorem loadEnd_file (image : List Byte) : (loadEnd image s).file = s.file := by
  unfold loadEnd State.endLoad
  repeat' split
  all_goals simp

theorem storeOperationEnd_file (acknowledged : Bool) (bytes : List Byte) :
    (storeOperationEnd acknowledged bytes s).file = s.file := by
  unfold storeOperationEnd
  repeat' split
  all_goals simp

theorem storeWritePollTimeout_file : (storeWritePollTimeout s).file = s.file := by
  unfold storeWritePollTimeout
  split <;> simp

@[simp] theorem State.restartCall_file : s.restartCall.file = s.file := by
  unfold State.restartCall
  dsimp only
  split <;> simp

@[simp] theorem State.restartPrinter_file : s.restartPrinter.file = s.file := by
  unfold State.restartPrinter
  dsimp only
  split <;> simp

@[simp] theorem State.restartPunch_file : s.restartPunch.file = s.file := by
  simp [State.restartPunch]

/-! ## The link -/

@[simp] theorem State.frameEnded_file (turn : Turn) (kind : Byte) : (s.frameEnded turn kind).file = s.file := by
  unfold State.frameEnded
  split <;> rfl

@[simp] theorem State.frameFails_file (turn : Turn) (kind : Byte) (r : Reason) :
    (s.frameFails turn kind r).file = s.file := by
  unfold State.frameFails
  split <;> simp

theorem interByteTimeout_file : (interByteTimeout s).file = s.file := by
  unfold interByteTimeout State.abandonFrame
  split <;> simp

theorem discardQuietTimeout_file : (discardQuietTimeout s).file = s.file := by
  unfold discardQuietTimeout
  split <;> simp

theorem outboundFrameEnd_file : (outboundFrameEnd s).file = s.file := by
  unfold outboundFrameEnd
  repeat' split
  all_goals rfl

end Sys2Proof.Machine
end

section
/-! Filing, the end of a connection, replay and the commands keep the Message File sound, and so does every step (R93 to
R107). -/

namespace Sys2Proof.Machine

section Operations

variable {s : State} (h : s.file.Sound)
include h

/-! ## Filing -/

/-- R98, R100: the RECEIVING record closes. -/
theorem State.closeMessage_sound {m : Message} (hm : s.file.receiving = some m) (cause : FilingCause) :
    (s.closeMessage m cause).file.Sound := by
  have hstate := File.state_of_receiving hm
  obtain ⟨number, cells, chain, -⟩ := h.each m (File.mem_of_receiving hm)
  exact h.replace (m' := m.close (cause == .length) s.call.record.caller s.now) (File.mem_of_receiving hm) rfl
    ⟨number, cells, chain, nofun⟩ nofun (by simp [hstate, Message.close]) le_rfl

/-- R97, R98: a cell filed into the RECEIVING record. -/
theorem State.fileInto_sound {m : Message} (hm : s.file.receiving = some m)
    (hspace : s.store.chainRefusal m.cells.length = none) (c : Cell) : (s.fileInto m c).file.Sound := by
  have hmem := File.mem_of_receiving hm
  have hstate := File.state_of_receiving hm
  obtain ⟨number, cells, chain, growing⟩ := h.each m hmem
  have hlength := m.fileCell_length c (s.store.chainAppend m.chain m.cells.length).1
  have hchain : (s.store.chainAppend m.chain m.cells.length).1.length = (m.cells.length + 1 + 15) / 16 :=
    Store.chainAppend_length chain hspace
  have hroom : m.cells.length < 2048 := growing hstate
  have hcells : 1 ≤ m.cells.length + 1 ∧ m.cells.length + 1 ≤ 2048 := ⟨Nat.le_add_left .., hroom⟩
  rcases Nat.lt_or_ge (m.cells.length + 1) 2048 with hshort | hlong
  · rw [State.fileInto_of_room rfl hshort]
    exact h.replace hmem rfl ⟨number, hlength ▸ hcells, hlength ▸ hchain, fun _ => hlength ▸ hshort⟩
      (fun _ => hstate) Iff.rfl (hlength ▸ Nat.le_succ _)
  · rw [State.fileInto_of_full rfl hlong rfl]
    exact h.replace hmem rfl ⟨number, hlength ▸ hcells, hlength ▸ hchain, nofun⟩ nofun
      (by simp [hstate, Message.close]) (hlength ▸ Nat.le_succ _)

/-- R96: a record opens. -/
theorem State.openMessage_sound (hnone : s.file.receiving = none) (few : s.file.records.length < Config.fileRecords)
    (hspace : s.store.chainRefusal 0 = none) (c : Cell) : (s.openMessage c).file.Sound := by
  obtain ⟨k, hnext, hfresh, -⟩ := File.nextNumber_first few
  refine h.opened rfl rfl few hnone hfresh ⟨?_, ⟨le_rfl, (by decide : 1 ≤ 2048)⟩, ?_,
    fun _ => (by decide : 1 < 2048)⟩ rfl
  · change 1 ≤ s.file.nextNumber ∧ s.file.nextNumber ≤ 255
    omega
  · exact Store.chainAppend_length rfl hspace

theorem State.offerFile_sound (c : Cell) : (s.offerFile c).1.file.Sound := by
  unfold State.offerFile
  split
  · exact h
  split
  · next m hm =>
    split
    · obtain ⟨number, cells, chain, growing⟩ := h.each m (File.mem_of_receiving hm)
      exact h.replace (m' := { m with lost := satAdd m.lost 1 }) (File.mem_of_receiving hm) rfl
        ⟨number, cells, chain, growing⟩ id Iff.rfl le_rfl
    · next hspace => exact State.fileInto_sound h hm hspace c
  · next hnone =>
    split
    · exact h
    · next few =>
      split
      · exact h
      · next hspace => exact State.openMessage_sound h hnone (Nat.lt_of_not_le few) hspace c

/-- R100: the end of a connection. -/
theorem State.endFiling_sound (cause : FilingCause) : (s.endFiling cause).file.Sound := by
  have hpart : ∀ f : File, f.Sound → ({ f with lastPart := 0 } : File).Sound :=
    fun _ ⟨few, numbers, each, receiving, replaying, replay⟩ => ⟨few, numbers, each, receiving, replaying, replay⟩
  unfold State.endFiling
  dsimp only
  split
  · next m hm => exact hpart _ (State.closeMessage_sound h hm cause)
  · exact hpart _ h

/-! ## Replay and deletion -/

theorem replayCopy_sound : (replayCopy s).file.Sound := by
  unfold replayCopy
  split
  · exact h
  next r hr =>
  split
  · exact h
  next m c hnext =>
  split
  · rw [State.carryOn_file]
    unfold State.advanceReplay
    split
    · simpa using h.endReplay
    · next hmore =>
      obtain ⟨hfind, -⟩ := File.replayNext_eq_some.mp hnext
      simpa using h.advance hr (File.mem_of_find hfind) (File.number_of_find hfind) (Nat.lt_of_not_le hmore)
  · exact h

theorem deleteMessage_sound (number : Byte) : (deleteMessage number s).file.Sound := by
  unfold deleteMessage
  split
  · exact h
  next m hm =>
  split
  · exact h
  · exact h
  · next hstate => exact h.delete (File.mem_of_find hm) (by simp [hstate])

theorem replayMessage_sound (number target : Byte) : (replayMessage number target s).file.Sound := by
  unfold replayMessage
  split
  · exact h
  next t _ =>
  split
  · exact h
  next m hm =>
  split
  · exact h
  next hrefusal =>
  have hnone : s.file.replay = none := by
    by_contra hsome
    simp [State.replayRefusal, Option.isSome_iff_ne_none.mpr hsome] at hrefusal
  exact h.beginReplay (File.mem_of_find hm) hnone t

theorem cancelReplay_sound : (cancelReplay s).file.Sound := by
  unfold cancelReplay
  split
  · exact h
  · exact h.endReplay

/-! ## The Route Table -/

theorem State.tryPlace_sound (n : RouteName) (p : Place) (c : Cell) : (s.tryPlace n p c).1.file.Sound := by
  cases p with
  | print =>
    change (s.tryPrint n c).1.file.Sound
    unfold State.tryPrint
    repeat' split
    all_goals exact h
  | punch =>
    change (s.tryPunch n c).1.file.Sound
    unfold State.tryPunch
    repeat' split
    all_goals simpa using h
  | file => exact State.offerFile_sound h c

omit h in
theorem Delivery.tryStandIn_sound {d : Delivery} (h : d.state.file.Sound) (n : RouteName) (r : Route) (p : Place)
    (c : Cell) : (d.tryStandIn n r p c).state.file.Sound := by
  unfold Delivery.tryStandIn
  split
  · exact h
  · dsimp only
    split <;> exact State.tryPlace_sound h n _ c

omit h in
theorem Delivery.deliverTo_sound {d : Delivery} (h : d.state.file.Sound) (n : RouteName) (r : Route) (c : Cell)
    (p : Place) : (Delivery.deliverTo n r c d p).state.file.Sound := by
  unfold Delivery.deliverTo
  split
  · dsimp only
    split
    · exact State.tryPlace_sound h n p c
    · exact Delivery.tryStandIn_sound (State.tryPlace_sound h n p c) n r p c
  · exact h

/-- R28: delivery in the order PRINT, PUNCH, FILE. -/
theorem State.deliver_sound (n : RouteName) (c : Cell) : (s.deliver n c).state.file.Sound := by
  unfold State.deliver
  dsimp only
  split
  · exact h
  · exact Delivery.deliverTo_sound (Delivery.deliverTo_sound (Delivery.deliverTo_sound h ..) ..) ..

theorem State.present_sound (n : RouteName) (c : Cell) : (s.present n c).1.file.Sound := by
  simpa [State.present] using State.deliver_sound h n c

/-! ## The line, the call and the keyboard -/

theorem State.enterClearing_sound (cause : CallOutcome) : (s.enterClearing cause).file.Sound := by
  have hbegun : (s.beginClearing cause).file.Sound := by
    change (((s.leaveLine cause).endFiling .clear).markLineRelease).file.Sound
    rw [State.markLineRelease_file]
    exact State.endFiling_sound (s := s.leaveLine cause) h .clear
  unfold State.enterClearing
  dsimp only
  split
  · simpa using hbegun
  · exact hbegun

theorem State.takeClear_sound : s.takeClear.file.Sound := by
  unfold State.takeClear
  split
  · exact State.enterClearing_sound h .farEnd
  · exact h

theorem State.handOn_sound (c : Cell) (enquiry : Bool) : (s.handOn c enquiry).file.Sound := by
  simpa [State.handOn] using State.present_sound h .received c

theorem State.deliverReceived_sound (code : Code) (k : Quality) : (s.deliverReceived code k).file.Sound :=
  State.handOn_sound (s := (s.recordDelivery k).receiveCase code) (by simpa using h) _ _

theorem State.markInRun_sound (r : SpaceRun) (te : Nat) : (s.markInRun r te).file.Sound := by
  unfold State.markInRun
  dsimp only
  split
  · split
    · exact State.handOn_sound (s := (s.receiverState .markRest).recordDelivery .substituted) (by simpa using h) _ _
    · exact h
  · split
    · exact State.takeClear_sound (by simpa using h)
    · simpa using h

theorem rxFilteredChange_sound (level : Level) (te : Nat) : (rxFilteredChange level te s).file.Sound := by
  have hchange : ((s.confirmLevel level te).callLevelChange level te).file.Sound := by simpa using h
  unfold rxFilteredChange
  split
  · exact h
  · rw [State.carryOn_file]
    unfold State.receiverChange State.startEdge
    split
    · exact hchange
    · dsimp only
      repeat' split
      all_goals simpa using hchange
    · exact hchange
    · split
      · exact State.markInRun_sound hchange _ te
      · exact hchange

theorem stopSample_sound : (stopSample s).file.Sound := by
  unfold stopSample State.atSample State.readStop
  dsimp only
  split
  · split
    · split
      · rw [State.carryOn_file]
        exact State.deliverReceived_sound (by simpa [State.recordDistortion] using h) _ _
      · exact h
    · exact h
  · exact h

theorem clearThreshold_sound : (clearThreshold s).file.Sound := by
  unfold clearThreshold
  split
  · rw [State.carryOn_file]
    exact State.takeClear_sound (by simpa using h)
  · exact h

theorem characterSent_sound : (characterSent s).file.Sound := by
  unfold characterSent
  split
  · next k _ =>
    have hsent : (((s.advance k.due).keyingDone k).present .sentCopy k.cell).1.file.Sound :=
      State.present_sound (s := (s.advance k.due).keyingDone k) (by simpa using h) _ _
    unfold State.characterEnds
    dsimp only
    split <;> simpa using hsent
  · exact h

theorem idleTimeout_sound : (idleTimeout s).file.Sound := by
  unfold idleTimeout State.onTimer
  split
  · rw [State.carryOn_file]
    exact State.enterClearing_sound (s := s.advance _) h .idle
  · exact h

theorem State.keyToLocal_sound (cell : Cell) : (s.keyToLocal cell).file.Sound := by
  unfold State.keyToLocal
  dsimp only
  split <;> simpa using State.present_sound h .keyedLocal cell

theorem State.pressKey_sound (entry : KeyEntry) : (s.pressKey entry).file.Sound := by
  unfold State.pressKey
  split
  · exact h
  · unfold State.pressCode
    dsimp only
    split
    · simpa using h
    · exact State.keyToLocal_sound h _
  all_goals simpa using h

theorem confirmedPress_sound (p : Fin 64) : (confirmedPress p s).file.Sound := by
  have hread : ((s.atReading p).confirmPosition p true).file.Sound := by simpa using h
  unfold confirmedPress State.actOnPress
  split
  · split
    · exact hread
    · exact hread
    · split
      · exact hread
      · rw [State.carryOn_file]
        exact State.pressKey_sound hread _
  · exact h

theorem stopService_sound : (stopService s).file.Sound := by
  have hclear : ((s.withStop true).enterClearing .stopService).file.Sound :=
    State.enterClearing_sound (s := s.withStop true) h _
  unfold stopService State.stopEffect
  split
  case h_5 | h_6 => simpa using hclear
  all_goals simpa using h

theorem clearCall_sound : (clearCall s).file.Sound := by
  have hclear := State.enterClearing_sound h .station
  unfold clearCall
  split
  case h_1 | h_2 => simpa using hclear
  all_goals simpa using h

/-- R100, R109: the file at RESTART. -/
theorem restart_sound : (restart s).file.Sound := by
  have hstart : ((s.accept 0x27 .done).emptyNotices.startLoading .restart).restartCall.file.Sound := by simpa using h
  have hfile := (State.endFiling_sound
    (s := ((s.accept 0x27 .done).emptyNotices.startLoading .restart).restartCall.resetSender.disableReceiver)
    (by simpa using hstart) .restart).endReplay
  simpa [restart, State.restartBlocks, State.restartFile] using hfile

end Operations

end Sys2Proof.Machine
end

section
/-! A command's row is the frame of its kind and body, whose owner keeps the file sound; and so do all rows and every
step (R172 to R174). -/

namespace Sys2Proof.Machine

/-! ## The commands that leave the file -/

section Owners
variable (s : State)

theorem startService_file : (startService s).file = s.file := by
  unfold startService
  repeat' split
  all_goals simp

theorem setOption_file (offset : Byte) (value : Word16) : (setOption offset value s).file = s.file := by
  unfold setOption
  repeat' split
  all_goals simp

theorem getOption_file (offset : Byte) : (getOption offset s).file = s.file := by
  unfold getOption
  split <;> simp

theorem setRoute_file (route destinations printStandIn punchStandIn : Byte) (reload : Word16) (action : Byte) :
    (setRoute route destinations printStandIn punchStandIn reload action s).file = s.file := by
  unfold setRoute
  split <;> rfl

theorem getRoute_file (route clear : Byte) : (getRoute route clear s).file = s.file := by
  unfold getRoute
  dsimp only
  repeat' split
  all_goals rfl

theorem rearmRoute_file (route : Byte) : (rearmRoute route s).file = s.file := by
  unfold rearmRoute
  split <;> rfl

theorem submitText_file (target : Byte) (bytes : List Byte) : (submitText target bytes s).file = s.file := by
  unfold submitText State.submitCells State.claimFor
  dsimp only
  repeat' split
  all_goals simp

theorem clearSpool_file (spool : Byte) : (clearSpool spool s).file = s.file := by
  unfold clearSpool State.spoolEmptied
  dsimp only
  repeat' split
  all_goals simp

theorem acceptCall_file : (acceptCall s).file = s.file := by
  unfold acceptCall
  split <;> simp

theorem declineCall_file : (declineCall s).file = s.file := by
  unfold declineCall
  split <;> simp

theorem placeCall_file : (placeCall s).file = s.file := by
  unfold placeCall
  split <;> simp

theorem sendAnswerback_file : (sendAnswerback s).file = s.file := by
  unfold sendAnswerback
  repeat' split
  all_goals simp

theorem sendEnquiry_file : (sendEnquiry s).file = s.file := by
  unfold sendEnquiry
  split <;> simp

theorem sendBreak_file : (sendBreak s).file = s.file := by
  unfold sendBreak
  split <;> simp

theorem resumeSend_file : (resumeSend s).file = s.file := by
  unfold resumeSend
  repeat' split
  all_goals simp

theorem getLineQuality_file (clear : Byte) : (getLineQuality clear s).file = s.file := by
  unfold getLineQuality
  repeat' split
  all_goals simp

theorem getMessage_file (number : Byte) : (getMessage number s).file = s.file := by
  unfold getMessage
  repeat' split
  all_goals simp

theorem fetchMessage_file (number : Byte) (offset : Word16) (count : Byte) :
    (fetchMessage number offset count s).file = s.file := by
  unfold fetchMessage
  repeat' split
  all_goals simp

theorem printerHold_file : (printerHold s).file = s.file := by simp [printerHold]

theorem printerRelease_file : (printerRelease s).file = s.file := by simp [printerRelease]

theorem printerReset_file : (printerReset s).file = s.file := by
  unfold printerReset State.resetPrinter
  split <;> simp

theorem punchOn_file : (punchOn s).file = s.file := by simp [punchOn]

theorem punchOff_file : (punchOff s).file = s.file := by simp [punchOff]

theorem punchFeed_file (count : Byte) : (punchFeed count s).file = s.file := by
  unfold punchFeed State.requestFeed
  repeat' split
  all_goals simp

theorem punchRelease_file : (punchRelease s).file = s.file := by
  unfold punchRelease
  repeat' split
  all_goals simp

theorem punchReset_file : (punchReset s).file = s.file := by simp [punchReset, State.resetPunch]

theorem setKeyboardMode_file (mode : Byte) : (setKeyboardMode mode s).file = s.file := by
  unfold setKeyboardMode
  repeat' split
  all_goals simp

theorem storeRead_file (offset count : Byte) : (storeRead offset count s).file = s.file := by
  unfold storeRead
  repeat' split
  all_goals simp

theorem storeWrite_file (offset : Byte) (bytes : List Byte) : (storeWrite offset bytes s).file = s.file := by
  unfold storeWrite
  repeat' split
  all_goals simp

theorem reload_file : (reload s).file = s.file := by
  unfold reload
  split <;> simp

end Owners

/-! ## Every command -/

/-- What leaves the file leaves it sound. -/
theorem File.Sound.of_eq {f g : File} (h : f.Sound) (heq : g = f) : g.Sound := heq ▸ h

/-- An operation that leaves a sound file of every sound file. -/
def KeepsFile (f : State → State) : Prop := ∀ s : State, s.file.Sound → (f s).file.Sound

theorem KeepsFile.of_eq {f : State → State} (heq : ∀ s : State, (f s).file = s.file) : KeepsFile f :=
  fun s h => h.of_eq (heq s)

/-- Every command's owner keeps the file sound, whatever the kind and the body (section 10.7). -/
theorem commandOwner_keepsFile (kind : Byte) (body : List Byte) : KeepsFile (commandOwner kind body) := by
  unfold commandOwner
  split
  · exact fun _ h => h
  · exact .of_eq startService_file
  · exact fun _ => stopService_sound
  · exact .of_eq fun s => setOption_file s _ _
  · exact .of_eq fun s => getOption_file s _
  · exact .of_eq fun s => setRoute_file s _ _ _ _ _ _
  · exact .of_eq fun s => getRoute_file s _ _
  · exact .of_eq fun s => rearmRoute_file s _
  · exact .of_eq fun s => submitText_file s _ _
  · exact .of_eq fun s => clearSpool_file s _
  · exact .of_eq acceptCall_file
  · exact .of_eq declineCall_file
  · exact .of_eq placeCall_file
  · exact fun _ => clearCall_sound
  · exact .of_eq sendAnswerback_file
  · exact .of_eq sendEnquiry_file
  · exact .of_eq sendBreak_file
  · exact .of_eq resumeSend_file
  · exact fun _ h => h
  · exact .of_eq fun s => getLineQuality_file s _
  · exact fun _ h => h
  · exact .of_eq fun s => getMessage_file s _
  · exact .of_eq fun s => fetchMessage_file s _ _ _
  · exact fun _ h => deleteMessage_sound h _
  · exact fun _ h => replayMessage_sound h _ _
  · exact fun _ => cancelReplay_sound
  · exact .of_eq printerHold_file
  · exact .of_eq printerRelease_file
  · exact .of_eq printerReset_file
  · exact .of_eq punchOn_file
  · exact .of_eq punchOff_file
  · exact .of_eq fun s => punchFeed_file s _
  · exact .of_eq punchRelease_file
  · exact .of_eq punchReset_file
  · exact .of_eq fun s => setKeyboardMode_file s _
  · exact .of_eq fun s => storeRead_file s _ _
  · exact .of_eq fun s => storeWrite_file s _ _
  · exact .of_eq reload_file
  · exact fun _ => restart_sound
  · exact fun _ h => h

section Frames
variable {s : State} (h : s.file.Sound)
include h

/-- R173: a frame in turn is refused or reaches its owner. -/
theorem State.dispatch_sound (kind : Byte) (length : Nat) (body : List Byte) :
    (s.dispatch kind length (commandOwner kind body)).file.Sound := by
  unfold State.dispatch
  dsimp only
  split
  · exact h
  · exact commandOwner_keepsFile kind body s.awaitReply h

theorem State.frameComplete_sound (turn : Turn) (kind : Byte) (body : List Byte) :
    (s.frameComplete turn kind body).file.Sound := by
  unfold State.frameComplete
  dsimp only
  split
  · exact State.dispatch_sound (s := s.withInbound .empty) h kind _ body
  · simpa using h

theorem State.takeByte_sound (b : Byte) : (s.takeByte b).file.Sound := by
  unfold State.takeByte
  split
  · exact h
  · unfold State.takeLength
    split
    · exact State.frameComplete_sound h _ _ _
    split
    · exact h
    · simpa using h
  · unfold State.takeBodyByte
    split
    · exact State.frameComplete_sound h _ _ _
    · exact h
  · exact h

theorem inboundByte_sound (b : Byte) (stop : Level) : (inboundByte b stop s).file.Sound := by
  cases stop
  · exact h
  · exact State.takeByte_sound h b

omit h in
/-- Bytes taken one after another (R172). -/
theorem State.foldl_takeByte_sound (bytes : List Byte) {s : State} (h : s.file.Sound) :
    (bytes.foldl State.takeByte s).file.Sound := by
  induction bytes generalizing s with
  | nil => exact h
  | cons b bytes ih => exact ih (State.takeByte_sound h b)

theorem State.hostCommand_sound (kind : Byte) (body : List Byte) :
    (s.hostCommand kind body (commandOwner kind body)).file.Sound := by
  unfold State.hostCommand
  split
  · exact State.dispatch_sound h kind _ body
  · exact State.foldl_takeByte_sound _ h

end Frames

/-- Section 10.7: a two-byte field is read as it was written. -/
theorem word16_wordBytes (v : Word16) : word16 (v.extractLsb' 8 8) (v.extractLsb' 0 8) = v := by
  unfold word16
  exact BitVec.extractLsb'_append_extractLsb'_eq_extractLsb' rfl |>.trans (by simp)

/-- A command's row is the arrival of the frame that it stands for (log 3). -/
theorem exec_of_commandFrame {i : Instr} {kind : Byte} {body : List Byte} (hframe : commandFrame i = some (kind, body))
    (s : State) : exec i s = .next (s.hostCommand kind body (commandOwner kind body)) := by
  cases i
  case setOption offset value =>
    cases hframe
    exact congrArg (fun v => Host.Outcome.next (s.hostCommand 0x04 (offset :: wordBytes value) (setOption offset v)))
      (word16_wordBytes value).symm
  case setRoute r d p q reload a =>
    cases hframe
    exact congrArg (fun v => Host.Outcome.next (s.hostCommand 0x06 ([r, d, p, q] ++ wordBytes reload ++ [a])
      (setRoute r d p q v a))) (word16_wordBytes reload).symm
  case fetchMessage n offset count =>
    cases hframe
    exact congrArg (fun v => Host.Outcome.next (s.hostCommand 0x17 ([n] ++ wordBytes offset ++ [count])
      (fetchMessage n v count))) (word16_wordBytes offset).symm
  all_goals cases hframe <;> rfl

/-! ## Every row and every step -/

/-- Every row completes, and leaves a sound file. -/
theorem exec_fileSound {s : State} (h : s.file.Sound) (i : Instr) : ∃ t, exec i s = .next t ∧ t.file.Sound := by
  cases hframe : commandFrame i with
  | some f => exact ⟨_, exec_of_commandFrame hframe s, State.hostCommand_sound h f.1 f.2⟩
  | none =>
    cases i with
    | powerOn | resetPin => exact ⟨_, rfl, File.reset_sound⟩
    | outboundFrameStart | holdOffAssert | holdOffDeassert => exact ⟨_, rfl, h⟩
    | loadEnd => exact ⟨_, rfl, h.of_eq (loadEnd_file s _)⟩
    | inboundByte => exact ⟨_, rfl, inboundByte_sound h _ _⟩
    | interByteTimeout => exact ⟨_, rfl, h.of_eq (interByteTimeout_file s)⟩
    | discardQuietTimeout => exact ⟨_, rfl, h.of_eq (discardQuietTimeout_file s)⟩
    | outboundFrameEnd => exact ⟨_, rfl, h.of_eq (outboundFrameEnd_file s)⟩
    | storeOperationEnd => exact ⟨_, rfl, h.of_eq (storeOperationEnd_file s _ _)⟩
    | storeWritePollTimeout => exact ⟨_, rfl, h.of_eq (storeWritePollTimeout_file s)⟩
    | rxFilteredChange => exact ⟨_, rfl, rxFilteredChange_sound h _ _⟩
    | startSample => exact ⟨_, rfl, h.of_eq (startSample_file s)⟩
    | unitSample => exact ⟨_, rfl, h.of_eq (unitSample_file s)⟩
    | stopSample => exact ⟨_, rfl, stopSample_sound h⟩
    | breakThreshold => exact ⟨_, rfl, h.of_eq (breakThreshold_file s)⟩
    | clearThreshold => exact ⟨_, rfl, clearThreshold_sound h⟩
    | turnaroundGuardExpiry => exact ⟨_, rfl, h.of_eq (turnaroundGuardExpiry_file s)⟩
    | characterSent => exact ⟨_, rfl, characterSent_sound h⟩
    | breakKeyingEnd => exact ⟨_, rfl, h.of_eq (breakKeyingEnd_file s)⟩
    | callRecognition => exact ⟨_, rfl, h.of_eq (callRecognition_file s)⟩
    | withdrawal => exact ⟨_, rfl, h.of_eq (withdrawal_file s)⟩
    | offerTimeout => exact ⟨_, rfl, h.of_eq (offerTimeout_file s)⟩
    | confirmation => exact ⟨_, rfl, h.of_eq (confirmation_file s)⟩
    | confirmTimeout => exact ⟨_, rfl, h.of_eq (confirmTimeout_file s)⟩
    | idleTimeout => exact ⟨_, rfl, idleTimeout_sound h⟩
    | enquiryDelayExpiry => exact ⟨_, rfl, h.of_eq (enquiryDelayExpiry_file s)⟩
    | captureWindowExpiry => exact ⟨_, rfl, h.of_eq (captureWindowExpiry_file s)⟩
    | clearingEnd => exact ⟨_, rfl, h.of_eq (clearingEnd_file s)⟩
    | clearingTimeout => exact ⟨_, rfl, h.of_eq (clearingTimeout_file s)⟩
    | releasingEnd => exact ⟨_, rfl, h.of_eq (releasingEnd_file s)⟩
    | runUpExpiry => exact ⟨_, rfl, h.of_eq (runUpExpiry_file s)⟩
    | runOnExpiry => exact ⟨_, rfl, h.of_eq (runOnExpiry_file s)⟩
    | selectEnd => exact ⟨_, rfl, h.of_eq (selectEnd_file s)⟩
    | strikeEnd => exact ⟨_, rfl, h.of_eq (strikeEnd_file s)⟩
    | punchPulseEnd => exact ⟨_, rfl, h.of_eq (punchPulseEnd_file s)⟩
    | feedPulseEnd => exact ⟨_, rfl, h.of_eq (feedPulseEnd_file s)⟩
    | settleFixedEnd => exact ⟨_, rfl, h.of_eq (settleFixedEnd_file s _)⟩
    | settleSampledReading => exact ⟨_, rfl, h.of_eq (settleSampledReading_file s _ _)⟩
    | settleAddEnd => exact ⟨_, rfl, h.of_eq (settleAddEnd_file s _)⟩
    | extendedReading => exact ⟨_, rfl, h.of_eq (extendedReading_file s _ _)⟩
    | bellTimerExpiry => exact ⟨_, rfl, h.of_eq (bellTimerExpiry_file s)⟩
    | paperOutChange => exact ⟨_, rfl, h.of_eq (paperOutChange_file s _ _)⟩
    | paperRestoreExpiry => exact ⟨_, rfl, h.of_eq (paperRestoreExpiry_file s)⟩
    | paperLowChange => exact ⟨_, rfl, h.of_eq (paperLowChange_file s _ _)⟩
    | inputFilterStart => exact ⟨_, rfl, h.of_eq (inputFilterStart_file s _ _)⟩
    | holdWaitExpiry => exact ⟨_, rfl, h.of_eq (holdWaitExpiry_file s)⟩
    | tapeOutChange => exact ⟨_, rfl, h.of_eq (tapeOutChange_file s _ _)⟩
    | tapeRestoreExpiry => exact ⟨_, rfl, h.of_eq (tapeRestoreExpiry_file s)⟩
    | tapeLowChange => exact ⟨_, rfl, h.of_eq (tapeLowChange_file s _ _)⟩
    | releaseTimerExpiry => exact ⟨_, rfl, h.of_eq (releaseTimerExpiry_file s)⟩
    | confirmedPress => exact ⟨_, rfl, confirmedPress_sound h _⟩
    | confirmedRelease => exact ⟨_, rfl, h.of_eq (confirmedRelease_file s _)⟩
    | replayCopy => exact ⟨_, rfl, replayCopy_sound h⟩
    | storeByte0Read => exact ⟨_, rfl, h.of_eq (storeByte0Read_file s _)⟩
    | unknownCommandKind | getStatus | startService | stopService | setOption | getOption | setRoute |
      getRoute | rearmRoute | submitText | clearSpool | acceptCall | declineCall | placeCall | clearCall |
      sendAnswerback | sendEnquiry | sendBreak | resumeSend | getCall | getLineQuality | listMessages |
      getMessage | fetchMessage | deleteMessage | replayMessage | cancelReplay | printerHold |
      printerRelease | printerReset | punchOn | punchOff | punchFeed | punchRelease | punchReset |
      setKeyboardMode | storeRead | storeWrite | reload | restart => cases hframe

/-- Settles O5: each row leaves the file, or files a copy, ends a connection, replays or deletes a record, and each of
these keeps it sound. -/
theorem everyStepKeepsTheFile : Obligations.EveryStepKeepsTheFile := by
  intro s t hsound hstep
  have h := State.fileSound_iff.mp hsound
  rw [State.fileSound_iff]
  unfold step at hstep
  split at hstep
  · next c rest _ =>
    obtain ⟨u, hexec, hu⟩ := exec_fileSound (s := { s with pending := rest }) h c
    rw [hexec] at hstep
    cases hstep
    exact hu
  · cases hstep
    exact h

end Sys2Proof.Machine
end

section
/-! The commands of the Message File and the copying of a replay: a taken frame is what its owner does, and the owner
answers by the record of the number (R101 to R107). -/

namespace Sys2Proof.Machine

/-! ## The frames reach their owners -/

section Taken
variable {s : State} (h : s.TakesCommands)
include h

theorem exec_listMessages_of_takesCommands (start : Byte) :
    exec (.listMessages start) s = .next (listMessages start s) :=
  congrArg Host.Outcome.next (State.hostCommand_taken h _ rfl rfl (by simp))

theorem exec_getMessage_of_takesCommands (number : Byte) : exec (.getMessage number) s = .next (getMessage number s) :=
  congrArg Host.Outcome.next (State.hostCommand_taken h _ rfl rfl (by simp))

theorem exec_fetchMessage_of_takesCommands (number : Byte) (offset : Word16) (count : Byte) :
    exec (.fetchMessage number offset count) s = .next (fetchMessage number offset count s) :=
  congrArg Host.Outcome.next (State.hostCommand_taken h _ rfl rfl (by simp [wordBytes]))

theorem exec_deleteMessage_of_takesCommands (number : Byte) :
    exec (.deleteMessage number) s = .next (deleteMessage number s) :=
  congrArg Host.Outcome.next (State.hostCommand_taken h _ rfl rfl (by simp))

theorem exec_replayMessage_of_takesCommands (number target : Byte) :
    exec (.replayMessage number target) s = .next (replayMessage number target s) :=
  congrArg Host.Outcome.next (State.hostCommand_taken h _ rfl rfl (by simp))

/-- The notice of a cancelled replay is queued whatever reply is pending. -/
theorem exec_cancelReplay_of_takesCommands : exec .cancelReplay s = .next (cancelReplay s) := by
  refine congrArg Host.Outcome.next (State.taken_eq h rfl rfl ?_)
  unfold cancelReplay
  dsimp only
  split
  · rfl
  · next r _ =>
    have hnotice := State.notice_withReply { s with file := s.file.endReplay } (.awaited none)
      (.replayDone r.number false r.position)
    exact (congrArg (fun t : State => t.accept 0x1A (.replayCancelled r.number r.position)) hnotice).trans
      (State.withReply_accept ..)

end Taken

/-! ## The owners by the record -/

section Owners
variable {s : State} {number : Byte} {m : Message}

theorem getMessage_of_none (hnone : s.file.find number.toNat = none) : getMessage number s = s.refuse 0x16 .noSuch := by
  rw [getMessage, hnone]

/-- R102: the record that is being replayed shows its target and position. -/
theorem getMessage_of_replayed (hm : s.file.find number.toNat = some m) {r : Replay} (hr : s.file.replay = some r)
    (hnumber : r.number = m.number) : getMessage number s = s.accept 0x16
      (.message (m.summary s.now) m.caller (some r.target) (BitVec.ofNat 16 r.position)) := by
  have hof : s.file.replayOf m.number = some r := by simp [File.replayOf, hr, hnumber]
  rw [getMessage, hm]
  dsimp only
  rw [hof]

/-- R102: of another record the cells copied are a free value (log 11). -/
theorem getMessage_of_resting (hm : s.file.find number.toNat = some m)
    (hother : ∀ r, s.file.replay = some r → r.number ≠ m.number) : getMessage number s =
      ({ s with freeIndex := s.freeIndex + 1 }).accept 0x16
        (.message (m.summary s.now) m.caller none (Config.cellsCopied s.freeIndex)) := by
  have hof : s.file.replayOf m.number = none := by simpa [File.replayOf, Option.filter_eq_none_iff] using hother
  rw [getMessage, hm]
  dsimp only
  rw [hof]

theorem fetchMessage_of_bad_count {count : Byte} (hcount : count.toNat = 0 ∨ 40 < count.toNat) (offset : Word16) :
    fetchMessage number offset count s = s.refuse 0x17 .badValue := if_pos hcount

/-- R103: a count in range comes to the record. -/
theorem fetchMessage_of_good_count {count : Byte} (hlow : 1 ≤ count.toNat) (hhigh : count.toNat ≤ 40)
    (offset : Word16) : fetchMessage number offset count s = (s.file.find number.toNat).elim (s.refuse 0x17 .noSuch)
      fun m => s.accept 0x17 (.messageCells m.number m.state m.cells.length offset
        ((m.cells.drop offset.toNat).take count.toNat)) := by
  unfold fetchMessage
  rw [if_neg (by omega)]
  split <;> next hfind => rw [hfind]; rfl

theorem deleteMessage_of_none (hnone : s.file.find number.toNat = none) :
    deleteMessage number s = s.refuse 0x18 .noSuch := by
  rw [deleteMessage, hnone]

/-- R104: a FILED record leaves the file, and its blocks return. -/
theorem deleteMessage_of_filed (hm : s.file.find number.toNat = some m) (hstate : m.state = .filed) :
    deleteMessage number s = (s.deleteRecord m).accept 0x18
      (.messageDeleted (s.deleteRecord m).store.freeCount (s.deleteRecord m).file.records.length) := by
  rw [deleteMessage, hm]
  dsimp only
  rw [hstate]

theorem deleteMessage_of_receiving (hm : s.file.find number.toNat = some m) (hstate : m.state = .receiving) :
    deleteMessage number s = s.refuse 0x18 .wrongState := by
  rw [deleteMessage, hm]
  dsimp only
  rw [hstate]

theorem deleteMessage_of_replaying (hm : s.file.find number.toNat = some m) (hstate : m.state = .replaying) :
    deleteMessage number s = s.refuse 0x18 .busy := by
  rw [deleteMessage, hm]
  dsimp only
  rw [hstate]

theorem replayTargetOf_eq_none {target : Byte} (htarget : 2 ≤ target.toNat) : replayTargetOf target = none := by
  unfold replayTargetOf
  split
  · omega
  · omega
  · rfl

theorem exists_replayTargetOf {target : Byte} (htarget : target.toNat ≤ 1) : ∃ t, replayTargetOf target = some t := by
  rcases Nat.le_one_iff_eq_zero_or_eq_one.mp htarget with hzero | hone
  · exact ⟨.print, by rw [replayTargetOf, hzero]; rfl⟩
  · exact ⟨.punch, by rw [replayTargetOf, hone]; rfl⟩

theorem replayMessage_of_bad_target {target : Byte} (htarget : replayTargetOf target = none) :
    replayMessage number target s = s.refuse 0x19 .badValue := by
  rw [replayMessage, htarget]

section Target
variable {target : Byte} {t : ReplayTarget} (htarget : replayTargetOf target = some t)
include htarget

theorem replayMessage_of_none (hnone : s.file.find number.toNat = none) :
    replayMessage number target s = s.refuse 0x19 .noSuch := by
  rw [replayMessage, htarget]
  dsimp only
  rw [hnone]

theorem replayMessage_of_refused (hm : s.file.find number.toNat = some m) {r : Reason}
    (hr : s.replayRefusal m t = some r) : replayMessage number target s = s.refuse 0x19 r := by
  rw [replayMessage, htarget]
  dsimp only
  rw [hm]
  dsimp only
  rw [hr]

theorem replayMessage_of_begun (hm : s.file.find number.toNat = some m) (hnone : s.replayRefusal m t = none) :
    replayMessage number target s = (s.beginReplay m t).accept 0x19 (.replayStarted m.number m.cells.length) := by
  rw [replayMessage, htarget]
  dsimp only
  rw [hm]
  dsimp only
  rw [hnone]

end Target

/-! ## The checks of a replay (R105) -/

theorem State.replayRefusal_of_replay {t : ReplayTarget} (hr : s.file.replay ≠ none) :
    s.replayRefusal m t = some .busy := if_pos (Option.isSome_iff_ne_none.mpr hr)

theorem State.replayRefusal_of_receiving {t : ReplayTarget} (hr : s.file.replay = none)
    (hstate : m.state = .receiving) : s.replayRefusal m t = some .wrongState := by
  simp [State.replayRefusal, hr, hstate]

theorem State.replayRefusal_of_owned (hr : s.file.replay = none) (hstate : m.state ≠ .receiving)
    (howner : s.punch.owner = some .line ∨ s.punch.owner = some .loc) :
    s.replayRefusal m .punch = some .punchBusy := by
  rcases howner with howner | howner <;> simp [State.replayRefusal, State.ownerAdmits, hr, hstate, howner]

theorem State.replayRefusal_eq_none {t : ReplayTarget} (hr : s.file.replay = none) (hstate : m.state ≠ .receiving)
    (howner : t = .punch → s.ownerAdmits .submitted = true) : s.replayRefusal m t = none := by
  simpa [State.replayRefusal, hr, hstate] using howner

/-! ## The end of a replay and its copies (R106, R107) -/

variable {r : Replay}

theorem File.endReplay_of_some {f : File} (hr : f.replay = some r) : f.endReplay = { f with
    records := f.records.map fun m => if m.number = r.number then { m with state := .filed } else m
    replay := none } := by
  rw [File.endReplay, hr]

theorem cancelReplay_of_none (hr : s.file.replay = none) : cancelReplay s = s.refuse 0x1A .wrongState := by
  rw [cancelReplay, hr]

theorem cancelReplay_of_some (hr : s.file.replay = some r) : cancelReplay s =
    ({ s with file := s.file.endReplay }.notice (.replayDone r.number false r.position)).accept 0x1A
      (.replayCancelled r.number r.position) := by
  rw [cancelReplay, hr]

@[simp] theorem State.replayCell_link (s : State) (t : ReplayTarget) (c : Cell) : (s.replayCell t c).link = s.link := by
  cases t <;> simp [State.replayCell, State.appendPunch]

/-- R106: the copy waits for its target, or is made and the position advances. -/
theorem replayCopy_eq {c : Cell} (hr : s.file.replay = some r) (hm : s.file.find r.number = some m)
    (hc : m.cells[r.position]? = some c) : replayCopy s =
    if s.replayTakes r.target then ((s.replayCell r.target c).advanceReplay r m.cells.length).carryOn else s := by
  have hnext := File.replayNext_eq_some.mpr ⟨hm, hc⟩
  rw [replayCopy, hr]
  dsimp only
  rw [hnext]

theorem State.advanceReplay_of_more {total : Nat} (h : r.position + 1 < total) : s.advanceReplay r total =
    { s with file := { s.file with replay := some { r with position := r.position + 1 } } } :=
  if_neg (Nat.not_le.mpr h)

theorem State.advanceReplay_of_last {total : Nat} (h : total ≤ r.position + 1) : s.advanceReplay r total =
    { s with file := s.file.endReplay, link := s.link.queueNotice (.replayDone r.number true (r.position + 1)) } :=
  if_pos h

/-- R106: what a print target asks for. -/
theorem State.replayTakes_print_iff : s.replayTakes .print = true ↔
    s.printer.status ≠ .noPaper ∧ s.printer.status ≠ .held ∧ s.printer.status ≠ .fault ∧
      s.store.spoolRefusal .pSubmit = none := by
  have htakes : s.printerTakes = true ↔
      s.printer.status ≠ .noPaper ∧ s.printer.status ≠ .held ∧ s.printer.status ≠ .fault := by
    rw [State.printerTakes_iff]
    cases s.printer.status <;> decide
  simp [State.replayTakes, htakes, and_assoc]

/-- R106: what a punch target asks for. -/
theorem State.replayTakes_punch_iff : s.replayTakes .punch = true ↔
    (s.punch.status = .onIdle ∨ s.punch.status = .cycle) ∧
      (s.punch.owner = none ∨ s.punch.owner = some .submitted) ∧ s.store.spoolRefusal .punch = none := by
  simp [State.replayTakes, State.punchTakes_iff, State.ownerAdmits_iff, and_assoc]

end Owners

/-! ## The obligations -/

/-- Settles O25: each frame reaches its owner, which reads the record of the number or refuses. -/
theorem fileReadsReportOrAreRefused : Obligations.FileReadsReportOrAreRefused := by
  refine ⟨fun s h => ⟨exec_listMessages_of_takesCommands h, ?fetched, ?got⟩,
    fun number s h => ⟨?absent, ?count, ?target⟩⟩
  case fetched =>
    intro number offset count m hlow hhigh hm
    rw [exec_fetchMessage_of_takesCommands h, fetchMessage_of_good_count hlow hhigh, hm]
    rfl
  case got =>
    intro number m hm
    rw [exec_getMessage_of_takesCommands h]
    exact ⟨fun r hr hnumber => by rw [getMessage_of_replayed hm hr hnumber],
      fun hother => ⟨_, by rw [getMessage_of_resting hm hother]⟩⟩
  case absent =>
    intro hnone
    rw [exec_getMessage_of_takesCommands h, exec_deleteMessage_of_takesCommands h, getMessage_of_none hnone,
      deleteMessage_of_none hnone]
    refine ⟨rfl, rfl, fun target htarget => ?_, fun offset count hlow hhigh => ?_⟩
    · obtain ⟨t, ht⟩ := exists_replayTargetOf htarget
      rw [exec_replayMessage_of_takesCommands h, replayMessage_of_none ht hnone]
    · rw [exec_fetchMessage_of_takesCommands h, fetchMessage_of_good_count hlow hhigh, hnone]
      rfl
  case count =>
    intro offset count hcount
    rw [exec_fetchMessage_of_takesCommands h, fetchMessage_of_bad_count hcount]
  case target =>
    intro target htarget
    rw [exec_replayMessage_of_takesCommands h, replayMessage_of_bad_target (replayTargetOf_eq_none htarget)]

/-- Settles O26: each frame reaches its owner, which acts by the state of the record and of the replay; a copy goes to
the replay's target when that can take it. -/
theorem deleteAndReplayComplete : Obligations.DeleteAndReplayComplete := by
  refine ⟨fun s h => ⟨?deleted, ?begun, ?cancelled, ?idle⟩, ?copied,
    fun number m s h hm => ⟨?receiving, ?replaying, ?refused⟩,
    fun s => ⟨State.replayTakes_print_iff, State.replayTakes_punch_iff⟩⟩
  case deleted =>
    intro number m hm hstate
    rw [exec_deleteMessage_of_takesCommands h, deleteMessage_of_filed hm hstate, State.deleteRecord, returnBlocks_eq]
    simp [Store.freeCount]
  case begun =>
    intro number target m t hm hstate hnone htarget howner
    have hrefusal : s.replayRefusal m t = none :=
      State.replayRefusal_eq_none hnone (by simp [hstate]) fun ht => State.ownerAdmits_iff.mpr (howner ht)
    rw [exec_replayMessage_of_takesCommands h, replayMessage_of_begun htarget hm hrefusal]
    rfl
  case cancelled =>
    intro r hr
    rw [exec_cancelReplay_of_takesCommands h, cancelReplay_of_some hr, File.endReplay_of_some hr]
    rfl
  case idle =>
    intro hnone
    rw [exec_cancelReplay_of_takesCommands h, cancelReplay_of_none hnone]
  case copied =>
    intro r m c s hr hm hc
    have hcopy : exec .replayCopy s = .next (replayCopy s) := rfl
    rw [hcopy, replayCopy_eq hr hm hc]
    refine ⟨fun hwaits => by rw [if_neg (by simp [hwaits])],
      fun htakes => ⟨s.replayCell r.target c, ?_, ?_, ?_, ?_⟩⟩
    · intro ht
      rw [ht]
      rfl
    · intro ht
      rw [ht]
      rfl
    · intro hmore
      rw [if_pos htakes, State.advanceReplay_of_more hmore, State.replayCell_file]
    · intro hlast
      rw [if_pos htakes, State.advanceReplay_of_last hlast, State.replayCell_file, State.replayCell_link,
        File.endReplay_of_some hr]
  case receiving =>
    intro hstate
    rw [exec_deleteMessage_of_takesCommands h, deleteMessage_of_receiving hm hstate]
  case replaying =>
    intro hstate
    rw [exec_deleteMessage_of_takesCommands h, deleteMessage_of_replaying hm hstate]
  case refused =>
    intro target t htarget
    rw [exec_replayMessage_of_takesCommands h]
    refine ⟨fun hbusy => ?_, fun hnone hstate => ?_, fun hnone hstate ht howner => ?_⟩
    · rw [replayMessage_of_refused htarget hm (State.replayRefusal_of_replay hbusy)]
    · rw [replayMessage_of_refused htarget hm (State.replayRefusal_of_receiving hnone hstate)]
    · subst ht
      rw [replayMessage_of_refused htarget hm (State.replayRefusal_of_owned hnone hstate howner)]

end Sys2Proof.Machine
end

section
/-! The print cycle that a committed cell needs, as one choice among the kinds of a cycle (R117 to R119, R121 to
R123). -/

namespace Sys2Proof.Machine

/-! ## A cycle that starts now -/

/-- The cycle of a code that starts now, with the options it reads (R118). -/
def State.cycleNow (s : State) (code : Code) (r : CodeClass) (k : PrintCycleKind) : PrintCycle :=
  { code := code, reading := r, kind := k, phase := .select (s.now + s.opt .selectDelay * Config.ms),
    strikePulse := s.opt .strikePulse, programmed := s.printTime r, mode := timingModeOf (s.opt .printTimingMode),
    extra := s.opt .printExtra }

/-- The programmed time by the reading (R119). -/
theorem State.printTime_eq (s : State) (r : CodeClass) : s.printTime r =
    if r = .carriageReturn then
      max 1 (min 1000 (s.opt .crBase + s.opt .crStep * s.printer.column.getD (s.printer.width - 1)))
    else if r = .lineFeed then s.opt .lfTime else s.opt .printCycle := by
  cases r <;> rfl

/-! ## The kinds of cycle that a cell may need -/

/-- The code of a cycle made for a cell, by its kind (R117). -/
def PrintCycleKind.codeFor (m : FunctionMap) (c : Cell) : PrintCycleKind → Code
  | .own => c.code
  | .owedLf => m.lineFeed
  | .shift => m.shiftCode c.case
  | .owedCr | .recoveryCr => m.carriageReturn

/-- The reading of a cycle made for a cell, by its kind (R117). -/
def PrintCycleKind.readingFor (m : FunctionMap) (c : Cell) : PrintCycleKind → CodeClass
  | .own => m.reading c.code c.case
  | .owedLf => .lineFeed
  | .shift => if c.case = .letters then .lettersShift else .figuresShift
  | .owedCr | .recoveryCr => .carriageReturn

/-- Each kind but the two carriage returns has a reading of its own. -/
theorem PrintCycleKind.readingFor_eq (m : FunctionMap) (c : Cell) (k : PrintCycleKind) : k.readingFor m c =
    if k = .own then m.reading c.code c.case
    else if k = .owedLf then .lineFeed
    else if k = .shift then (if c.case = .letters then .lettersShift else .figuresShift)
    else .carriageReturn := by
  cases k <;> rfl

/-- Whether a cell meets the end of the line: it moves the carriage, which stands at the last position, and AUTO NEWLINE
is on (R122). -/
def State.endsLine (s : State) (c : Cell) : Bool :=
  (s.fmap.reading c.code c.case).advances && s.printer.atLast && s.flag .autoNewline

/-- A carriage at the last position stands there with a known column (R121). -/
theorem Printer.atLast_iff {p : Printer} : p.atLast = true ↔ ∃ k, p.column = some k ∧ p.width ≤ k + 1 := by
  cases h : p.column <;> simp [Printer.atLast, h]

/-- What makes a cell meet the end of the line (R122). -/
theorem State.endsLine_iff {s : State} {c : Cell} : s.endsLine c = true ↔
    (s.isl.functionMap.reading c.code c.case = .printing ∨ s.isl.functionMap.reading c.code c.case = .space) ∧
      (∃ k, s.printer.column = some k ∧ s.printer.width ≤ k + 1) ∧ s.opt .autoNewline = 1 := by
  simp [State.endsLine, CodeClass.advances, State.flag, State.fmap, Printer.atLast_iff, and_assoc]

/-- The kind of the next cycle of a cell: an owed newline, recovery, an automatic newline, a shift, or its own (R117). -/
def State.neededKind (s : State) (c : Cell) : PrintCycleKind :=
  match s.printer.newlineOwed with
  | .crAndLf => .owedCr
  | .lfOnly => .owedLf
  | .none =>
    if s.printer.column = none ∧ c.code ≠ s.fmap.carriageReturn then .recoveryCr
    else if s.endsLine c then .owedCr
    else if s.fmap.needsShift c.code c.case s.printer.mechCase then .shift
    else .own

section Kind
variable {s : State} {c : Cell}

theorem State.neededKind_of_crAndLf (h : s.printer.newlineOwed = .crAndLf) : s.neededKind c = .owedCr := by
  rw [State.neededKind, h]

theorem State.neededKind_of_lfOnly (h : s.printer.newlineOwed = .lfOnly) : s.neededKind c = .owedLf := by
  rw [State.neededKind, h]

/-- With the column UNKNOWN every cell but a CARRIAGE RETURN needs a recovery first (R121). -/
theorem State.neededKind_of_unknown (h : s.printer.newlineOwed = .none) (hcolumn : s.printer.column = none)
    (hcode : c.code ≠ s.isl.functionMap.carriageReturn) : s.neededKind c = .recoveryCr := by
  rw [State.neededKind, h]
  exact if_pos ⟨hcolumn, hcode⟩

/-- With no newline owed and no recovery needed, the end of the line decides, and then the case (R122, R123). -/
theorem State.neededKind_of_known (h : s.printer.newlineOwed = .none)
    (hknown : s.printer.column ≠ none ∨ c.code = s.isl.functionMap.carriageReturn) : s.neededKind c =
      if s.endsLine c then .owedCr
      else if s.isl.functionMap.needsShift c.code c.case s.printer.mechCase then .shift
      else .own := by
  rw [State.neededKind, h]
  exact if_neg fun ⟨hcolumn, hcode⟩ => hknown.elim (· hcolumn) hcode

end Kind

/-- A state whose printer is committed to a head cell (R112). -/
abbrev State.commit (s : State) : State := { s with printer := { s.printer with committed := true } }

/-- With no newline owed the tests of R117 decide on the state as it stood before the commitment. -/
theorem State.printCell_of_none {s : State} (h : s.printer.newlineOwed = .none) (n : PrintSpool) (c : Cell) :
    s.printCell n c =
      if s.printer.column = none ∧ c.code ≠ s.isl.functionMap.carriageReturn then s.commit.insertCr .recoveryCr
      else if s.endsLine c then
        { s.commit with printer := { s.commit.printer with newlineOwed := .crAndLf } }.insertCr .owedCr
      else if s.isl.functionMap.needsShift c.code c.case s.printer.mechCase then s.commit.insertShift c.case
      else s.printOwn n c := by
  unfold State.printCell
  dsimp only
  split
  · next howed => cases h.symm.trans howed
  · next howed => cases h.symm.trans howed
  · rfl

/-- The shift that matches a cell is the cycle of kind shift for it (R117). -/
theorem State.insertShift_eq (s : State) (c : Cell) : s.insertShift c.case =
    s.startPrintCycle (PrintCycleKind.shift.codeFor s.fmap c) (PrintCycleKind.shift.readingFor s.fmap c) .shift := by
  unfold State.insertShift PrintCycleKind.codeFor PrintCycleKind.readingFor
  cases c.case <;> rfl

/-- A commitment to a cell starts the cycle it needs. Its own cycle takes the cell out of its spool and ends the
commitment; an owed carriage return has both parts of the newline owed (R117). -/
theorem State.printCell_eq (s : State) (n : PrintSpool) (c : Cell) : s.printCell n c =
    { s with
      store := if s.neededKind c = .own then (s.store.removeHead n.toSpool).2 else s.store
      printer := { s.printer with
        committed := decide (s.neededKind c ≠ .own)
        newlineOwed := if s.neededKind c = .owedCr then .crAndLf else s.printer.newlineOwed
        cycle := some (s.cycleNow ((s.neededKind c).codeFor s.isl.functionMap c)
          ((s.neededKind c).readingFor s.isl.functionMap c) (s.neededKind c)) } } := by
  cases howed : s.printer.newlineOwed with
  | crAndLf =>
    rw [State.neededKind_of_crAndLf howed]
    simp only [State.printCell, howed]
    rfl
  | lfOnly =>
    rw [State.neededKind_of_lfOnly howed]
    simp only [State.printCell, howed]
    rfl
  | none =>
    rw [State.printCell_of_none howed]
    by_cases hrecovery : s.printer.column = none ∧ c.code ≠ s.isl.functionMap.carriageReturn
    · rw [if_pos hrecovery, State.neededKind_of_unknown howed hrecovery.1 hrecovery.2, ← howed]
      rfl
    rw [if_neg hrecovery, State.neededKind_of_known howed (by tauto)]
    by_cases hend : s.endsLine c = true
    · rw [if_pos hend, if_pos hend]
      rfl
    rw [if_neg hend, if_neg hend]
    by_cases hshift : s.isl.functionMap.needsShift c.code c.case s.printer.mechCase = true
    · rw [if_pos hshift, if_pos hshift, State.insertShift_eq, ← howed]
      rfl
    · rw [if_neg hshift, if_neg hshift, ← howed]
      rfl

/-! ## The obligation -/

/-- Settles O54: the cell's next cycle is the one of its needed kind, which the tests of R117 give in their order. -/
theorem printerMakesTheCycleTheCellNeeds : Obligations.PrinterMakesTheCycleTheCellNeeds := by
  refine ⟨fun n c s t ht => ?made, fun n c s t y ht hy => ?timed⟩
  case made =>
    rw [State.printCell_eq] at ht
    subst ht
    refine ⟨_, rfl, fun howed => ?_, fun howed => ?_, fun howed => ⟨fun hcolumn hcode => ?_, fun hknown => ?_⟩,
      fun hkind => ?_, rfl, rfl, rfl, rfl, rfl⟩
    · rw [State.neededKind_of_crAndLf howed]
      exact ⟨rfl, rfl⟩
    · rw [State.neededKind_of_lfOnly howed]
      exact ⟨rfl, rfl⟩
    · rw [State.neededKind_of_unknown howed hcolumn hcode]
      exact ⟨rfl, rfl⟩
    · rintro last rfl
      rw [State.neededKind_of_known howed hknown, ← State.endsLine_iff]
      refine ⟨fun hend => ?_, fun hend => ⟨fun hshift => ?_, fun hshift => ?_⟩⟩
      · rw [if_pos hend]
        exact ⟨rfl, rfl, rfl⟩
      · rw [if_neg hend, if_pos hshift]
        exact ⟨rfl, rfl⟩
      · rw [if_neg hend, if_neg (by simp [hshift])]
        exact ⟨rfl, rfl, rfl, rfl⟩
    · exact ⟨if_neg hkind, decide_eq_true hkind⟩
  case timed =>
    rw [State.printCell_eq] at ht
    subst ht
    obtain rfl := Option.some.inj hy
    exact ⟨rfl, rfl, rfl, rfl, PrintCycleKind.readingFor_eq .., State.printTime_eq ..⟩

end Sys2Proof.Machine
end

section
/-! The choice of the printer: what it comes to in each case of R112, re-arbitration (R113), the hold-wait and the cut-in
(R114, R115), and that a cycle starts only with PRINT placed (R164). -/

namespace Sys2Proof.Machine

/-! ## Heads of the print spools -/

section Heads
variable {s : State}

/-- A print spool is empty when it has no head cell. -/
theorem State.printSpoolEmpty_iff {n : PrintSpool} : s.printSpoolEmpty n = true ↔ s.printHead n = none := by
  simp [State.printSpoolEmpty, State.printHead, Spool.isEmpty]

theorem State.printSpoolEmpty_eq_false_iff {n : PrintSpool} : s.printSpoolEmpty n = false ↔ s.printHead n ≠ none := by
  rw [← Bool.not_eq_true, State.printSpoolEmpty_iff]

/-- There is work when a print spool has a head cell. -/
theorem State.printWork_iff : s.printWork = true ↔ ∃ n, s.printHead n ≠ none := by
  simp only [State.printWork, Bool.or_eq_true, Bool.not_eq_true', State.printSpoolEmpty_eq_false_iff]
  constructor
  · rintro ((h | h) | h) <;> exact ⟨_, h⟩
  · rintro ⟨n, h⟩
    cases n <;> simp [h]

/-- R114: a rival waits in a spool other than the current one. -/
theorem State.rivalWaits_iff : s.rivalWaits = true ↔
    ∃ n : PrintSpool, s.printer.current ≠ some n ∧ s.printHead n ≠ none := by
  simp only [State.rivalWaits, List.any_eq_true, Bool.and_eq_true, bne_iff_ne, Bool.not_eq_true',
    State.printSpoolEmpty_eq_false_iff]
  constructor
  · rintro ⟨n, -, h⟩
    exact ⟨n, h⟩
  · rintro ⟨n, h⟩
    exact ⟨n, by cases n <;> simp, h⟩

/-- R114: the current spool holds a cell. -/
theorem State.currentHolds_iff : s.currentHolds = true ↔
    ∃ n, s.printer.current = some n ∧ s.printHead n ≠ none := by
  cases hc : s.printer.current <;> simp [State.currentHolds, hc, State.printSpoolEmpty_eq_false_iff]

end Heads

/-! ## Re-arbitration and grants -/

section Grant
variable {s : State}

/-- The printer goes on with the head cell of a spool (R112, R117). -/
theorem State.printFrom_of_head {n : PrintSpool} {c : Cell} (h : s.printHead n = some c) :
    s.printFrom n = s.printCell n c := by
  rw [State.printFrom, h]

theorem State.printFrom_of_empty {n : PrintSpool} (h : s.printHead n = none) : s.printFrom n = s := by
  rw [State.printFrom, h]

/-- The order of re-arbitration after a grant to P-LOCAL (R113). -/
theorem State.arbitrate_of_local (h : s.printer.pointer = .pLocal) : s.arbitrate =
    [PrintSpool.pLine, .pSubmit, .pLocal].find? fun n => !s.printSpoolEmpty n := by
  rw [State.arbitrate, h]

/-- The order of re-arbitration otherwise (R113). -/
theorem State.arbitrate_of_not_local (h : s.printer.pointer ≠ .pLocal) : s.arbitrate =
    [PrintSpool.pLine, .pLocal, .pSubmit].find? fun n => !s.printSpoolEmpty n := by
  unfold State.arbitrate
  split
  · contradiction
  · rfl

/-- Re-arbitration yields P-LINE before the level 2 spools, and of these the one after the pointer (R113). -/
theorem State.arbitrate_eq_some {n : PrintSpool} (hhead : s.printHead n ≠ none)
    (hline : n ≠ .pLine → s.printHead .pLine = none)
    (hlocal : n = .pSubmit → s.printer.pointer ≠ .pLocal → s.printHead .pLocal = none)
    (hsubmit : n = .pLocal → s.printer.pointer = .pLocal → s.printHead .pSubmit = none) :
    s.arbitrate = some n := by
  simp only [← State.printSpoolEmpty_iff] at hline hlocal hsubmit
  rw [← State.printSpoolEmpty_eq_false_iff] at hhead
  by_cases hp : s.printer.pointer = .pLocal
  · rw [State.arbitrate_of_local hp]
    cases n <;> simp_all
  · rw [State.arbitrate_of_not_local hp]
    cases n <;> simp_all

/-- Re-arbitration yields a spool whenever there is work, and it yields one that holds a cell (R113). -/
theorem State.arbitrate_spec : (∀ n, s.arbitrate = some n → s.printHead n ≠ none) ∧
    (s.arbitrate = none ↔ s.printWork = false) := by
  have hfind : ∀ order : List PrintSpool, (∀ n, n ∈ order) →
      s.arbitrate = order.find? (fun n => !s.printSpoolEmpty n) →
      (∀ n, s.arbitrate = some n → s.printHead n ≠ none) ∧ (s.arbitrate = none ↔ s.printWork = false) := by
    intro order hall horder
    rw [horder]
    refine ⟨fun n hn => ?_, ?_⟩
    · simpa [State.printSpoolEmpty_eq_false_iff] using List.find?_some hn
    · rw [← Bool.not_eq_true, State.printWork_iff]
      simp [hall, State.printSpoolEmpty_iff]
  by_cases hp : s.printer.pointer = .pLocal
  · exact hfind _ (by intro n; cases n <;> simp) (State.arbitrate_of_local hp)
  · exact hfind _ (by intro n; cases n <;> simp) (State.arbitrate_of_not_local hp)

/-- A spool that is current continues (R113). -/
theorem Printer.grant_of_current {p : Printer} {n : PrintSpool} (h : p.current = some n) : p.grant n = p := if_pos h

/-- What a grant in place of another spool or of none sets, and the newline that an interrupted spool owes (R111, R113,
R116). -/
theorem Printer.grant_of_other {p : Printer} {n : PrintSpool} (h : p.current ≠ some n) : p.grant n = { p with
    current := some n, lineOpen := false
    pointer := if n = .pLine then p.pointer else n
    newlineOwed := if p.interrupted n = true then .crAndLf else p.newlineOwed
    interruptedLine := if n = .pLine then false else p.interruptedLine
    interruptedLocal := if n = .pLocal then false else p.interruptedLocal
    interruptedSubmit := if n = .pSubmit then false else p.interruptedSubmit } := by
  unfold Printer.grant
  rw [if_neg h]
  cases n with
  | pLine => cases hi : p.interruptedLine <;> simp [Printer.interrupted, Printer.markInterrupted, hi]
  | pLocal => cases hi : p.interruptedLocal <;> simp [Printer.interrupted, Printer.markInterrupted, hi]
  | pSubmit => cases hi : p.interruptedSubmit <;> simp [Printer.interrupted, Printer.markInterrupted, hi]

end Grant

/-! ## The items of a choice -/

/-- The printer makes the newline it owes (R112, R117). -/
def State.newlineItem (s : State) : State :=
  if s.printer.newlineOwed = .crAndLf then s.insertCr .owedCr else s.insertLf

/-- The printer grants the spool that re-arbitration yields, and goes on from it (R112, R113). -/
def State.grantItem (s : State) : State :=
  match s.arbitrate with
  | some n => { s with printer := s.printer.grant n }.printFrom n
  | none => s

/-- The printer begins the hold-wait (R112, R114). -/
def State.beginHoldWait (s : State) : State :=
  { s with printer := { s.printer with holdWait := .waiting (s.now + s.opt .arbiterHold * Config.hundredMs) } }

section Items
variable {s : State} {n : PrintSpool}

/-- The items of R112 with a current spool. -/
theorem State.printChoiceItem_of_current (h : s.printer.current = some n) : s.printChoiceItem =
    if s.printer.committed then s.printFrom n
    else if s.printer.newlineOwed ≠ .none ∧ s.printWork then s.newlineItem
    else if !s.printer.lineOpen then s.grantItem
    else if !s.printSpoolEmpty n then s.printFrom n
    else if s.printer.holdWait = .notWaiting then s.beginHoldWait
    else s := by
  unfold State.printChoiceItem
  split
  · next m hm =>
    obtain rfl := Option.some.inj (hm.symm.trans h)
    rfl
  · next hnone => cases hnone.symm.trans h

/-- The items of R112 without one. -/
theorem State.printChoiceItem_of_no_current (h : s.printer.current = none) : s.printChoiceItem =
    if s.printer.newlineOwed ≠ .none ∧ s.printWork then s.newlineItem else s.grantItem := by
  unfold State.printChoiceItem
  split
  · next m hm => cases hm.symm.trans h
  · rfl

/-- All that the items of R112 can be. -/
theorem State.printChoiceItem_cases (s : State) : s.printChoiceItem = s ∨ (∃ n, s.printChoiceItem = s.printFrom n) ∨
    s.printChoiceItem = s.newlineItem ∨ s.printChoiceItem = s.grantItem ∨ s.printChoiceItem = s.beginHoldWait := by
  cases hcurrent : s.printer.current with
  | none =>
    rw [State.printChoiceItem_of_no_current hcurrent]
    split_ifs <;> simp
  | some n =>
    rw [State.printChoiceItem_of_current hcurrent]
    split_ifs <;> simp

/-- R112: committed work goes on. -/
theorem State.printChoiceItem_of_committed (hcurrent : s.printer.current = some n)
    (hcommitted : s.printer.committed = true) : s.printChoiceItem = s.printFrom n := by
  rw [State.printChoiceItem_of_current hcurrent, if_pos hcommitted]

/-- R112: without a commitment an owed newline is made while there is work. -/
theorem State.printChoiceItem_of_newline (hfree : s.printer.committed = false ∨ s.printer.current = none)
    (howed : s.printer.newlineOwed ≠ .none) (hwork : s.printWork = true) : s.printChoiceItem = s.newlineItem := by
  cases hcurrent : s.printer.current with
  | none => rw [State.printChoiceItem_of_no_current hcurrent, if_pos ⟨howed, hwork⟩]
  | some n =>
    have hcommitted : s.printer.committed = false := by simpa [hcurrent] using hfree
    rw [State.printChoiceItem_of_current hcurrent, if_neg (by simp [hcommitted]), if_pos ⟨howed, hwork⟩]

/-- R112, R113: at a line boundary, or with no current spool, the printer re-arbitrates. -/
theorem State.printChoiceItem_of_boundary (hfree : s.printer.committed = false ∨ s.printer.current = none)
    (hpaid : s.printer.newlineOwed = .none ∨ s.printWork = false)
    (hboundary : s.printer.current = none ∨ s.printer.lineOpen = false) : s.printChoiceItem = s.grantItem := by
  have howed : ¬ (s.printer.newlineOwed ≠ .none ∧ s.printWork = true) := fun ⟨howed, hwork⟩ =>
    hpaid.elim howed (by simp [hwork])
  cases hcurrent : s.printer.current with
  | none => rw [State.printChoiceItem_of_no_current hcurrent, if_neg howed]
  | some n =>
    have hcommitted : s.printer.committed = false := by simpa [hcurrent] using hfree
    have hclosed : s.printer.lineOpen = false := by simpa [hcurrent] using hboundary
    rw [State.printChoiceItem_of_current hcurrent, if_neg (by simp [hcommitted]), if_neg howed,
      if_pos (by simp [hclosed])]

/-- R112, R114: within a line the printer goes on with the current spool, or waits for it. -/
theorem State.printChoiceItem_of_open (hcurrent : s.printer.current = some n) (hfree : s.printer.committed = false)
    (hpaid : s.printer.newlineOwed = .none ∨ s.printWork = false) (hopen : s.printer.lineOpen = true) :
    s.printChoiceItem = if s.printHead n ≠ none then s.printFrom n
      else if s.printer.holdWait = .notWaiting then s.beginHoldWait
      else s := by
  have howed : ¬ (s.printer.newlineOwed ≠ .none ∧ s.printWork = true) := fun ⟨howed, hwork⟩ =>
    hpaid.elim howed (by simp [hwork])
  rw [State.printChoiceItem_of_current hcurrent, if_neg (by simp [hfree]), if_neg howed, if_neg (by simp [hopen])]
  simp only [Bool.not_eq_true', State.printSpoolEmpty_eq_false_iff]

/-- A grant commits to the head cell of the spool that re-arbitration yields (R113). -/
theorem State.grantItem_of_head {c : Cell} (hyields : s.arbitrate = some n) (hhead : s.printHead n = some c) :
    s.grantItem = State.printCell { s with printer := s.printer.grant n } n c := by
  rw [State.grantItem, hyields]
  exact State.printFrom_of_head hhead

theorem State.grantItem_of_no_work (hwork : s.printWork = false) : s.grantItem = s := by
  rw [State.grantItem, State.arbitrate_spec.2.mpr hwork]

end Items

/-! ## Whether the choice is made -/

section Choice
variable {s : State}

/-- An IDLE printer has no cycle in flight (R110). -/
theorem Printer.cycle_of_idle {p : Printer} (h : p.status = .idle) : p.cycle = none := by
  unfold Printer.status at h
  split_ifs at h with _ hcycle
  simpa using hcycle

theorem HoldWait.isWaiting_iff {w : HoldWait} : w.isWaiting = true ↔ ∃ due, w = .waiting due := by
  cases w <;> simp [HoldWait.isWaiting]

/-- When the printer makes a choice (R112, R165). -/
theorem State.printerChooses_iff : s.printerChooses = true ↔
    s.printer.status = .idle ∧ s.motor.state = .running ∧ (∀ due, s.printer.holdWait ≠ .waiting due) ∧
      s.motor.printWithdrawn = false := by
  simp [State.printerChooses, State.printerState, State.motorRunning, ← Bool.not_eq_true, HoldWait.isWaiting_iff,
    and_assoc]

/-- When the printer makes no choice, everything stays (R112). -/
theorem State.printChoice_of_not_chooses (h : ¬ s.printerChooses = true) : s.printChoice = s := by
  simp [State.printChoice, h]

/-- A choice that comes to nothing leaves all as it is. -/
theorem State.printChoice_of_item_eq (h : s.printChoiceItem = s) : s.printChoice = s := by
  simp [State.printChoice, h]

/-- With PRINT placed the choice is its item (R112, R164). -/
theorem State.printChoice_of_placed (h : s.printerChooses = true) (hplaced : s.motor.demand.print = true) :
    s.printChoice = s.printChoiceItem := by
  simp [State.printChoice, h, hplaced]

/-- An item that starts no cycle needs no PRINT (R164). -/
theorem State.printChoice_of_no_cycle (h : s.printerChooses = true) (hcycle : s.printChoiceItem.printer.cycle = none) :
    s.printChoice = s.printChoiceItem := by
  simp [State.printChoice, h, hcycle]

/-- Without PRINT no cycle starts (R164, log 44). -/
theorem State.printChoice_of_unplaced (hplaced : s.motor.demand.print = false)
    (hcycle : s.printChoiceItem.printer.cycle ≠ none) : s.printChoice = s := by
  simp [State.printChoice, hplaced, hcycle]

/-- A commitment starts a cycle (R117). -/
theorem State.printCell_cycle_ne_none (s : State) (n : PrintSpool) (c : Cell) :
    (s.printCell n c).printer.cycle ≠ none := by
  rw [State.printCell_eq]
  exact nofun

theorem State.newlineItem_cycle_ne_none (s : State) : s.newlineItem.printer.cycle ≠ none := by
  unfold State.newlineItem
  split <;> exact nofun

/-- With work to do a grant starts a cycle (R113). -/
theorem State.grantItem_cycle_ne_none (hwork : s.printWork = true) : s.grantItem.printer.cycle ≠ none := by
  obtain ⟨hhead, hnone⟩ := s.arbitrate_spec
  cases hn : s.arbitrate with
  | none => simp [hnone.mp hn] at hwork
  | some n =>
    obtain ⟨c, hc⟩ := Option.ne_none_iff_exists'.mp (hhead n hn)
    rw [State.grantItem_of_head hn hc]
    exact State.printCell_cycle_ne_none _ n c

/-- While there is work and PRINT is not placed, every choice but the beginning of a hold-wait leaves all as it is (R114,
R164). -/
theorem State.printChoice_of_unplaced_work (hplaced : s.motor.demand.print = false) (hwork : s.printWork = true)
    (hstarts : s.printer.committed = true ∨ s.printer.newlineOwed ≠ .none ∨ s.printer.current = none ∨
      s.printer.lineOpen = false ∨ ∃ n, s.printer.current = some n ∧ s.printHead n ≠ none) : s.printChoice = s := by
  have hfrom : ∀ n, s.printChoiceItem = s.printFrom n → s.printChoice = s := by
    intro n hitem
    cases hhead : s.printHead n with
    | none => exact State.printChoice_of_item_eq (hitem.trans (State.printFrom_of_empty hhead))
    | some c =>
      rw [State.printFrom_of_head hhead] at hitem
      exact State.printChoice_of_unplaced hplaced (hitem ▸ s.printCell_cycle_ne_none n c)
  by_cases hfree : s.printer.committed = false ∨ s.printer.current = none
  · by_cases howed : s.printer.newlineOwed = .none
    · by_cases hboundary : s.printer.current = none ∨ s.printer.lineOpen = false
      · refine State.printChoice_of_unplaced hplaced ?_
        rw [State.printChoiceItem_of_boundary hfree (.inl howed) hboundary]
        exact State.grantItem_cycle_ne_none hwork
      · obtain ⟨hcurrent, hopen⟩ := not_or.mp hboundary
        have hcommitted : s.printer.committed = false := hfree.resolve_right hcurrent
        obtain ⟨n, hn, hhead⟩ : ∃ n, s.printer.current = some n ∧ s.printHead n ≠ none := by
          simpa [howed, hcurrent, hopen, hcommitted] using hstarts
        refine hfrom n ?_
        rw [State.printChoiceItem_of_open hn hcommitted (.inl howed) (by simpa using hopen), if_pos hhead]
    · refine State.printChoice_of_unplaced hplaced ?_
      rw [State.printChoiceItem_of_newline hfree howed hwork]
      exact s.newlineItem_cycle_ne_none
  · obtain ⟨hcommitted, hcurrent⟩ := not_or.mp hfree
    obtain ⟨n, hn⟩ := Option.ne_none_iff_exists'.mp hcurrent
    exact hfrom n (State.printChoiceItem_of_committed hn (by simpa using hcommitted))

end Choice

/-! ## The hold-wait and the cut-in -/

/-- The marks of a printer are its three fields (R111). -/
theorem Printer.interrupted_markInterrupted (p : Printer) (n m : PrintSpool) (b : Bool) :
    (p.markInterrupted n b).interrupted m = if n = m then b else p.interrupted m := by
  cases n <;> cases m <;> rfl

/-- A cut-in leaves no current spool and owes a newline; it marks the spool it leaves (R115). -/
theorem Printer.cutIn_spec (p : Printer) :
    p.cutIn = { p with
      current := none, lineOpen := false, newlineOwed := .crAndLf, holdWait := .notWaiting
      interruptedLine := p.cutIn.interruptedLine, interruptedLocal := p.cutIn.interruptedLocal
      interruptedSubmit := p.cutIn.interruptedSubmit } ∧
    (∀ n, p.current = some n → p.cutIn.interrupted n = true) ∧
    (∀ n, p.current ≠ some n → p.cutIn.interrupted n = p.interrupted n) := by
  cases hcurrent : p.current with
  | none =>
    have hcut : p.cutIn = { p with
        current := none, lineOpen := false, newlineOwed := .crAndLf, holdWait := .notWaiting } := by
      rw [Printer.cutIn, hcurrent]
    rw [hcut]
    exact ⟨rfl, nofun, fun n _ => by cases n <;> rfl⟩
  | some k =>
    have hcut : p.cutIn = { p.markInterrupted k true with
        current := none, lineOpen := false, newlineOwed := .crAndLf, holdWait := .notWaiting } := by
      rw [Printer.cutIn, hcurrent]
    have hmarks : ∀ n, p.cutIn.interrupted n = if k = n then true else p.interrupted n := by
      intro n
      rw [← Printer.interrupted_markInterrupted, hcut]
      cases n <;> rfl
    refine ⟨?_, fun n hn => ?_, fun n hn => ?_⟩
    · rw [hcut]
      cases k <;> rfl
    · rw [hmarks, if_pos (Option.some.inj hn)]
    · rw [hmarks, if_neg fun h => hn (congrArg some h)]

section Review
variable {s : State}

/-- A printer in IDLE, or under a motor that is not RUNNING, is told nothing (R165). -/
theorem State.reviewWithdrawn_of_still (h : s.printer.status = .idle ∨ s.motor.state ≠ .running) :
    s.reviewWithdrawn = s := by
  rcases h with h | h
  · exact if_pos h
  · simp [State.reviewWithdrawn, State.tellPrinter, State.motorRunning, h]

/-- A printer that leaves IDLE while RUNNING will choose again (R165, log 36). -/
theorem State.reviewWithdrawn_of_left (h : s.printer.status ≠ .idle) (hrunning : s.motor.state = .running) :
    s.reviewWithdrawn = { s with motor := { s.motor with printWithdrawn := false } } := by
  simp [State.reviewWithdrawn, State.printerState, State.tellPrinter, State.motorRunning, h, hrunning]

/-- R114: what ends a hold-wait without a cut-in. -/
theorem State.reviewHoldWait_of_ended (h : s.printer.holdWait ≠ .notWaiting)
    (hends : s.printer.status ≠ .idle ∨ ∃ n, s.printer.current = some n ∧ s.printHead n ≠ none) :
    s.reviewHoldWait = { s with printer := { s.printer with holdWait := .notWaiting } } := by
  rw [← State.currentHolds_iff] at hends
  rw [State.reviewHoldWait, if_neg h]
  exact if_pos hends

/-- R114: while the printer is IDLE and its spool empty, a rival cuts in on an EXPIRED hold-wait. -/
theorem State.reviewHoldWait_of_waiting (h : s.printer.holdWait ≠ .notWaiting) (hidle : s.printer.status = .idle)
    (hempty : ∀ n, s.printer.current = some n → s.printHead n = none) :
    s.reviewHoldWait = if s.printer.holdWait = .expired ∧ s.rivalWaits then { s with printer := s.printer.cutIn }
      else s := by
  have hstands : ¬ (s.printerState ≠ .idle ∨ s.currentHolds = true) := by
    rw [State.currentHolds_iff]
    rintro (hleft | ⟨n, hcurrent, hhead⟩)
    · exact hleft hidle
    · exact hhead (hempty n hcurrent)
  rw [State.reviewHoldWait, if_neg h, if_neg hstands]

end Review

/-! ## The obligation -/

/-- Settles O55: each item of R112 is an equation of the choice, and the items that start a cycle wait for PRINT. -/
theorem printerArbitratesAtLineBoundaries : Obligations.PrinterArbitratesAtLineBoundaries := by
  refine ⟨fun s => ⟨fun hstill => ?still, fun hidle hrunning htold hwait => ?choice⟩,
    fun s => ⟨State.rivalWaits_iff, State.reviewWithdrawn_of_still, State.reviewWithdrawn_of_left, ?_, ?review⟩,
    fun p => ⟨rfl, rfl, rfl⟩, fun p n => ⟨Printer.grant_of_current, Printer.grant_of_other⟩, ?owed⟩
  case still =>
    refine State.printChoice_of_not_chooses fun hchooses => ?_
    obtain ⟨hidle, hrunning, hwait, htold⟩ := State.printerChooses_iff.mp hchooses
    rcases hstill with h | h | h | ⟨due, h⟩
    · exact h hidle
    · exact h hrunning
    · simp [htold] at h
    · exact hwait due h
  case choice =>
    have hchooses := State.printerChooses_iff.mpr ⟨hidle, hrunning, hwait, htold⟩
    refine ⟨State.printChoice_of_unplaced_work, fun hplaced n c hcommitted hcurrent hhead => ?_,
      fun hfree => ⟨fun hplaced howed hwork => ?_, fun hplaced howed hwork => ?_, fun hpaid => ⟨fun hboundary =>
        ⟨fun hwork => ?_, fun hplaced n c p hhead hline hlocal hsubmit hp => ?_⟩, fun n hcurrent hopen => ?_⟩⟩⟩
    · rw [State.printChoice_of_placed hchooses hplaced, State.printChoiceItem_of_committed hcurrent hcommitted,
        State.printFrom_of_head hhead]
    · rw [State.printChoice_of_placed hchooses hplaced, State.printChoiceItem_of_newline hfree (by simp [howed]) hwork]
      exact if_pos howed
    · rw [State.printChoice_of_placed hchooses hplaced, State.printChoiceItem_of_newline hfree (by simp [howed]) hwork]
      exact if_neg (by simp [howed])
    · refine State.printChoice_of_item_eq ?_
      rw [State.printChoiceItem_of_boundary hfree hpaid hboundary, State.grantItem_of_no_work hwork]
    · rw [hp, State.printChoice_of_placed hchooses hplaced, State.printChoiceItem_of_boundary hfree hpaid hboundary]
      exact State.grantItem_of_head (State.arbitrate_eq_some (by simp [hhead]) hline hlocal hsubmit) hhead
    · have hitem := State.printChoiceItem_of_open hcurrent (hfree.resolve_right (by simp [hcurrent])) hpaid hopen
      refine ⟨fun hplaced c hhead => ?_, fun hhead hexpired => ?_, fun hhead hnot => ?_⟩
      · rw [State.printChoice_of_placed hchooses hplaced, hitem, if_pos (by simp [hhead]), State.printFrom_of_head hhead]
      · refine State.printChoice_of_item_eq ?_
        rw [hitem, if_neg (by simp [hhead]), if_neg (by simp [hexpired])]
      · have hbegun : s.printChoiceItem = s.beginHoldWait := by
          rw [hitem, if_neg (by simp [hhead]), if_pos hnot]
        rw [State.printChoice_of_no_cycle hchooses (by rw [hbegun]; exact Printer.cycle_of_idle hidle), hbegun]
        rfl
  · exact fun hnot => if_pos hnot
  case review =>
    refine fun hwaits => ⟨State.reviewHoldWait_of_ended hwaits, fun hidle hempty => ?_⟩
    rw [State.reviewHoldWait_of_waiting hwaits hidle hempty]
    refine ⟨fun hstays => ?_, fun hexpired hrival => ?_⟩
    · exact if_neg fun ⟨hexpired, hrival⟩ => hstays.elim (· hexpired) (by simp [hrival])
    · exact ⟨s.printer.cutIn, if_pos ⟨hexpired, hrival⟩, s.printer.cutIn_spec⟩
  case owed =>
    rintro s y rfl
    exact ⟨rfl, fun k => rfl⟩

end Sys2Proof.Machine
end

section
/-! The frame of the choices that follow a step: what each of them may change, and that two of them never take a cell out
of the same spool (R9, R57, R112, R138). -/

namespace Sys2Proof.Machine

/-! ## The store under removals -/

/-- A store after removals of heads: each of the named spools keeps its cells or gives up its oldest, and the rest of the
spools stay (R9). -/
structure Store.GivesUpHeads (heads : Set SpoolName) (a b : Store) : Prop where
  episode : b.episode = a.episode
  kept : ∀ n, n ∉ heads → b.spool n = a.spool n
  given : ∀ n, (a.spool n).keepsOrDrops (b.spool n)

section GivesUpHeads
variable {A B : Set SpoolName} {a b c : Store}

theorem Store.GivesUpHeads.refl (A : Set SpoolName) (a : Store) : a.GivesUpHeads A a :=
  ⟨rfl, fun _ _ => rfl, fun _ => .inl rfl⟩

/-- Removals from different spools leave at most one cell of each. -/
theorem Store.GivesUpHeads.trans (h : a.GivesUpHeads A b) (k : b.GivesUpHeads B c) (hd : Disjoint A B) :
    a.GivesUpHeads (A ∪ B) c where
  episode := k.episode.trans h.episode
  kept n hn := by
    obtain ⟨hA, hB⟩ := not_or.mp hn
    rw [k.kept n hB, h.kept n hA]
  given n := by
    by_cases hA : n ∈ A
    · rw [k.kept n (Set.disjoint_left.mp hd hA)]
      exact h.given n
    · rw [← h.kept n hA]
      exact k.given n

/-- A removal takes the head of one spool (R9). -/
theorem Store.removeHead_givesUpHeads {n : SpoolName} (hn : n ∈ A) (a : Store) :
    a.GivesUpHeads A (a.removeHead n).2 where
  episode := by
    rcases a.removeHead_cases n with ⟨-, h⟩ | ⟨e, -, h⟩ | ⟨e, rest, -, -, -, h⟩ | ⟨e, rest, -, -, -, h⟩ <;> simp [h]
  kept m hm := a.removeHead_other fun h => hm (h ▸ hn)
  given m := by
    by_cases hm : m = n
    · subst hm
      cases hc : (a.spool m).cells with
      | nil => exact .inl (by rw [Store.removeHead_of_empty hc])
      | cons e rest => exact .inr (by rw [(Store.removeHead_cells hc).2, hc]; rfl)
    · exact .inl (by rw [a.removeHead_other hm])

end GivesUpHeads

/-! ## What a run of choices keeps -/

/-- What the choices leave alone of the motor (R162, R167, R171). -/
structure Motor.ChoiceKeeps (p q : Motor) : Prop where
  callDemand : q.demand.call = p.demand.call
  printTiming : q.printTiming = p.printTiming
  punchTiming : q.punchTiming = p.punchTiming
  bell : q.bell = p.bell

/-- What the choices leave alone of the Line Sender (R57). -/
structure Ltx.ChoiceKeeps (p q : Ltx) : Prop where
  hold : q.hold = p.hold
  enquiry : q.enquiryRequest = p.enquiryRequest
  keying : p.activity ≠ .idle → q = p

/-- A run of choices from `s` to `t` that takes cells out of the spools of `heads` only. -/
structure State.TakesUp (heads : Set SpoolName) (s t : State) : Prop where
  frame : t = { s with store := t.store, printer := t.printer, punch := t.punch, motor := t.motor, ltx := t.ltx }
  printer : s.printer.ChoiceKeeps t.printer
  punch : s.punch.ChoiceKeeps t.punch
  motor : s.motor.ChoiceKeeps t.motor
  ltx : s.ltx.ChoiceKeeps t.ltx
  store : s.store.GivesUpHeads heads t.store

theorem Printer.ChoiceKeeps.refl (p : Printer) : p.ChoiceKeeps p :=
  ⟨rfl, rfl, rfl, rfl, rfl, rfl, rfl, rfl, rfl, rfl, fun _ => rfl⟩

theorem Printer.ChoiceKeeps.trans {p q r : Printer} (h : p.ChoiceKeeps q) (k : q.ChoiceKeeps r) : p.ChoiceKeeps r where
  fault := k.fault.trans h.fault
  paper := k.paper.trans h.paper
  hold := k.hold.trans h.hold
  paperOut := k.paperOut.trans h.paperOut
  paperLow := k.paperLow.trans h.paperLow
  restore := k.restore.trans h.restore
  column := k.column.trans h.column
  width := k.width.trans h.width
  mechCase := k.mechCase.trans h.mechCase
  resetPending := k.resetPending.trans h.resetPending
  cycle hc := (k.cycle (by rw [h.cycle hc, hc])).trans (h.cycle hc)

theorem Punch.ChoiceKeeps.refl (p : Punch) : p.ChoiceKeeps p :=
  ⟨rfl, rfl, rfl, rfl, rfl, rfl, rfl, fun _ => rfl⟩

theorem Punch.ChoiceKeeps.trans {p q r : Punch} (h : p.ChoiceKeeps q) (k : q.ChoiceKeeps r) : p.ChoiceKeeps r where
  fault := k.fault.trans h.fault
  switch := k.switch.trans h.switch
  tape := k.tape.trans h.tape
  tapeOut := k.tapeOut.trans h.tapeOut
  tapeLow := k.tapeLow.trans h.tapeLow
  restore := k.restore.trans h.restore
  feedHeld := k.feedHeld.trans h.feedHeld
  cycle hc := (k.cycle (by rw [h.cycle hc, hc])).trans (h.cycle hc)

theorem Motor.ChoiceKeeps.refl (m : Motor) : m.ChoiceKeeps m := ⟨rfl, rfl, rfl, rfl⟩

theorem Motor.ChoiceKeeps.trans {p q r : Motor} (h : p.ChoiceKeeps q) (k : q.ChoiceKeeps r) : p.ChoiceKeeps r where
  callDemand := k.callDemand.trans h.callDemand
  printTiming := k.printTiming.trans h.printTiming
  punchTiming := k.punchTiming.trans h.punchTiming
  bell := k.bell.trans h.bell

theorem Ltx.ChoiceKeeps.refl (l : Ltx) : l.ChoiceKeeps l := ⟨rfl, rfl, fun _ => rfl⟩

theorem Ltx.ChoiceKeeps.trans {p q r : Ltx} (h : p.ChoiceKeeps q) (k : q.ChoiceKeeps r) : p.ChoiceKeeps r where
  hold := k.hold.trans h.hold
  enquiry := k.enquiry.trans h.enquiry
  keying ha := (k.keying (by rw [h.keying ha]; exact ha)).trans (h.keying ha)

section TakesUp
variable {A B : Set SpoolName} {s t u : State}

theorem State.TakesUp.refl (A : Set SpoolName) (s : State) : s.TakesUp A s :=
  ⟨rfl, .refl _, .refl _, .refl _, .refl _, .refl _ _⟩

/-- Two runs compose when they take cells out of different spools. -/
theorem State.TakesUp.trans (h : s.TakesUp A t) (k : t.TakesUp B u) (hd : Disjoint A B) : s.TakesUp (A ∪ B) u where
  frame := k.frame.trans (by rw [h.frame])
  printer := h.printer.trans k.printer
  punch := h.punch.trans k.punch
  motor := h.motor.trans k.motor
  ltx := h.ltx.trans k.ltx
  store := h.store.trans k.store hd

/-- A run after a choice that takes no cell. -/
theorem State.TakesUp.after (h : s.TakesUp ∅ t) (k : t.TakesUp A u) : s.TakesUp A u := by
  simpa using h.trans k (by simp)

/-- A run before a choice that takes no cell. -/
theorem State.TakesUp.before (h : s.TakesUp A t) (k : t.TakesUp ∅ u) : s.TakesUp A u := by
  simpa using h.trans k (by simp)

/-- A choice of the printer. -/
theorem State.TakesUp.of_printer {p : Printer} {st : Store} (hp : s.printer.ChoiceKeeps p)
    (hst : s.store.GivesUpHeads A st) : s.TakesUp A { s with printer := p, store := st } :=
  ⟨rfl, hp, .refl _, .refl _, .refl _, hst⟩

/-- A choice of the punch. -/
theorem State.TakesUp.of_punch {q : Punch} {st : Store} (hq : s.punch.ChoiceKeeps q)
    (hst : s.store.GivesUpHeads A st) : s.TakesUp A { s with punch := q, store := st } :=
  ⟨rfl, .refl _, hq, .refl _, .refl _, hst⟩

/-- A choice of the Line Sender. -/
theorem State.TakesUp.of_ltx {l : Ltx} {st : Store} (hl : s.ltx.ChoiceKeeps l)
    (hst : s.store.GivesUpHeads A st) : s.TakesUp A { s with ltx := l, store := st } :=
  ⟨rfl, .refl _, .refl _, .refl _, hl, hst⟩

/-- What the motor takes of the demands. -/
theorem State.TakesUp.of_motor {m : Motor} (hm : s.motor.ChoiceKeeps m) : s.TakesUp A { s with motor := m } :=
  ⟨rfl, .refl _, .refl _, hm, .refl _, .refl _ _⟩

/-- A run of choices leaves alone what is not theirs. -/
theorem State.TakesUp.choicesKeep (h : s.TakesUp A t) : s.ChoicesKeep t where
  routes := by rw [h.frame]
  timing := by rw [h.frame]
  lrx := by rw [h.frame]
  call := by rw [h.frame]
  file := by rw [h.frame]
  keyboard := by rw [h.frame]
  link := by rw [h.frame]
  isl := by rw [h.frame]
  now := by rw [h.frame]
  freeIndex := by rw [h.frame]
  pending := by rw [h.frame]
  printer := h.printer
  punch := h.punch
  hold := h.ltx.hold
  enquiry := h.ltx.enquiry
  keying := h.ltx.keying
  callDemand := h.motor.callDemand
  printTiming := h.motor.printTiming
  punchTiming := h.motor.punchTiming
  bell := h.motor.bell
  episode := h.store.episode
  pLine := h.store.given .pLine
  pLocal := h.store.given .pLocal
  pSubmit := h.store.given .pSubmit
  punchSpool := h.store.given .punch
  send := h.store.given .send

end TakesUp

/-! ## The printer -/

/-- No print spool is PUNCH (R111). -/
@[simp] theorem PrintSpool.toSpool_ne_punch (n : PrintSpool) : n.toSpool ≠ .punch := by cases n <;> exact nofun

/-- The print spools (R111). -/
def printSpools : Set SpoolName := Set.range PrintSpool.toSpool

section Printer
variable {s : State}

/-- A printer without a cycle may start one (R112). -/
theorem Printer.ChoiceKeeps.of_no_cycle {p q : Printer} (hc : p.cycle = none)
    (h : q = { p with
      cycle := q.cycle, current := q.current, lineOpen := q.lineOpen, pointer := q.pointer
      interruptedLine := q.interruptedLine, interruptedLocal := q.interruptedLocal
      interruptedSubmit := q.interruptedSubmit, committed := q.committed, newlineOwed := q.newlineOwed
      holdWait := q.holdWait }) : p.ChoiceKeeps q := by
  rw [h]
  exact ⟨rfl, rfl, rfl, rfl, rfl, rfl, rfl, rfl, rfl, rfl, by simp [hc]⟩

theorem Printer.grant_choiceKeeps (p : Printer) (n : PrintSpool) : p.ChoiceKeeps (p.grant n) := by
  by_cases h : p.current = some n
  · rw [Printer.grant_of_current h]
    exact .refl p
  · rw [Printer.grant_of_other h]
    exact ⟨rfl, rfl, rfl, rfl, rfl, rfl, rfl, rfl, rfl, rfl, fun _ => rfl⟩

theorem Printer.cutIn_choiceKeeps (p : Printer) : p.ChoiceKeeps p.cutIn := by
  rw [p.cutIn_spec.1]
  exact ⟨rfl, rfl, rfl, rfl, rfl, rfl, rfl, rfl, rfl, rfl, fun _ => rfl⟩

theorem State.printCell_takesUp (hc : s.printer.cycle = none) (n : PrintSpool) (c : Cell) :
    s.TakesUp printSpools (s.printCell n c) := by
  rw [State.printCell_eq]
  refine .of_printer (.of_no_cycle hc rfl) ?_
  split
  · exact Store.removeHead_givesUpHeads (Set.mem_range_self n) s.store
  · exact .refl _ _

theorem State.printFrom_takesUp (hc : s.printer.cycle = none) (n : PrintSpool) :
    s.TakesUp printSpools (s.printFrom n) := by
  cases hhead : s.printHead n with
  | none =>
    rw [State.printFrom_of_empty hhead]
    exact .refl _ s
  | some c =>
    rw [State.printFrom_of_head hhead]
    exact State.printCell_takesUp hc n c

theorem State.newlineItem_takesUp (hc : s.printer.cycle = none) : s.TakesUp printSpools s.newlineItem := by
  unfold State.newlineItem
  split <;> exact .of_printer (.of_no_cycle hc rfl) (.refl _ _)

theorem State.grantItem_takesUp (hc : s.printer.cycle = none) : s.TakesUp printSpools s.grantItem := by
  unfold State.grantItem
  split
  · next n _ =>
    have hgranted : ({ s with printer := s.printer.grant n } : State).printer.cycle = none := by
      by_cases h : s.printer.current = some n
      · simp [Printer.grant_of_current h, hc]
      · simp [Printer.grant_of_other h, hc]
    exact (State.TakesUp.of_printer (s.printer.grant_choiceKeeps n) (.refl _ _)).after
      (State.printFrom_takesUp hgranted n)
  · exact .refl _ s

/-- The printer chooses in IDLE, with no cycle in flight (R112). -/
theorem State.printChoice_takesUp (s : State) : s.TakesUp printSpools s.printChoice := by
  rcases s.printChoice_cases with h | ⟨hchooses, h, -⟩ <;> rw [h]
  · exact .refl _ s
  · have hc := Printer.cycle_of_idle (State.printerChooses_iff.mp hchooses).1
    rcases s.printChoiceItem_cases with h | ⟨n, h⟩ | h | h | h <;> rw [h]
    · exact .refl _ s
    · exact State.printFrom_takesUp hc n
    · exact State.newlineItem_takesUp hc
    · exact State.grantItem_takesUp hc
    · exact .of_printer (.of_no_cycle hc rfl) (.refl _ _)

theorem State.reviewHoldWait_takesUp (s : State) : s.TakesUp ∅ s.reviewHoldWait := by
  unfold State.reviewHoldWait
  split_ifs
  · exact .refl _ s
  · exact .of_printer ⟨rfl, rfl, rfl, rfl, rfl, rfl, rfl, rfl, rfl, rfl, fun _ => rfl⟩ (.refl _ _)
  · exact .of_printer s.printer.cutIn_choiceKeeps (.refl _ _)
  · exact .refl _ s

end Printer

/-! ## The punch -/

/-- A punch without a cycle may start one (R138). -/
theorem Punch.ChoiceKeeps.of_no_cycle {p q : Punch} (hc : p.cycle = none)
    (h : q = { p with
      cycle := q.cycle, owner := q.owner, tapeCase := q.tapeCase, committed := q.committed, leader := q.leader
      lineRelease := q.lineRelease, localRelease := q.localRelease, submittedRelease := q.submittedRelease
      clearRelease := q.clearRelease, releaseTimer := q.releaseTimer, feedRequest := q.feedRequest }) :
    p.ChoiceKeeps q := by
  rw [h]
  exact ⟨rfl, rfl, rfl, rfl, rfl, rfl, rfl, by simp [hc]⟩

/-- An ON-IDLE punch has no cycle in flight (R133). -/
theorem Punch.cycle_of_onIdle {p : Punch} (h : p.status = .onIdle) : p.cycle = none := by
  unfold Punch.status at h
  split_ifs at h with _ hcycle
  simpa using hcycle

section Punch
variable {s : State}

theorem State.punchCell_takesUp (hc : s.punch.cycle = none) (e : Entry) : s.TakesUp {.punch} (s.punchCell e) := by
  unfold State.punchCell
  split
  · exact .of_punch (.of_no_cycle hc rfl) (.refl _ _)
  · exact .of_punch (.of_no_cycle hc rfl) (Store.removeHead_givesUpHeads (Set.mem_singleton _) s.store)

theorem State.punchChoiceItem_takesUp (hc : s.punch.cycle = none) : s.TakesUp {.punch} s.punchChoiceItem := by
  unfold State.punchChoiceItem
  split
  · exact State.punchCell_takesUp hc _
  split
  · exact .of_punch (.of_no_cycle hc rfl) (.refl _ _)
  split
  · exact .of_punch (.of_no_cycle hc rfl) (.refl _ _)
  split
  · exact State.punchCell_takesUp hc _
  split
  · exact .of_punch (.of_no_cycle hc rfl) (.refl _ _)
  split
  · exact .of_punch (.of_no_cycle hc rfl) (.refl _ _)
  · exact .refl _ s

end Punch

/-- The punch chooses in ON-IDLE, with no cycle in flight (R138). -/
theorem State.punchChoice_takesUp (s : State) : s.TakesUp {.punch} s.punchChoice := by
  rcases s.punchChoice_cases with h | ⟨hidle, -, -, h⟩ <;> rw [h]
  · exact .refl _ s
  · exact State.punchChoiceItem_takesUp (Punch.cycle_of_onIdle hidle)

/-- A release or the start of a trailer leaves the settings of the punch, its feed held and its cycle (R136, R137). -/
theorem State.testReleases_takesUp (s : State) : s.TakesUp ∅ s.testReleases := by
  have htrailer : s.TakesUp ∅ s.startTrailer := by
    unfold State.startTrailer
    split
    · exact .of_punch ⟨rfl, rfl, rfl, rfl, rfl, rfl, rfl, fun _ => rfl⟩ (.refl _ _)
    · exact .refl _ s
  unfold State.testReleases
  dsimp only
  split
  · exact htrailer.after (.of_punch ⟨rfl, rfl, rfl, rfl, rfl, rfl, rfl, fun _ => rfl⟩ (.refl _ _))
  · exact htrailer

theorem State.runReleaseTimer_takesUp (s : State) : s.TakesUp ∅ s.runReleaseTimer := by
  unfold State.runReleaseTimer
  split
  · split
    · exact .refl _ s
    · exact .of_punch ⟨rfl, rfl, rfl, rfl, rfl, rfl, rfl, fun _ => rfl⟩ (.refl _ _)
  · exact .of_punch ⟨rfl, rfl, rfl, rfl, rfl, rfl, rfl, fun _ => rfl⟩ (.refl _ _)

/-! ## The motor and the Line Sender -/

/-- A demand set with CALL as it stands (R162). -/
theorem State.setDemand_takesUp {s : State} {d : Demand} (hd : d.call = s.motor.demand.call) :
    s.TakesUp ∅ (s.setDemand d) := .of_motor ⟨hd, rfl, rfl, rfl⟩

theorem State.placeDemands_takesUp (s : State) : s.TakesUp ∅ s.placeDemands := State.setDemand_takesUp rfl

theorem State.lapseDemands_takesUp (s : State) : s.TakesUp ∅ s.lapseDemands := State.setDemand_takesUp rfl

theorem State.reviewWithdrawn_takesUp (s : State) : s.TakesUp ∅ s.reviewWithdrawn := by
  unfold State.reviewWithdrawn State.tellPrinter
  split_ifs
  · exact .refl _ s
  · exact .of_motor ⟨rfl, rfl, rfl, rfl⟩
  · exact .refl _ s

/-- The Line Sender's item at rest keeps the hold and the enquiry request (R57). -/
theorem State.sendItem_takesUp {s : State} (ha : s.ltx.activity = .idle) : s.TakesUp {.send} s.sendItem := by
  have hkeyed : ∀ l : Ltx, l.hold = s.ltx.hold → l.enquiryRequest = s.ltx.enquiryRequest → s.ltx.ChoiceKeeps l :=
    fun l hhold henquiry => ⟨hhold, henquiry, fun hbusy => absurd ha hbusy⟩
  have hsend : s.TakesUp {.send} s.keySend := by
    unfold State.keySend
    split
    · split
      · exact .of_ltx (hkeyed _ rfl rfl) (.refl _ _)
      · exact .of_ltx (hkeyed _ rfl rfl) (Store.removeHead_givesUpHeads (Set.mem_singleton _) s.store)
    · exact .refl _ s
  unfold State.sendItem
  split
  · exact .of_ltx (hkeyed _ rfl rfl) (.refl _ _)
  split
  · exact .refl _ s
  split
  · unfold State.keyAnswerback
    split
    · split <;> exact .of_ltx (hkeyed _ rfl rfl) (.refl _ _)
    · exact .of_ltx (hkeyed _ rfl rfl) (.refl _ _)
  split
  · unfold State.keyEnquiry
    split <;> exact .of_ltx (hkeyed _ rfl rfl) (.refl _ _)
  split
  · exact .refl _ s
  · exact hsend

theorem State.sendChoice_takesUp (s : State) : s.TakesUp {.send} s.sendChoice := by
  unfold State.sendChoice
  split
  · next h => exact State.sendItem_takesUp h.2
  · exact .refl _ s

/-! ## The obligation -/

/-- The state when the mechanisms have chosen, before they remove the members that are not due (log 7). -/
def State.chosen (s : State) : State :=
  s.testReleases.reviewHoldWait.reviewWithdrawn.placeDemands.printChoice.punchChoice

theorem State.carryOn_eq (s : State) : s.carryOn = s.chosen.lapseDemands.runReleaseTimer.sendChoice := rfl

/-- The printer takes cells out of the print spools, the punch out of PUNCH. -/
theorem State.chosen_takesUp (s : State) : s.TakesUp (printSpools ∪ {.punch}) s.chosen := by
  have hplaced : s.TakesUp ∅ s.testReleases.reviewHoldWait.reviewWithdrawn.placeDemands :=
    ((s.testReleases_takesUp.before (State.reviewHoldWait_takesUp _)).before (State.reviewWithdrawn_takesUp _)).before
      (State.placeDemands_takesUp _)
  exact (hplaced.after (State.printChoice_takesUp _)).trans (State.punchChoice_takesUp _) (by simp [printSpools])

/-- The Line Sender takes cells out of SEND, where the mechanisms take none. -/
theorem State.carryOn_takesUp (s : State) : s.TakesUp (printSpools ∪ {.punch} ∪ {.send}) s.carryOn :=
  ((s.chosen_takesUp.before (State.lapseDemands_takesUp _)).before (State.runReleaseTimer_takesUp _)).trans
    (State.sendChoice_takesUp _) (by simp [printSpools])

/-- Settles O51: the frame of a run of choices. -/
theorem choicesKeepWhatIsNotTheirs : Obligations.ChoicesKeepWhatIsNotTheirs :=
  fun s => s.carryOn_takesUp.choicesKeep

end Sys2Proof.Machine
end

section
/-! The demand set and the motor (R162, R163, R165), and the members that the mechanisms place and remove by their work
(R131, R146, R166). -/

namespace Sys2Proof.Machine

/-! ## The motor by the demand set -/

/-- The motor after the demand set becomes `d` (R163). -/
def State.motorAfter (s : State) (d : Demand) : MotorState :=
  if s.motor.demand.isEmpty && !d.isEmpty then s.motorOnDemand
  else if !s.motor.demand.isEmpty && d.isEmpty then s.motorOnNoDemand
  else s.motor.state

theorem State.setDemand_eq (s : State) (d : Demand) : s.setDemand d = { s with motor := { s.motor with
    demand := d, state := s.motorAfter d, printWithdrawn := s.motor.withdrawnAfter d (s.motorAfter d) } } := rfl

section MotorAfter
variable {s : State} {d : Demand}

/-- The set becomes non-empty (R163). -/
theorem State.motorAfter_of_placed (h : s.motor.demand.isEmpty = true) (hd : d.isEmpty = false) :
    s.motorAfter d = s.motorOnDemand := by
  simp [State.motorAfter, h, hd]

/-- The set becomes empty (R163). -/
theorem State.motorAfter_of_removed (h : s.motor.demand.isEmpty = false) (hd : d.isEmpty = true) :
    s.motorAfter d = s.motorOnNoDemand := by
  simp [State.motorAfter, h, hd]

/-- The set stays empty, or non-empty (R163). -/
theorem State.motorAfter_of_same (h : s.motor.demand.isEmpty = d.isEmpty) : s.motorAfter d = s.motor.state := by
  cases hd : d.isEmpty <;> simp [State.motorAfter, h, hd]

end MotorAfter

section Withdrawn
variable {r : Motor} {d : Demand} {m : MotorState}

/-- In a run-up PRINT stands withdrawn when it has been in the set and is not (R165). -/
theorem Motor.withdrawnAfter_of_runUp {due : Nat} (h : m = .runUp due) : r.withdrawnAfter d m = true ↔
    (r.printWithdrawn = true ∨ r.demand.print = true) ∧ d.print = false := by
  simp [Motor.withdrawnAfter, h]

/-- In RUNNING it stays withdrawn until it is placed (R165). -/
theorem Motor.withdrawnAfter_of_running (h : m = .running) :
    r.withdrawnAfter d m = true ↔ r.printWithdrawn = true ∧ d.print = false := by
  simp [Motor.withdrawnAfter, h]

theorem Motor.withdrawnAfter_of_stopped (h : m ≠ .running) (hup : ∀ due, m ≠ .runUp due) :
    r.withdrawnAfter d m = false := by
  cases m <;> simp_all [Motor.withdrawnAfter]

end Withdrawn

/-! ## The work of the mechanisms -/

section Work
variable {s : State}

/-- What the printer has PRINT for (R131). -/
theorem State.printDemand_iff : s.printDemand = true ↔ s.printer.cycle ≠ none ∨ (s.printer.status = .idle ∧
    (s.store.pLine.cells ≠ [] ∨ s.store.pLocal.cells ≠ [] ∨ s.store.pSubmit.cells ≠ [])) := by
  simp [State.printDemand, State.printerState, State.printWork, State.printSpoolEmpty, PrintSpool.toSpool, Store.spool,
    Spool.isEmpty, Option.isSome_iff_ne_none, or_assoc]

theorem LineRelease.trailerLeft_pos_iff {l : LineRelease} : 0 < l.trailerLeft ↔ ∃ n, l = .trailer (n + 1) := by
  cases l with
  | trailer n => cases n <;> simp [LineRelease.trailerLeft]
  | none | marked | due => simp [LineRelease.trailerLeft]

/-- What the punch has PUNCH for (R146). -/
theorem State.punchDemand_iff : s.punchDemand = true ↔ (s.punch.status = .onIdle ∨ s.punch.status = .cycle) ∧
    (s.punch.cycle ≠ none ∨ s.store.punch.cells ≠ [] ∨ 0 < s.punch.leader ∨ s.punch.feedRequest ≠ none ∨
      s.punch.feedHeld = true ∨ ∃ n, s.punch.lineRelease = .trailer (n + 1)) := by
  simp [State.punchDemand, State.punchTakes_iff, LineRelease.trailerLeft_pos_iff, Spool.isEmpty,
    Option.isSome_iff_ne_none, or_assoc]

/-- The work of the printer is in its own fields and the print spools. -/
theorem State.printDemand_congr {t : State} (hprinter : t.printer = s.printer)
    (hspools : ∀ n : PrintSpool, t.store.spool n.toSpool = s.store.spool n.toSpool) :
    t.printDemand = s.printDemand := by
  simp only [State.printDemand, State.printerState, State.printWork, State.printSpoolEmpty, hprinter, hspools]

/-- The work of the punch is in its own fields and PUNCH. -/
theorem State.punchDemand_congr {t : State} (hpunch : t.punch = s.punch) (hspool : t.store.punch = s.store.punch) :
    t.punchDemand = s.punchDemand := by
  simp only [State.punchDemand, State.punchTakes, State.punchState, hpunch, hspool]

/-- The release timer is no work (R137). -/
theorem State.runReleaseTimer_punchDemand (s : State) : s.runReleaseTimer.punchDemand = s.punchDemand := by
  unfold State.runReleaseTimer
  split
  · split <;> rfl
  · rfl

theorem State.ready_iff : s.ready = true ↔ s.isl.loader = .ready := by
  simp [State.ready]

/-- PRINT is due while its work stands; while LOADING it is not placed (R131, R166). -/
theorem State.dueDemand_print_iff : s.dueDemand.print = true ↔
    (s.isl.loader = .ready ∨ s.motor.demand.print = true) ∧ s.printDemand = true := by
  simp [State.dueDemand, State.ready_iff, and_comm]

theorem State.dueDemand_punch_iff : s.dueDemand.punch = true ↔
    (s.isl.loader = .ready ∨ s.motor.demand.punch = true) ∧ s.punchDemand = true := by
  simp [State.dueDemand, State.ready_iff, and_comm]

end Work

/-! ## The demand set that the choices leave -/

section Motor
variable (s : State)

@[simp] theorem State.printFrom_motor (n : PrintSpool) : (s.printFrom n).motor = s.motor := by
  cases hhead : s.printHead n with
  | none => rw [State.printFrom_of_empty hhead]
  | some c => rw [State.printFrom_of_head hhead, State.printCell_eq]

@[simp] theorem State.newlineItem_motor : s.newlineItem.motor = s.motor := by
  unfold State.newlineItem
  split <;> rfl

@[simp] theorem State.grantItem_motor : s.grantItem.motor = s.motor := by
  unfold State.grantItem
  split <;> simp

/-- The printer's choice leaves the motor and its demands (R112). -/
@[simp] theorem State.printChoice_motor : s.printChoice.motor = s.motor := by
  rcases s.printChoice_cases with h | ⟨-, h, -⟩ <;> rw [h]
  rcases s.printChoiceItem_cases with h | ⟨n, h⟩ | h | h | h <;> rw [h]
  · exact s.printFrom_motor n
  · exact s.newlineItem_motor
  · exact s.grantItem_motor
  · rfl

/-- The punch's choice leaves the motor and its demands (R138). -/
@[simp] theorem State.punchChoice_motor : s.punchChoice.motor = s.motor := by
  have hcell : ∀ e, (s.punchCell e).motor = s.motor := by
    intro e
    unfold State.punchCell
    split <;> rfl
  rcases s.punchChoice_cases with h | ⟨-, -, -, h⟩ <;> rw [h]
  unfold State.punchChoiceItem
  split
  · exact hcell _
  split
  · rfl
  split
  · rfl
  split
  · exact hcell _
  split
  · rfl
  split <;> rfl

/-- The Line Sender's choice takes nothing from the mechanisms (R57). -/
theorem State.sendChoice_eq : ∃ l st, s.sendChoice = { s with ltx := l, store := st } ∧
    ∀ n, n ≠ .send → st.spool n = s.store.spool n := by
  have hkept := s.sendChoice_takesUp.store.kept
  obtain ⟨l, st, heq⟩ : ∃ l st, s.sendChoice = { s with ltx := l, store := st } := by
    unfold State.sendChoice
    split
    · exact s.sendItem_eq
    · exact ⟨_, _, rfl⟩
  rw [heq] at hkept
  exact ⟨l, st, heq, fun n hn => hkept n hn⟩

/-- The demand set after the choices is the one that is due when the mechanisms have chosen. -/
theorem State.carryOn_demand : s.carryOn.motor.demand = s.chosen.dueDemand := by
  obtain ⟨l, st, heq, -⟩ := s.chosen.lapseDemands.runReleaseTimer.sendChoice_eq
  rw [State.carryOn_eq, heq]
  simp

theorem State.carryOn_printDemand : s.carryOn.printDemand = s.chosen.printDemand := by
  obtain ⟨l, st, heq, hkept⟩ := s.chosen.lapseDemands.runReleaseTimer.sendChoice_eq
  rw [State.carryOn_eq, heq]
  exact State.printDemand_congr (by simp) fun n => by simp [hkept _ n.toSpool_ne_send]

theorem State.carryOn_punchDemand : s.carryOn.punchDemand = s.chosen.punchDemand := by
  obtain ⟨l, st, heq, hkept⟩ := s.chosen.lapseDemands.runReleaseTimer.sendChoice_eq
  rw [State.carryOn_eq, heq]
  calc State.punchDemand { s.chosen.lapseDemands.runReleaseTimer with ltx := l, store := st }
      = s.chosen.lapseDemands.runReleaseTimer.punchDemand := State.punchDemand_congr rfl (hkept .punch nofun)
    _ = s.chosen.lapseDemands.punchDemand := State.runReleaseTimer_punchDemand _
    _ = s.chosen.punchDemand := rfl

@[simp] theorem State.testReleases_motor : s.testReleases.motor = s.motor := by
  unfold State.testReleases
  dsimp only
  split <;> simp

@[simp] theorem State.testReleases_isl : s.testReleases.isl = s.isl := by
  unfold State.testReleases
  dsimp only
  split <;> simp

/-- While LOADING the choices place no member (R166, log 44). -/
theorem State.chosen_demand_of_loading (h : s.isl.loader ≠ .ready) : s.chosen.motor.demand = s.motor.demand := by
  have hloading : s.testReleases.reviewHoldWait.reviewWithdrawn.ready = false := by
    rw [← Bool.not_eq_true, State.ready_iff]
    simpa using h
  simp only [State.chosen, State.punchChoice_motor, State.printChoice_motor,
    State.placeDemands_demand_of_loading hloading, State.reviewWithdrawn_demand, State.reviewHoldWait_motor,
    State.testReleases_motor]

/-- A mechanism's member stands after the choices exactly with its work, and while LOADING only if it stood before them
(R131, R146, R166). -/
theorem State.carryOn_demand_print_iff : s.carryOn.motor.demand.print = true ↔
    (s.isl.loader = .ready ∨ s.motor.demand.print = true) ∧ s.carryOn.printDemand = true := by
  rw [State.carryOn_demand, State.dueDemand_print_iff, State.carryOn_printDemand, s.chosen_takesUp.choicesKeep.isl]
  exact and_congr_left' (or_congr_right' fun h => by rw [s.chosen_demand_of_loading h])

theorem State.carryOn_demand_punch_iff : s.carryOn.motor.demand.punch = true ↔
    (s.isl.loader = .ready ∨ s.motor.demand.punch = true) ∧ s.carryOn.punchDemand = true := by
  rw [State.carryOn_demand, State.dueDemand_punch_iff, State.carryOn_punchDemand, s.chosen_takesUp.choicesKeep.isl]
  exact and_congr_left' (or_congr_right' fun h => by rw [s.chosen_demand_of_loading h])

end Motor

/-! ## The obligation -/

/-- Settles O50: the motor takes the event that the set becomes non-empty or empty, and the members due are read from the
work as it stands when the mechanisms have chosen. -/
theorem demandsFollowTheWorkAndMoveTheMotor : Obligations.DemandsFollowTheWorkAndMoveTheMotor := by
  refine ⟨fun s d => ⟨_, _, s.setDemand_eq d, ?runUp, Motor.withdrawnAfter_of_running,
      Motor.withdrawnAfter_of_stopped, ?placed, ?removed, State.motorAfter_of_same⟩,
    ?stands, fun s => ⟨fun _ => rfl, rfl, s.dueDemand.print, s.dueDemand.punch, rfl, rfl, ?_, ?_⟩⟩
  case runUp => exact fun ⟨due, hup⟩ => Motor.withdrawnAfter_of_runUp hup
  case placed =>
    intro hempty hd
    rw [State.motorAfter_of_placed hempty hd]
    refine ⟨fun hoff => ?_, fun due hon => ?_, fun due hup => ?_⟩
    · rw [State.motorOnDemand, hoff]
      rfl
    · rw [State.motorOnDemand, hon]
    · rw [State.motorOnDemand, hup]
  case removed =>
    intro hempty hd
    rw [State.motorAfter_of_removed hempty hd]
    refine ⟨fun hrunning => ?_, fun due hup => ?_⟩
    · rw [State.motorOnNoDemand, hrunning]
      rfl
    · rw [State.motorOnNoDemand, hup]
  case stands =>
    rintro s t rfl
    rw [State.carryOn_demand_print_iff, State.carryOn_demand_punch_iff, State.printDemand_iff, State.punchDemand_iff]
    exact ⟨.rfl, .rfl⟩
  · rw [State.dueDemand_print_iff, State.printDemand_iff]
  · rw [State.dueDemand_punch_iff, State.punchDemand_iff]

end Sys2Proof.Machine
end

section
/-! The rows of the cycle phases and of the settles (R118, R139, R167 to R169). -/

namespace Sys2Proof.Machine

/-! ## The phases of a cycle -/

section Phases
variable {s : State} {due : Nat}

/-- The strike begins with a bell pulse for a BELL (R118, R120, R171). -/
theorem State.beginStrike_eq (s : State) (c : PrintCycle) : s.beginStrike c = { s with
    printer := { s.printer with cycle := some { c with phase := .strike (s.now + c.strikePulse * Config.ms) } }
    motor := { s.motor with bell := if c.reading = .bell then some (s.now + Config.bell) else s.motor.bell } } := by
  unfold State.beginStrike
  dsimp only
  split_ifs <;> rfl

theorem selectEnd_of_due {c : PrintCycle} (hc : s.printer.cycle = some c) (hphase : c.phase = .select due) :
    selectEnd s = (s.advance due).beginStrike c := by
  simp only [selectEnd, hc, hphase]

theorem strikeEnd_of_due {c : PrintCycle} (hc : s.printer.cycle = some c) (hphase : c.phase = .strike due) :
    strikeEnd s = ((s.advance due).printPhase c .settle).beginSettle .printer c.mode c.programmed c.extra := by
  simp only [strikeEnd, hc, hphase]

theorem punchPulseEnd_of_due {c : PunchCycle} (hc : s.punch.cycle = some c) (hphase : c.phase = .punch due) :
    punchPulseEnd s = (s.advance due).punchPhase c (.feed ((s.advance due).now + c.feedPulse * Config.ms)) := by
  simp only [punchPulseEnd, hc, hphase]

theorem feedPulseEnd_of_due {c : PunchCycle} (hc : s.punch.cycle = some c) (hphase : c.phase = .feed due) :
    feedPulseEnd s = ((s.advance due).punchPhase c .settle).beginSettle .punch c.mode c.programmed c.extra := by
  simp only [feedPulseEnd, hc, hphase]

end Phases

/-! ## The end of a settle -/

section Settles
variable {s : State} {m : Mechanism}

/-- R168: FIXED mode. -/
theorem settleFixedEnd_of_settling (hphase : (s.settle m).phase = .settling) (hmode : (s.settle m).mode = .fixed) :
    settleFixedEnd m s = s.endSettle m (s.settle m).programmed false := if_pos ⟨hphase, hmode⟩

/-- R168: SAMPLED mode, at the programmed time. -/
theorem settleSampledReading_of_settling (hphase : (s.settle m).phase = .settling)
    (hmode : (s.settle m).mode = .sampled) (busy : Bool) : settleSampledReading m busy s =
      if busy ∧ (s.settle m).extra ≠ 0 then s.settleAt m (s.settle m).programmed .adding
      else s.endSettle m (s.settle m).programmed false := if_pos ⟨hphase, hmode⟩

/-- R168: SAMPLED mode, after the extra. -/
theorem settleAddEnd_of_adding (hphase : (s.settle m).phase = .adding) : settleAddEnd m s =
    s.endSettle m ((s.settle m).programmed + (s.settle m).extra) false := if_pos hphase

/-- R169: the readings of EXTENDED mode are at the programmed time and at each millisecond after it. -/
theorem Settle.nextReading_of_extended {r : Settle} (hmode : r.mode = .extended) {at0 : Nat}
    (h : (r.phase = .settling ∧ at0 = r.programmed) ∨ (r.phase = .extending ∧ at0 = r.reached + 1)) :
    r.nextReading = some at0 := by
  rcases h with ⟨hphase, rfl⟩ | ⟨hphase, rfl⟩ <;> simp only [Settle.nextReading, hmode, hphase]

/-- R169: a reading ends the settle, reports a fault at the limit, or goes on. -/
theorem extendedReading_of_next {at0 : Nat} (h : (s.settle m).nextReading = some at0) (busy : Bool) :
    extendedReading m busy s =
      if !busy then s.endSettle m at0 false
      else if (s.settle m).programmed + 1000 ≤ at0 then s.endSettle m at0 true
      else s.settleAt m at0 .extending := by
  unfold extendedReading
  dsimp only
  rw [h]
  rfl

end Settles

/-! ## The obligation -/

/-- Settles O52: each row is the equation of its phase, and a settle ends by its mode. -/
theorem cycleAndSettleRowsComplete : Obligations.CycleAndSettleRowsComplete := by
  refine ⟨fun due s u hu => ⟨fun c hc => ⟨fun hphase => ?select, fun hphase => ?strike⟩,
      fun c hc => ⟨fun hphase => ?punch, fun hphase => ?feed⟩⟩,
    fun m s r hr => ⟨fun hphase hmode => ?fixed, fun hphase hmode busy => ?sampled, fun hphase => ?adding,
      fun hmode at0 hat => ?extended, fun at0 phase => ?settled⟩,
    fun r now => ⟨fun hbusy => if_neg hbusy, fun hidle => if_pos hidle⟩⟩
  case select =>
    change Host.Outcome.next (selectEnd s) = _
    rw [selectEnd_of_due hc hphase, State.beginStrike_eq, hu]
    rfl
  case strike =>
    change Host.Outcome.next (strikeEnd s) = _
    rw [strikeEnd_of_due hc hphase, hu]
    rfl
  case punch =>
    change Host.Outcome.next (punchPulseEnd s) = _
    rw [punchPulseEnd_of_due hc hphase, hu]
    rfl
  case feed =>
    change Host.Outcome.next (feedPulseEnd s) = _
    rw [feedPulseEnd_of_due hc hphase, hu]
    rfl
  all_goals subst hr
  case fixed => exact congrArg Host.Outcome.next (settleFixedEnd_of_settling hphase hmode)
  case sampled =>
    change (_ → _ → Host.Outcome.next (settleSampledReading m busy s) = _) ∧
      (_ → Host.Outcome.next (settleSampledReading m busy s) = _)
    rw [settleSampledReading_of_settling hphase hmode]
    refine ⟨fun hbusy hextra => by rw [if_pos ⟨hbusy, hextra⟩], fun hfree => ?_⟩
    rw [if_neg fun ⟨hbusy, hextra⟩ => hfree.elim (by simp [hbusy]) hextra]
    rfl
  case adding => exact congrArg Host.Outcome.next (settleAddEnd_of_adding hphase)
  case extended =>
    have hrow : ∀ busy, exec (.extendedReading m busy) s = .next _ := fun busy =>
      congrArg Host.Outcome.next (extendedReading_of_next (Settle.nextReading_of_extended hmode hat) busy)
    refine ⟨hrow false, fun hmore => ?_, fun hlimit => ?_⟩
    · rw [hrow, if_neg (by simp), if_neg (Nat.not_le.mpr hmore)]
    · rw [hrow, if_neg (by simp), if_pos hlimit]
      rfl
  case settled =>
    refine ⟨fun hm => ?_, fun hm => ?_⟩
    · subst hm
      rfl
    · subst hm
      rfl

end Sys2Proof.Machine
end

section
/-! The notices of the mechanisms (R125, R127, R142) and the ends of their cycles (R120 to R123, R130, R139 to R143,
R170). -/

namespace Sys2Proof.Machine

/-! ## Notices -/

section Notices
variable {s : State}

/-- PAPER OUT is noticed at an entry to NO PAPER, once the filter holds a level (R124, R125). -/
theorem State.noticeNoPaper_of_entry {before : PrinterState} (hbefore : before ≠ .noPaper)
    (hentered : s.printer.status = .noPaper) (hlevel : s.printer.paperOut.level ≠ none) :
    s.noticeNoPaper before = s.printerNotice .paperOut :=
  if_pos ⟨hbefore, hentered, Option.isSome_iff_ne_none.mpr hlevel⟩

theorem State.noticeNoPaper_of_no_entry {before : PrinterState}
    (h : before = .noPaper ∨ s.printer.status ≠ .noPaper ∨ s.printer.paperOut.level = none) :
    s.noticeNoPaper before = s := by
  refine if_neg fun ⟨hbefore, hentered, hlevel⟩ => ?_
  rcases h with h | h | h
  · exact hbefore h
  · exact h hentered
  · simp [h] at hlevel

/-- TAPE OUT is noticed at an entry to TAPE OUT, once the filter holds a level (R142). -/
theorem State.noticeTapeOut_of_entry {before : PunchState} (hbefore : before ≠ .tapeOut)
    (hentered : s.punch.status = .tapeOut) (hlevel : s.punch.tapeOut.level ≠ none) :
    s.noticeTapeOut before = s.punchNotice .tapeOut :=
  if_pos ⟨hbefore, hentered, Option.isSome_iff_ne_none.mpr hlevel⟩

theorem State.noticeTapeOut_of_no_entry {before : PunchState}
    (h : before = .tapeOut ∨ s.punch.status ≠ .tapeOut ∨ s.punch.tapeOut.level = none) :
    s.noticeTapeOut before = s := by
  refine if_neg fun ⟨hbefore, hentered, hlevel⟩ => ?_
  rcases h with h | h | h
  · exact hbefore h
  · exact h hentered
  · simp [h] at hlevel

/-- A notice shows the level that a filter holds (R127, R142). -/
theorem Filter.reported_of_level {f : Filter} {l : Bool} (h : f.level = some l) (index : Nat) :
    f.reported index = l := by
  rw [Filter.reported, h]
  rfl

end Notices

/-! ## The end of a print cycle -/

section Print
variable {s : State} {p : Printer} {r : CodeClass}

/-- R121: a code that moves the carriage stops at the last position. -/
theorem Printer.columnAfter_of_advance (h : r = .printing ∨ r = .space) :
    p.columnAfter r = p.column.map fun k => if k + 1 < p.width then k + 1 else k := by
  rcases h with rfl | rfl <;> rfl

theorem Printer.columnAfter_of_still (hcr : r ≠ .carriageReturn) (hprinting : r ≠ .printing) (hspace : r ≠ .space) :
    p.columnAfter r = p.column := by
  cases r with
  | carriageReturn => exact absurd rfl hcr
  | printing => exact absurd rfl hprinting
  | space => exact absurd rfl hspace
  | _ => rfl

/-- R123: a shift sets the mechanism case. -/
theorem Printer.mechCaseAfter_eq (p : Printer) (r : CodeClass) : p.mechCaseAfter r =
    if r = .lettersShift then .letters else if r = .figuresShift then .figures else p.mechCase := by
  cases r <;> rfl

/-- R117, R120: an owed cycle pays its part of the newline. -/
theorem NewlineOwed.after_eq (o : NewlineOwed) (k : PrintCycleKind) : o.after k =
    if k = .owedCr then .lfOnly else if k = .owedLf then .none else o := by
  cases k <;> rfl

/-- The printer at the end of a cycle, with what its code did and the fault of its report (R117, R120, R121, R128). -/
def Printer.afterCycle (p : Printer) (c : PrintCycle) (fault : Bool) (lineWidth : Nat) : Printer :=
  { p with
    fault := p.fault || fault
    cycle := none
    column := p.columnAfter c.reading
    width := if c.reading = .carriageReturn then lineWidth else p.width
    mechCase := p.mechCaseAfter c.reading
    lineOpen := if c.kind = .own then c.reading != .lineFeed else p.lineOpen
    newlineOwed := p.newlineOwed.after c.kind }

/-- The state at the end of a cycle, with the FAULT notice of a fault report (R120, R128). -/
def State.printCycleEnded (s : State) (c : PrintCycle) (fault : Bool) : State :=
  if fault then State.printerNotice { s with printer := s.printer.afterCycle c fault (s.opt .lineWidth) } .fault
  else { s with printer := s.printer.afterCycle c fault (s.opt .lineWidth) }

@[simp] theorem State.printCycleEnded_printer (s : State) (c : PrintCycle) (fault : Bool) :
    (s.printCycleEnded c fault).printer = s.printer.afterCycle c fault (s.opt .lineWidth) := by
  unfold State.printCycleEnded
  split <;> rfl

/-- The effects of a cycle come first, then its fault, then a PRINTER RESET that waited, then PAPER OUT (R120, R125, R128,
R130). -/
theorem State.finishPrintCycle_eq (s : State) (c : PrintCycle) (fault : Bool) : s.finishPrintCycle c fault =
    (if (s.printCycleEnded c fault).printer.resetPending then
      { s.printCycleEnded c fault with printer := (s.printCycleEnded c fault).printer.resetSteps }
    else s.printCycleEnded c fault).noticeNoPaper .cycle := rfl

/-- The report of a settle ends the print cycle in flight (R120, R167). -/
theorem State.report_printer {c : PrintCycle} (hc : s.printer.cycle = some c) (fault : Bool) :
    s.report .printer fault = (s.finishPrintCycle c fault).carryOn := by
  simp only [State.report, hc]

end Print

/-! ## The end of a punch cycle -/

section Punch
variable {s : State}

/-- The tape case after a cycle: a shift sets it, unless PUNCH RESET muted the cycle (R140, R145). -/
def PunchCycle.tapeCaseAfter (c : PunchCycle) (k : SinkCase) : SinkCase :=
  if c.muted then k else (c.shift.map Case.toSink).getD k

/-- The punch at the end of a cycle without a fault: feed held stays only while the punch still takes (R139 to R141). -/
def Punch.afterCycle (p : Punch) (c : PunchCycle) : Punch :=
  { p with
    cycle := none
    tapeCase := c.tapeCaseAfter p.tapeCase
    feedHeld := p.feedHeld && p.switch && p.tape }

/-- The effects of a cycle come first, then its fault, then the PUNCH RESET that muted it, then TAPE OUT (R139, R140, R143,
R170). -/
theorem State.finishPunchCycle_eq (s : State) (c : PunchCycle) (fault : Bool) {v w : State}
    (hv : v = State.dropFeedHeld { s with punch := { s.punch with
      cycle := none, tapeCase := c.tapeCaseAfter s.punch.tapeCase, fault := s.punch.fault || fault } })
    (hw : w = if fault then v.punchNotice .fault else v) : s.finishPunchCycle c fault =
      (if c.muted then { w with punch := { w.punch with fault := false } } else w).noticeTapeOut .cycle := by
  have hcase : c.tapeCaseAfter s.punch.tapeCase = if c.muted then s.punch.tapeCase else match c.shift with
      | some k => k.toSink
      | none => s.punch.tapeCase := by
    unfold PunchCycle.tapeCaseAfter
    cases c.shift <;> rfl
  subst hw hv
  rw [hcase]
  rfl

theorem Punch.status_of_fault {p : Punch} (hfault : p.fault = true) : p.status = .fault := if_pos hfault

/-- Without a fault and a cycle the punch takes while it is ON with tape (R133). -/
theorem State.punchTakes_of_sound (hcycle : s.punch.cycle = none) (hfault : s.punch.fault = false) :
    s.punchTakes = (s.punch.switch && s.punch.tape) := by
  cases hswitch : s.punch.switch <;> cases htape : s.punch.tape <;>
    simp [State.punchTakes, State.punchState, Punch.status, hcycle, hfault, hswitch, htape]

/-- Feed held then stays while the punch takes (R141). -/
theorem State.dropFeedHeld_of_sound (hcycle : s.punch.cycle = none) (hfault : s.punch.fault = false) :
    s.dropFeedHeld = { s with punch := { s.punch with
      feedHeld := s.punch.feedHeld && s.punch.switch && s.punch.tape } } := by
  rw [State.dropFeedHeld, State.punchTakes_of_sound hcycle hfault, Bool.and_assoc]
  cases s.punch.switch && s.punch.tape <;> simp

/-- A punch with a fault holds no feed (R141, R143). -/
theorem State.dropFeedHeld_of_fault (hfault : s.punch.fault = true) :
    s.dropFeedHeld = { s with punch := { s.punch with feedHeld := false } } := by
  have htakes : ¬ s.punchTakes = true := by simp [State.punchTakes_iff, Punch.status_of_fault hfault]
  exact if_neg htakes

section Ends
variable {c : PunchCycle}

/-- A report without a fault on a sound punch (R139 to R142). -/
theorem State.finishPunchCycle_of_sound (hfault : s.punch.fault = false) : s.finishPunchCycle c false =
    State.noticeTapeOut { s with punch := s.punch.afterCycle c } .cycle := by
  have hend : ({ s with punch := s.punch.afterCycle c } : State) = State.dropFeedHeld { s with punch := { s.punch with
      cycle := none, tapeCase := c.tapeCaseAfter s.punch.tapeCase, fault := s.punch.fault || false } } := by
    rw [State.dropFeedHeld_of_sound rfl (by simp [hfault])]
    simp [Punch.afterCycle]
  rw [State.finishPunchCycle_eq s c false hend (if_neg Bool.false_ne_true).symm]
  split
  · simp [Punch.afterCycle, hfault]
  · rfl

/-- A fault report: the notice shows the fault, and a PUNCH RESET that muted the cycle clears it after that (R143, R170,
log 37). -/
theorem State.finishPunchCycle_of_fault (hfault : s.punch.fault = false) {u : State}
    (hu : u = State.punchNotice
      { s with punch := { s.punch.afterCycle c with fault := true, feedHeld := false } } .fault) :
    s.finishPunchCycle c true =
      if c.muted then
        State.noticeTapeOut { u with punch := { s.punch.afterCycle c with feedHeld := false } } .cycle
      else u := by
  have hend : ({ s with punch := { s.punch.afterCycle c with fault := true, feedHeld := false } } : State) =
      State.dropFeedHeld { s with punch := { s.punch with
        cycle := none, tapeCase := c.tapeCaseAfter s.punch.tapeCase, fault := s.punch.fault || true } } := by
    rw [State.dropFeedHeld_of_fault (by simp)]
    simp [Punch.afterCycle]
  rw [State.finishPunchCycle_eq s c true hend hu]
  split
  · simp [hu, Punch.afterCycle, hfault]
  · refine State.noticeTapeOut_of_no_entry (.inr (.inl ?_))
    simp [hu, Punch.status_of_fault]

/-- The report of a settle ends the punch cycle in flight (R139, R167). -/
theorem State.report_punch (hc : s.punch.cycle = some c) (fault : Bool) :
    s.report .punch fault = (s.finishPunchCycle c fault).carryOn := by
  simp only [State.report, hc]

end Ends

end Punch

/-! ## The obligation -/

/-- Settles O53: the end of a cycle is its effects, then the fault, then the reset that waited, and then the notice of an
entry. -/
theorem reportsEndTheCycles : Obligations.ReportsEndTheCycles := by
  refine ⟨fun c s fault hc => ?printed, fun c s p hc hp hfault => ?punched⟩
  case printed =>
    refine ⟨s.printer.afterCycle c fault (s.opt .lineWidth), s.printCycleEnded c fault, rfl, fun hcr => ⟨?_, if_pos hcr⟩,
      fun hcr => if_neg hcr, fun hmoves => ⟨fun hcolumn => ?_, fun k hcolumn => ?_⟩,
      fun hcr hprinting hspace => Printer.columnAfter_of_still hcr hprinting hspace, Printer.mechCaseAfter_eq ..,
      ?_, NewlineOwed.after_eq .., fun hok => ?_, fun hbad => ?_, fun hreset => ?_, fun hreset => ?_⟩
    · change s.printer.columnAfter c.reading = _
      rw [hcr]
      rfl
    · change s.printer.columnAfter c.reading = _
      rw [Printer.columnAfter_of_advance hmoves, hcolumn]
      rfl
    · change s.printer.columnAfter c.reading = _
      rw [Printer.columnAfter_of_advance hmoves, hcolumn]
      rfl
    · exact congrArg (fun printed => if c.kind = .own then printed else s.printer.lineOpen) (by cases c.reading <;> rfl)
    · exact if_neg (by simp [hok])
    · exact if_pos hbad
    · rw [State.report_printer hc, State.finishPrintCycle_eq, if_neg (by simp [Printer.afterCycle, hreset])]
    · rw [State.report_printer hc, State.finishPrintCycle_eq, if_pos (by simpa [Printer.afterCycle] using hreset),
        State.printCycleEnded_printer]
      rfl
  case punched =>
    have hend : p = s.punch.afterCycle c := by
      rw [hp]
      unfold Punch.afterCycle PunchCycle.tapeCaseAfter
      cases c.shift with
      | none => rfl
      | some k => cases k <;> rfl
    subst hend
    rw [State.report_punch hc, State.report_punch hc, State.finishPunchCycle_of_sound hfault]
    refine ⟨rfl, fun u hu => ?_⟩
    rw [State.finishPunchCycle_of_fault hfault hu]
    exact ⟨fun hloud => by rw [if_neg (by simp [hloud])], fun hmuted => by rw [if_pos hmuted]⟩

end Sys2Proof.Machine
end

section
/-! The rows of paper and tape, of the first levels of their filters, of the hold-wait and of the release timer (R114,
R115, R124 to R127, R137, R142), and the commands of the printer (R129, R130). -/

namespace Sys2Proof.Machine

/-! ## Paper and tape -/

section Inputs
variable {s : State} {b : Bool} {te : Nat}

/-- A change of paper-out is known 20 ms after its time, and the filter then holds the other level (R124). -/
theorem paperOutChange_of_change (h : s.printer.paperOut.level = some (!b)) : paperOutChange b te s =
    State.paperOutTaken { s.advance (te + Config.inputFilterTicks) with
      printer := { s.printer with paperOut := Filter.at b } } b te := by
  rw [paperOutChange, if_pos h, ← Filter.threeSamples_change h]
  rfl

theorem paperLowChange_of_change (h : s.printer.paperLow.level = some (!b)) : paperLowChange b te s =
    State.printerNotice { s.advance (te + Config.inputFilterTicks) with
      printer := { s.printer with paperLow := Filter.at b } } (if b then .paperLow else .paperLowCleared) := by
  rw [paperLowChange, if_pos h, ← Filter.threeSamples_change h]
  rfl

theorem tapeOutChange_of_change (h : s.punch.tapeOut.level = some (!b)) : tapeOutChange b te s =
    State.tapeOutTaken { s.advance (te + Config.inputFilterTicks) with
      punch := { s.punch with tapeOut := Filter.at b } } b te := by
  rw [tapeOutChange, if_pos h, ← Filter.threeSamples_change h]
  rfl

theorem tapeLowChange_of_change (h : s.punch.tapeLow.level = some (!b)) : tapeLowChange b te s =
    State.punchNotice { s.advance (te + Config.inputFilterTicks) with
      punch := { s.punch with tapeLow := Filter.at b } } (if b then .tapeLow else .tapeLowCleared) := by
  rw [tapeLowChange, if_pos h, ← Filter.threeSamples_change h]
  rfl

/-- Paper-out makes a PRESENT setting ABSENT (R125). -/
theorem State.paperOutTaken_of_gone (h : s.printer.paper = true) : s.paperOutTaken true te =
    (State.noticeNoPaper { s with printer := { s.printer with paper := false } } s.printer.status).carryOn := by
  simp only [State.paperOutTaken, h, if_true]
  rfl

/-- Paper-out stops a restoration (R124). -/
theorem State.paperOutTaken_of_stop (h : s.printer.paper = false) : s.paperOutTaken true te =
    { s with printer := { s.printer with restore := none } } := by
  simp [State.paperOutTaken, h]

/-- Paper back starts a restoration of 2 s (R124). -/
theorem State.paperOutTaken_of_back (h : s.printer.paper = false) : s.paperOutTaken false te =
    { s with printer := { s.printer with restore := some (te + Config.restore) } } := by
  simp [State.paperOutTaken, h]

/-- Tape-out makes a PRESENT setting ABSENT (R142). -/
theorem State.tapeOutTaken_of_gone (h : s.punch.tape = true) : s.tapeOutTaken true te =
    (State.dropFeedHeld (State.noticeTapeOut { s with punch := { s.punch with tape := false } }
      s.punch.status)).carryOn := by
  simp only [State.tapeOutTaken, h, if_true]
  rfl

/-- Tape-out stops a restoration (R142). -/
theorem State.tapeOutTaken_of_stop (h : s.punch.tape = false) : s.tapeOutTaken true te =
    { s with punch := { s.punch with restore := none } } := by
  simp [State.tapeOutTaken, h]

/-- Tape back starts a restoration of 2 s (R142). -/
theorem State.tapeOutTaken_of_back (h : s.punch.tape = false) : s.tapeOutTaken false te =
    { s with punch := { s.punch with restore := some (te + Config.restore) } } := by
  simp [State.tapeOutTaken, h]

/-- A filter without a level takes its first, and the choices follow (R124, R142). -/
theorem inputFilterStart_of_unset {input : InputPin} (h : (s.inputFilter input).level = none) :
    inputFilterStart input b s = (s.startFilter input b).carryOn := if_pos h

end Inputs

/-! ## The hold-wait -/

section HoldWait
variable {s : State} {due : Nat}

theorem holdWaitExpiry_of_waiting (h : s.printer.holdWait = .waiting due) : holdWaitExpiry s =
    if s.rivalWaits then State.carryOn { s.advance due with printer := s.printer.cutIn }
    else { s.advance due with printer := { s.printer with holdWait := .expired } } := by
  simp only [holdWaitExpiry, h]
  rfl

end HoldWait

/-! ## The obligation of the rows -/

/-- Settles O57: a change that is known sets its filter, and what it does to the setting is an equation by the setting. -/
theorem paperTapeAndWaitRowsComplete : Obligations.PaperTapeAndWaitRowsComplete := by
  refine ⟨fun te due s u v hu hv => ⟨fun hlevel => ⟨fun hpaper => ?paperGone, fun hpaper => ?paperStop⟩,
      fun hlevel hpaper => ?paperBack, fun hrestore => ?paperRestored, fun b hlevel => ?paperLow,
      fun hlevel => ⟨fun htape => ?tapeGone, fun htape => ?tapeStop⟩,
      fun hlevel htape => ?tapeBack, fun hrestore => ?tapeRestored, fun b hlevel => ?tapeLow⟩,
    ⟨fun b s => ⟨fun h => ?_, fun h => ?_, fun h => ?_, fun h => ?_⟩,
      fun f hf b => Filter.threeSamples_start hf b,
      fun due s u hu => ⟨fun hwaiting => ⟨fun hrival => ⟨s.printer.cutIn, ?cutIn, s.printer.cutIn_spec⟩,
        fun hrival => ?expired⟩, fun htimer => ?released⟩⟩,
    fun s => ⟨fun cause => ⟨_, _, fun l h => Filter.reported_of_level h _, fun l h => Filter.reported_of_level h _, rfl⟩,
      fun before => ⟨State.noticeNoPaper_of_entry, State.noticeNoPaper_of_no_entry⟩,
      fun cause => ⟨_, _, fun l h => Filter.reported_of_level h _, fun l h => Filter.reported_of_level h _, rfl⟩,
      fun before => ⟨State.noticeTapeOut_of_entry, State.noticeTapeOut_of_no_entry⟩⟩⟩
  all_goals subst_vars
  case paperGone =>
    exact congrArg Host.Outcome.next
      ((paperOutChange_of_change (b := true) hlevel).trans (State.paperOutTaken_of_gone hpaper))
  case paperStop =>
    exact congrArg Host.Outcome.next
      ((paperOutChange_of_change (b := true) hlevel).trans (State.paperOutTaken_of_stop hpaper))
  case paperBack =>
    exact congrArg Host.Outcome.next
      ((paperOutChange_of_change (b := false) hlevel).trans (State.paperOutTaken_of_back hpaper))
  case paperRestored => exact congrArg Host.Outcome.next (State.onTimer_of_due hrestore _)
  case paperLow => exact congrArg Host.Outcome.next (paperLowChange_of_change hlevel)
  case tapeGone =>
    exact congrArg Host.Outcome.next
      ((tapeOutChange_of_change (b := true) hlevel).trans (State.tapeOutTaken_of_gone htape))
  case tapeStop =>
    exact congrArg Host.Outcome.next
      ((tapeOutChange_of_change (b := true) hlevel).trans (State.tapeOutTaken_of_stop htape))
  case tapeBack =>
    exact congrArg Host.Outcome.next
      ((tapeOutChange_of_change (b := false) hlevel).trans (State.tapeOutTaken_of_back htape))
  case tapeRestored => exact congrArg Host.Outcome.next (State.onTimer_of_due hrestore _)
  case tapeLow => exact congrArg Host.Outcome.next (tapeLowChange_of_change hlevel)
  case cutIn =>
    exact congrArg Host.Outcome.next ((holdWaitExpiry_of_waiting hwaiting).trans (if_pos hrival))
  case expired =>
    exact congrArg Host.Outcome.next ((holdWaitExpiry_of_waiting hwaiting).trans (if_neg (by simp [hrival])))
  case released => exact congrArg Host.Outcome.next (State.onTimer_of_due htimer _)
  · exact congrArg Host.Outcome.next (inputFilterStart_of_unset (input := .paperOut) h)
  · exact congrArg Host.Outcome.next (inputFilterStart_of_unset (input := .paperLow) h)
  · exact congrArg Host.Outcome.next (inputFilterStart_of_unset (input := .tapeOut) h)
  · exact congrArg Host.Outcome.next (inputFilterStart_of_unset (input := .tapeLow) h)

/-! ## The commands of the printer -/

section Commands
variable (s : State) (p : PendingReply)

/-- The reply of HOLD and RELEASE shows the printer, whatever reply was pending. -/
theorem State.acceptHold_withReply (t : State) (kind : Byte) (before : Bool) :
    (t.withReply p).accept kind (.printerHold (t.withReply p).printerState before) =
      t.accept kind (.printerHold t.printerState before) := rfl

theorem printerHold_withReply : printerHold (s.withReply p) = printerHold s := by
  have hheld : (s.withReply p).withHold true = (s.withHold true).withReply p := rfl
  unfold printerHold
  rw [hheld, State.carryOn_withReply]
  exact State.acceptHold_withReply p _ 0x1B _

theorem printerRelease_withReply : printerRelease (s.withReply p) = printerRelease s := by
  have hreleased : (s.withReply p).withHold false = (s.withHold false).withReply p := rfl
  unfold printerRelease
  rw [hreleased, State.carryOn_withReply]
  exact State.acceptHold_withReply p _ 0x1C _

theorem printerReset_withReply : printerReset (s.withReply p) = printerReset s := by
  unfold printerReset
  rw [State.resetPrinter_withReply, State.carryOn_withReply]
  exact State.withReply_accept _ p 0x1D _

end Commands

section Taken
variable {s : State} (h : s.TakesCommands)
include h

theorem exec_printerHold : exec .printerHold s = .next (printerHold s) :=
  congrArg Host.Outcome.next (State.taken_eq h rfl rfl (printerHold_withReply s _))

theorem exec_printerRelease : exec .printerRelease s = .next (printerRelease s) :=
  congrArg Host.Outcome.next (State.taken_eq h rfl rfl (printerRelease_withReply s _))

theorem exec_printerReset : exec .printerReset s = .next (printerReset s) :=
  congrArg Host.Outcome.next (State.taken_eq h rfl rfl (printerReset_withReply s _))

end Taken

section Reset
variable {s : State}

/-- While RUNNING a printer that is told may choose (R112, R165). -/
theorem State.tellPrinter_eq (s : State) : s.tellPrinter = { s with motor := { s.motor with
    printWithdrawn := if s.motor.state = .running then false else s.motor.printWithdrawn } } := by
  unfold State.tellPrinter State.motorRunning
  by_cases hrunning : s.motor.state = .running
  · simp [hrunning]
  · simp [hrunning]

/-- A notice of the printer does not look at the motor. -/
theorem State.noticeNoPaper_tellPrinter (s : State) (before : PrinterState) :
    (s.noticeNoPaper before).tellPrinter = s.tellPrinter.noticeNoPaper before := by
  by_cases h : before ≠ .noPaper ∧ s.printerState = .noPaper ∧ s.printer.paperOut.level.isSome = true
  · rw [State.noticeNoPaper, if_pos h, State.tellPrinter_eq, State.tellPrinter_eq s]
    exact (if_pos h).symm
  · rw [State.noticeNoPaper, if_neg h, State.tellPrinter_eq]
    exact (if_neg h).symm

/-- R130: with a cycle in flight the reset waits for its end. -/
theorem State.resetPrinter_of_cycle (h : s.printer.cycle.isSome = true) :
    s.resetPrinter = { s with printer := { s.printer with resetPending := true } } := if_pos h

/-- R130: without one it acts at once. -/
theorem State.resetPrinter_of_no_cycle (h : s.printer.cycle = none) : s.resetPrinter =
    (State.tellPrinter { s with printer := s.printer.resetSteps }).noticeNoPaper s.printer.status := by
  rw [State.resetPrinter, if_neg (by simp [h]), State.noticeNoPaper_tellPrinter]
  rfl

end Reset

/-- Settles O30: each frame reaches its owner, whose reply shows what the choices left. -/
theorem printerCommandsComplete : Obligations.PrinterCommandsComplete := by
  refine fun s h => ⟨?held, fun hcycle => ?waits, fun hcycle => ?acts⟩
  case held =>
    rintro _ _ rfl rfl
    exact ⟨exec_printerHold h, exec_printerRelease h⟩
  case waits => rw [exec_printerReset h, printerReset, State.resetPrinter_of_cycle hcycle]
  case acts =>
    rw [exec_printerReset h, printerReset, State.resetPrinter_of_no_cycle hcycle, State.tellPrinter_eq]
    rfl

end Sys2Proof.Machine
end

section
/-! SUPPORT. What the punch's operations do: when the punch is quiet and at rest, when a release is due, and that the
other spools' cells leave PUNCH (R134 to R138). -/

namespace Sys2Proof.Machine

section Tests
variable {s : State}

/-- R136: PUNCH empty, no cycle and no commitment. -/
theorem State.punchQuiet_iff : s.punchQuiet = true ↔
    s.store.punch.cells = [] ∧ s.punch.cycle = none ∧ s.punch.committed = false := by
  simp [State.punchQuiet, Spool.isEmpty, and_assoc]

/-- R137: quiet, and no feed asked for. -/
theorem State.punchAtRest_iff : s.punchAtRest = true ↔
    s.punchQuiet = true ∧ s.punch.feedRequest = none ∧ s.punch.feedHeld = false := by
  simp [State.punchAtRest, and_assoc]

/-- R136, R137, R145: the release that each owner waits for. -/
theorem State.releaseDue_iff : s.releaseDue = true ↔
    (s.punch.owner = some .line ∧ s.punch.lineRelease = .trailer 0 ∧ s.punch.cycle = none) ∨
    (s.punch.owner = some .loc ∧ (s.punch.localRelease = true ∨ s.punch.clearRelease = true) ∧ s.punchAtRest = true) ∨
    (s.punch.owner = some .submitted ∧ (s.punch.submittedRelease = true ∨ s.punch.clearRelease = true) ∧
      s.punchAtRest = true) := by
  unfold State.releaseDue
  split <;> rename_i howner <;> simp [howner]

end Tests

/-! ## The spools other than PUNCH -/

@[simp] theorem Store.removeHead_punch (st : Store) {n : SpoolName} (h : n ≠ .punch) :
    (st.removeHead n).2.punch = st.punch := st.removeHead_other (m := .punch) h.symm

@[simp] theorem Store.append_punch (st : Store) {n : SpoolName} (h : n ≠ .punch) (e : Entry) :
    (st.append n e).punch = st.punch := st.append_other (m := .punch) h.symm e

@[simp] theorem Store.emptySpool_punch (st : Store) {n : SpoolName} (h : n ≠ .punch) :
    (st.emptySpool n).2.punch = st.punch := st.emptySpool_other (m := .punch) h.symm

/-- A chain grows without PUNCH (R12). -/
@[simp] theorem Store.chainAppend_punch (st : Store) (chain : List Nat) (cells : Nat) :
    (st.chainAppend chain cells).2.punch = st.punch := st.chainAppend_spool chain cells .punch

@[simp] theorem Store.appendAll_punch (st : Store) {n : SpoolName} (h : n ≠ .punch) (es : List Entry) :
    (st.appendAll n es).punch = st.punch := by
  induction es generalizing st with
  | nil => rfl
  | cons e es ih => exact (ih _).trans (st.append_punch h e)

/-- R21: no route has PUNCH for its print spool. -/
@[simp] theorem RouteName.printSpool_ne_punch (n : RouteName) : n.printSpool ≠ .punch := by cases n <;> exact nofun

/-! ## PUNCH -/

/-- R6: an append to PUNCH puts the cell last, or refuses it. -/
theorem Store.append_punch_cells (st : Store) (e : Entry) :
    ∃ es, (∀ x ∈ es, x = e) ∧ (st.append .punch e).punch.cells = st.punch.cells ++ es := by
  rcases st.append_cases .punch e with ⟨-, heq⟩ | ⟨-, -, heq⟩ | ⟨-, -, b, rest, -, heq⟩
  · exact ⟨[], by simp, by simp [heq]⟩
  · exact ⟨[e], by simp, by rw [heq]; rfl⟩
  · exact ⟨[e], by simp, by rw [heq]; rfl⟩

/-- R7: so do several. -/
theorem Store.appendAll_punch_cells (es : List Entry) (st : Store) :
    ∃ es', es' ⊆ es ∧ (st.appendAll .punch es).punch.cells = st.punch.cells ++ es' := by
  induction es generalizing st with
  | nil => exact ⟨[], by simp, by simp [Store.appendAll]⟩
  | cons e es ih =>
    obtain ⟨first, hfirst, hcell⟩ := st.append_punch_cells e
    obtain ⟨more, hmore, hcells⟩ := ih (st.append .punch e)
    refine ⟨first ++ more, ?_, ?_⟩
    · exact List.append_subset.mpr ⟨fun x hx => by simp [hfirst x hx], List.Subset.trans hmore (List.subset_cons_self e es)⟩
    · exact hcells.trans (by rw [hcell, List.append_assoc])

/-- R9: the head cell leaves PUNCH. -/
theorem Store.removeHead_punch_cells {st : Store} {e : Entry} {rest : List Entry} (h : st.punch.cells = e :: rest) :
    (st.removeHead .punch).2.punch.cells = rest := (Store.removeHead_cells (n := .punch) h).2

/-- R11: PUNCH emptied. -/
@[simp] theorem Store.emptySpool_punch_cells (st : Store) : (st.emptySpool .punch).2.punch.cells = [] := by
  rw [Store.emptySpool_eq]; rfl

/-- R18: RESTART empties PUNCH with the other spools. -/
@[simp] theorem Store.restart_punch_cells (st : Store) : st.restart.punch.cells = [] := by
  simp [Store.restart]

end Sys2Proof.Machine
end

section
/-! SUPPORT. One owner of the punch: `State.OneOwner` is what O9 says of a state without its release timer, and an
operation `f` with a lemma `f_keepsOwner` keeps it. The choices that follow an operation set the release timer anew, so
after them the whole invariant stands (R134 to R137). -/

namespace Sys2Proof.Machine

/-! ## The invariant without the release timer -/

/-- The PUNCH spool, the counts and the marks of the punch belong to the owner (R134, R136, R137, R141). -/
structure State.OneOwner (s : State) : Prop where
  unowned : s.punch.owner = none → s.store.punch.cells = []
  streams : ∀ e ∈ s.store.punch.cells, e.stream = s.punch.owner
  leader : s.punch.leader ≠ 0 → s.punch.owner = some .line
  lineRelease : s.punch.lineRelease ≠ .none → s.punch.owner = some .line
  trailer : ∀ n, s.punch.lineRelease = .trailer n → s.store.punch.cells = [] ∧ s.punch.leader = 0
  localRelease : s.punch.localRelease = true → s.punch.owner = some .loc
  submittedRelease : s.punch.submittedRelease = true → s.punch.owner = some .submitted
  clearRelease : s.punch.clearRelease = true → s.punch.owner = some .loc ∨ s.punch.owner = some .submitted
  feedRequest : s.punch.feedRequest.isSome = true → s.punch.owner = some .submitted
  feedHeld : s.punch.feedHeld = true → s.punch.owner = some .loc
  committed : s.punch.committed = true → s.store.punch.cells ≠ []

/-- The release timer runs only for an owner that it releases, at rest (R137). -/
def State.TimerAtRest (s : State) : Prop :=
  s.punch.releaseTimer.isSome = true →
    (s.punch.owner = some .loc ∨ s.punch.owner = some .submitted) ∧ s.punchAtRest = true

/-- O9's invariant in two parts. -/
theorem State.punchOwned_iff {s : State} : s.PunchOwned ↔ s.OneOwner ∧ s.TimerAtRest :=
  ⟨fun h => ⟨{ h with }, h.releaseTimer⟩, fun ⟨howner, htimer⟩ => { howner with releaseTimer := htimer }⟩

/-- What `State.OneOwner` speaks of. -/
def State.ownership (s : State) :
    Option Stream × Nat × LineRelease × Bool × Bool × Bool × Option FeedRequest × Bool × Bool × List Entry :=
  (s.punch.owner, s.punch.leader, s.punch.lineRelease, s.punch.localRelease, s.punch.submittedRelease,
    s.punch.clearRelease, s.punch.feedRequest, s.punch.feedHeld, s.punch.committed, s.store.punch.cells)

@[simp] theorem State.ownership_eq (s : State) : s.ownership =
    (s.punch.owner, s.punch.leader, s.punch.lineRelease, s.punch.localRelease, s.punch.submittedRelease,
      s.punch.clearRelease, s.punch.feedRequest, s.punch.feedHeld, s.punch.committed, s.store.punch.cells) := rfl

/-- What O9's invariant speaks of. -/
def State.punchWork (s : State) : Punch × List Entry := (s.punch, s.store.punch.cells)

@[simp] theorem State.punchWork_eq (s : State) : s.punchWork = (s.punch, s.store.punch.cells) := rfl

section Congr
variable {s t : State}

theorem State.OneOwner.congr (h : s.OneOwner) (ht : t.ownership = s.ownership) : t.OneOwner := by
  simp only [State.ownership_eq, Prod.mk.injEq] at ht
  obtain ⟨howner, hleader, hrelease, hlocal, hsubmitted, hclear, hrequest, hheld, hcommitted, hcells⟩ := ht
  constructor
  case unowned => rw [howner, hcells]; exact h.unowned
  case streams => rw [howner, hcells]; exact h.streams
  case leader => rw [howner, hleader]; exact h.leader
  case lineRelease => rw [howner, hrelease]; exact h.lineRelease
  case trailer => rw [hrelease, hcells, hleader]; exact h.trailer
  case localRelease => rw [howner, hlocal]; exact h.localRelease
  case submittedRelease => rw [howner, hsubmitted]; exact h.submittedRelease
  case clearRelease => rw [howner, hclear]; exact h.clearRelease
  case feedRequest => rw [howner, hrequest]; exact h.feedRequest
  case feedHeld => rw [howner, hheld]; exact h.feedHeld
  case committed => rw [hcommitted, hcells]; exact h.committed

theorem State.ownership_of_punchWork (h : t.punchWork = s.punchWork) : t.ownership = s.ownership := by
  simp only [State.punchWork_eq, Prod.mk.injEq] at h
  simp [h]

theorem State.TimerAtRest.congr (h : s.TimerAtRest) (ht : t.punchWork = s.punchWork) : t.TimerAtRest := by
  simp only [State.punchWork_eq, Prod.mk.injEq] at ht
  obtain ⟨hpunch, hcells⟩ := ht
  unfold State.TimerAtRest at h ⊢
  rw [State.punchAtRest_iff, State.punchQuiet_iff, hpunch, hcells]
  rwa [State.punchAtRest_iff, State.punchQuiet_iff] at h

theorem State.PunchOwned.congr (h : s.PunchOwned) (ht : t.punchWork = s.punchWork) : t.PunchOwned := by
  rw [State.punchOwned_iff] at h ⊢
  exact ⟨h.1.congr (State.ownership_of_punchWork ht), h.2.congr ht⟩

end Congr

/-! ## What keeps it -/

/-- An operation that leaves one owner where there was one. -/
def State.KeepsOwner (s t : State) : Prop := s.OneOwner → t.OneOwner

/-- A step that keeps the whole of O9's invariant. -/
def State.KeepsPunch (s t : State) : Prop := s.PunchOwned → t.PunchOwned

section Keeps
variable {s t u : State}

theorem State.KeepsOwner.still (h : t.ownership = s.ownership) : s.KeepsOwner t := fun hs => hs.congr h

theorem State.KeepsOwner.refl (s : State) : s.KeepsOwner s := id

theorem State.KeepsOwner.trans (h : s.KeepsOwner t) (k : t.KeepsOwner u) : s.KeepsOwner u := k ∘ h

/-- Followed by what leaves the ownership. -/
theorem State.KeepsOwner.keeping (h : s.KeepsOwner t) (hu : u.ownership = t.ownership) : s.KeepsOwner u :=
  h.trans (.still hu)

/-- Preceded by what leaves the ownership. -/
theorem State.KeepsOwner.after (h : t.KeepsOwner u) (ht : t.ownership = s.ownership) : s.KeepsOwner u :=
  State.KeepsOwner.trans (.still ht) h

theorem State.KeepsPunch.still (h : t.punchWork = s.punchWork) : s.KeepsPunch t := fun hs => hs.congr h

theorem State.KeepsPunch.refl (s : State) : s.KeepsPunch s := id

theorem State.KeepsPunch.trans (h : s.KeepsPunch t) (k : t.KeepsPunch u) : s.KeepsPunch u := k ∘ h

theorem State.KeepsPunch.keeping (h : s.KeepsPunch t) (hu : u.punchWork = t.punchWork) : s.KeepsPunch u :=
  h.trans (.still hu)

theorem State.KeepsPunch.after (h : t.KeepsPunch u) (ht : t.punchWork = s.punchWork) : s.KeepsPunch u :=
  State.KeepsPunch.trans (.still ht) h

/-- Followed by a reply (R174). -/
theorem State.KeepsPunch.accept (h : s.KeepsPunch t) {kind : Byte} {r : Result} : s.KeepsPunch (t.accept kind r) :=
  h.keeping rfl

end Keeps

/-! ## Claims, appends and releases -/

section Owner
variable {s t : State}

/-- Nothing is left for an owner to do: the punch may pass to another (R134). -/
structure State.NothingLeft (s : State) : Prop where
  cells : s.store.punch.cells = []
  leader : s.punch.leader = 0
  feedRequest : s.punch.feedRequest = none
  feedHeld : s.punch.feedHeld = false
  committed : s.punch.committed = false

/-- An empty spool has no commitment. -/
theorem State.OneOwner.not_committed (h : s.OneOwner) (hcells : s.store.punch.cells = []) :
    s.punch.committed = false := Bool.eq_false_iff.mpr fun hc => h.committed hc hcells

theorem State.OneOwner.no_leader (h : s.OneOwner) (howner : s.punch.owner ≠ some .line) : s.punch.leader = 0 :=
  Decidable.not_not.mp fun hl => howner (h.leader hl)

theorem State.OneOwner.no_lineRelease (h : s.OneOwner) (howner : s.punch.owner ≠ some .line) :
    s.punch.lineRelease = .none := Decidable.not_not.mp fun hr => howner (h.lineRelease hr)

theorem State.OneOwner.no_feedRequest (h : s.OneOwner) (howner : s.punch.owner ≠ some .submitted) :
    s.punch.feedRequest = none := Option.not_isSome_iff_eq_none.mp fun hr => howner (h.feedRequest hr)

theorem State.OneOwner.not_feedHeld (h : s.OneOwner) (howner : s.punch.owner ≠ some .loc) :
    s.punch.feedHeld = false :=
  Bool.eq_false_iff.mpr fun hf => howner (h.feedHeld hf)

/-- An unowned punch has nothing left to do. -/
theorem State.OneOwner.nothingLeft_of_unowned (h : s.OneOwner) (howner : s.punch.owner = none) : s.NothingLeft where
  cells := h.unowned howner
  leader := h.no_leader (by simp [howner])
  feedRequest := h.no_feedRequest (by simp [howner])
  feedHeld := h.not_feedHeld (by simp [howner])
  committed := h.not_committed (h.unowned howner)

/-- LINE is done when its trailer is punched (R136). -/
theorem State.OneOwner.nothingLeft_of_trailer (h : s.OneOwner) {n : Nat} (htrailer : s.punch.lineRelease = .trailer n) :
    s.NothingLeft := by
  have howner : s.punch.owner = some .line := h.lineRelease (by simp [htrailer])
  obtain ⟨hcells, hleader⟩ := h.trailer n htrailer
  exact ⟨hcells, hleader, h.no_feedRequest (by simp [howner]), h.not_feedHeld (by simp [howner]),
    h.not_committed hcells⟩

/-- LOCAL and SUBMITTED are done at rest (R137). -/
theorem State.OneOwner.nothingLeft_of_atRest (h : s.OneOwner) (howner : s.punch.owner ≠ some .line)
    (hrest : s.punchAtRest = true) : s.NothingLeft := by
  obtain ⟨hquiet, hrequest, hheld⟩ := State.punchAtRest_iff.mp hrest
  obtain ⟨hcells, -, hcommitted⟩ := State.punchQuiet_iff.mp hquiet
  exact ⟨hcells, h.no_leader howner, hrequest, hheld, hcommitted⟩

/-- With nothing left to do any owner, and any leader of LINE's, goes. -/
theorem State.NothingLeft.oneOwner (h : s.NothingLeft) {o : Option Stream} {k : SinkCase} {n : Nat}
    (hleader : n ≠ 0 → o = some .line) (timer : Option Nat) :
    ({ s with punch := { s.punch with
        owner := o, tapeCase := k, leader := n, lineRelease := .none, localRelease := false
        submittedRelease := false, clearRelease := false, releaseTimer := timer } } : State).OneOwner := by
  obtain ⟨hcells, -, hrequest, hheld, hcommitted⟩ := h
  constructor <;> simp [hcells, hrequest, hheld, hcommitted]
  exact hleader

/-- R134, R136, R137: a release. -/
theorem State.NothingLeft.releasePunch (h : s.NothingLeft) : s.releasePunch.OneOwner :=
  h.oneOwner (fun hl => absurd h.leader hl) none

/-- R134: a claim of an unowned punch. -/
theorem State.claimPunch_keepsOwner (s : State) (k : Stream) : s.KeepsOwner (s.claimPunch k) := by
  intro h
  unfold State.claimPunch
  split
  · next howner =>
    refine (h.nothingLeft_of_unowned howner).oneOwner (fun hl => ?_) none
    by_cases hk : k = .line
    · rw [hk]
    · exact absurd (if_neg hk) hl
  · exact h

/-- R134: the punch is the stream's when an append is admitted. -/
theorem State.claimPunch_owner {k : Stream} (hadmits : s.ownerAdmits k = true) :
    (s.claimPunch k).punch.owner = some k := by
  unfold State.claimPunch
  split
  · rfl
  · next howner => exact (State.ownerAdmits_iff.mp hadmits).resolve_left howner

/-- R136: another LINE release state, for LINE only, and a trailer only with the LINE work done. -/
theorem State.OneOwner.withLineRelease (h : s.OneOwner) {w : LineRelease}
    (howner : w ≠ .none → s.punch.owner = some .line)
    (htrailer : ∀ n, w = .trailer n → s.store.punch.cells = [] ∧ s.punch.leader = 0) :
    ({ s with punch := { s.punch with lineRelease := w } } : State).OneOwner :=
  { h with lineRelease := howner, trailer := htrailer }

/-- Cells of the owner's stream go to PUNCH, unless a LINE trailer is due (R134, R136). -/
theorem State.OneOwner.grow (h : s.OneOwner) {k : Stream} (howner : s.punch.owner = some k)
    (hrelease : s.punch.lineRelease = .none) {es : List Entry} (hes : ∀ e ∈ es, e.stream = some k)
    (hpunch : t.punch = s.punch) (hcells : t.store.punch.cells = s.store.punch.cells ++ es) : t.OneOwner where
  unowned hnone := by simp [hpunch, howner] at hnone
  streams e he := by
    rw [hcells, List.mem_append] at he
    rw [hpunch]
    exact he.elim (h.streams e) fun hnew => (hes e hnew).trans howner.symm
  leader := by rw [hpunch]; exact h.leader
  lineRelease := by rw [hpunch]; exact h.lineRelease
  trailer n hn := by simp [hpunch, hrelease] at hn
  localRelease := by rw [hpunch]; exact h.localRelease
  submittedRelease := by rw [hpunch]; exact h.submittedRelease
  clearRelease := by rw [hpunch]; exact h.clearRelease
  feedRequest := by rw [hpunch]; exact h.feedRequest
  feedHeld := by rw [hpunch]; exact h.feedHeld
  committed hc := by
    rw [hpunch] at hc
    simp [hcells, h.committed hc]

/-- R3, R134: a cell under a stream that the owner admits. -/
theorem State.appendPunch_keepsOwner {k : Stream} (hadmits : s.ownerAdmits k = true) (c : Cell) :
    s.KeepsOwner (s.appendPunch k c) := by
  intro h
  have hclaimed := s.claimPunch_keepsOwner k h
  have howner := State.claimPunch_owner hadmits
  obtain ⟨es, hes, hcells⟩ := (s.claimPunch k).store.append_punch_cells { cell := c, stream := some k }
  unfold State.appendPunch
  rw [State.lineCellPlaced_eq]
  by_cases hk : k = .line
  · exact (hclaimed.withLineRelease (w := .none) (absurd rfl) nofun).grow howner rfl (fun e he => by rw [hes e he])
      (by simp [hk]) hcells
  · exact hclaimed.grow howner (hclaimed.no_lineRelease (by simp [howner, hk])) (fun e he => by rw [hes e he])
      (by simp [hk]) hcells

end Owner

/-! ## The releases and the choice -/

section Choices
variable (s : State)

theorem State.startTrailer_keepsOwner : s.KeepsOwner s.startTrailer := by
  unfold State.startTrailer
  split
  · next hdone =>
    obtain ⟨hdue, hquiet, hleader⟩ := hdone
    obtain ⟨hcells, -, -⟩ := State.punchQuiet_iff.mp hquiet
    exact fun h => h.withLineRelease (fun _ => h.lineRelease (by simp [hdue])) fun _ _ => ⟨hcells, hleader⟩
  · exact .refl s

/-- A release is due only with nothing left to do. -/
theorem State.OneOwner.nothingLeft_of_releaseDue {s : State} (h : s.OneOwner) (hdue : s.releaseDue = true) :
    s.NothingLeft := by
  rcases State.releaseDue_iff.mp hdue with ⟨-, htrailer, -⟩ | ⟨howner, -, hrest⟩ | ⟨howner, -, hrest⟩
  · exact h.nothingLeft_of_trailer htrailer
  · exact h.nothingLeft_of_atRest (by simp [howner]) hrest
  · exact h.nothingLeft_of_atRest (by simp [howner]) hrest

theorem State.testReleases_keepsOwner : s.KeepsOwner s.testReleases := by
  refine s.startTrailer_keepsOwner.trans fun h => ?_
  unfold State.testReleases
  dsimp only
  split
  · next hdue => exact (h.nothingLeft_of_releaseDue hdue).releasePunch
  · exact h

/-- R140: a commitment to the head cell, or its own cycle, which takes it from PUNCH. -/
theorem State.punchCell_keepsOwner {e : Entry} {rest : List Entry} (hcells : s.store.punch.cells = e :: rest) :
    s.KeepsOwner (s.punchCell e) := by
  intro h
  have hnonempty : s.store.punch.cells ≠ [] := by simp [hcells]
  have hrest : (s.store.removeHead .punch).2.punch.cells = rest := Store.removeHead_punch_cells hcells
  unfold State.punchCell
  split
  · exact { h with committed := fun _ => hnonempty }
  · exact { h with
      unowned := fun hnone => absurd (h.unowned hnone) hnonempty
      streams := fun x hx => h.streams x (by rw [hcells]; exact List.mem_cons_of_mem e (hrest ▸ hx))
      trailer := fun n hn => absurd (h.trailer n hn).1 hnonempty
      feedRequest := fun hf => h.feedRequest (by simpa [State.takePunchHead, State.startPunchCycle] using hf)
      committed := nofun }

theorem State.punchChoiceItem_keepsOwner : s.KeepsOwner s.punchChoiceItem := by
  unfold State.punchChoiceItem
  split
  · next hcells => exact s.punchCell_keepsOwner hcells
  split
  · next hleader =>
    exact fun h => { h with
      leader := fun _ => h.leader (by omega)
      trailer := fun n hn => absurd (h.trailer n hn).2 (by omega) }
  split
  · refine fun h => { h with feedRequest := fun hf => h.feedRequest ?_ }
    obtain ⟨r, hr⟩ := Option.isSome_iff_exists.mp hf
    obtain ⟨q, hq, -⟩ := Option.bind_eq_some_iff.mp hr
    simp [hq]
  split
  · next hcells => exact s.punchCell_keepsOwner hcells
  split
  · exact .still rfl
  split
  · next htrailer =>
    obtain ⟨n, hn⟩ := LineRelease.trailerLeft_pos_iff.mp htrailer
    exact fun h => (h.withLineRelease (fun _ => h.lineRelease (by simp [hn])) fun _ _ => h.trailer _ hn).congr rfl
  · exact .refl s

theorem State.punchChoice_keepsOwner : s.KeepsOwner s.punchChoice := by
  rcases s.punchChoice_cases with h | ⟨-, -, -, h⟩ <;> rw [h]
  · exact .refl s
  · exact s.punchChoiceItem_keepsOwner

/-! ## The choices that are not the punch's -/

theorem State.printCell_punchWork (n : PrintSpool) (c : Cell) : (s.printCell n c).punchWork = s.punchWork := by
  rw [State.printCell_eq]
  dsimp only [State.punchWork_eq]
  split <;> simp

theorem State.printFrom_punchWork (n : PrintSpool) : (s.printFrom n).punchWork = s.punchWork := by
  unfold State.printFrom
  split
  · exact s.printCell_punchWork n _
  · rfl

theorem State.printChoice_punchWork : s.printChoice.punchWork = s.punchWork := by
  rcases s.printChoice_cases with h | ⟨-, h, -⟩ <;> rw [h]
  rcases s.printChoiceItem_cases with h | ⟨n, h⟩ | h | h | h <;> rw [h]
  · exact s.printFrom_punchWork n
  · unfold State.newlineItem
    split <;> rfl
  · unfold State.grantItem
    split
    · exact State.printFrom_punchWork _ _
    · rfl
  · rfl

theorem State.sendChoice_punchWork : s.sendChoice.punchWork = s.punchWork := by
  have hcells : s.sendChoice.store.punch = s.store.punch := s.sendChoice_takesUp.store.kept .punch (by simp)
  have hpunch : s.sendChoice.punch = s.punch := by
    unfold State.sendChoice
    split
    · obtain ⟨l, st, heq⟩ := s.sendItem_eq
      rw [heq]
    · rfl
  simp [hcells, hpunch]

theorem State.chosen_keepsOwner : s.KeepsOwner s.chosen := by
  have hplaced : s.KeepsOwner s.testReleases.reviewHoldWait.reviewWithdrawn.placeDemands :=
    s.testReleases_keepsOwner.keeping (by simp)
  have hprinted := hplaced.keeping (State.ownership_of_punchWork (State.printChoice_punchWork _))
  exact hprinted.trans (State.punchChoice_keepsOwner _)

/-- R137: what the release timer is set to. -/
theorem State.runReleaseTimer_timerAtRest : s.runReleaseTimer.TimerAtRest := by
  unfold State.runReleaseTimer
  split
  · next h => split <;> exact fun _ => h
  · exact nofun

theorem State.runReleaseTimer_ownership : s.runReleaseTimer.ownership = s.ownership := by
  unfold State.runReleaseTimer
  split
  · split <;> rfl
  · rfl

/-- After the choices one owner is the whole invariant. -/
theorem State.OneOwner.carryOn {s : State} (h : s.OneOwner) : s.carryOn.PunchOwned := by
  rw [State.carryOn_eq]
  refine State.PunchOwned.congr (State.punchOwned_iff.mpr ⟨?_, State.runReleaseTimer_timerAtRest _⟩)
    (State.sendChoice_punchWork _)
  exact (s.chosen_keepsOwner h).congr ((State.runReleaseTimer_ownership _).trans (by simp))

/-- What keeps one owner, followed by the choices. -/
theorem State.KeepsOwner.carryOn {s t : State} (h : s.KeepsOwner t) : s.KeepsPunch t.carryOn :=
  fun hs => (h (State.punchOwned_iff.mp hs).1).carryOn

/-- The choices after what leaves the punch and its spool. -/
theorem State.KeepsPunch.carryOn_still {s t : State} (h : t.punchWork = s.punchWork) : s.KeepsPunch t.carryOn :=
  (State.KeepsOwner.still (State.ownership_of_punchWork h)).carryOn

end Choices

end Sys2Proof.Machine
end

section
/-! SUPPORT. The operations of the punch, the routes, the calls and the keyboard keep one owner (R134 to R145, R158). -/

namespace Sys2Proof.Machine

variable (s : State)

/-! ## The punch's own operations -/

/-- R141: the held feed is dropped. -/
theorem State.OneOwner.withoutFeedHeld {s : State} (h : s.OneOwner) :
    ({ s with punch := { s.punch with feedHeld := false } } : State).OneOwner := { h with feedHeld := nofun }

theorem State.dropFeedHeld_keepsOwner : s.KeepsOwner s.dropFeedHeld := by
  unfold State.dropFeedHeld
  split
  · exact .refl s
  · exact State.OneOwner.withoutFeedHeld

theorem State.setSwitch_keepsOwner (on : Bool) : s.KeepsOwner (s.setSwitch on) := by
  unfold State.setSwitch
  exact (State.dropFeedHeld_keepsOwner _).after (by simp)

theorem State.tapeGone_keepsPunch : s.KeepsPunch s.tapeGone := by
  unfold State.tapeGone
  exact ((State.dropFeedHeld_keepsOwner _).after (by simp)).carryOn

/-- After the held feed is dropped the end of a cycle only sets the fault, and reports (R142, R143, R170). -/
theorem State.finishPunchCycle_ownership (c : PunchCycle) (fault : Bool) {v : State}
    (hv : v = State.dropFeedHeld { s with punch := { s.punch with
      cycle := none, tapeCase := c.tapeCaseAfter s.punch.tapeCase, fault := s.punch.fault || fault } }) :
    (s.finishPunchCycle c fault).ownership = v.ownership := by
  rw [State.finishPunchCycle_eq s c fault hv rfl, State.ownership_eq, State.noticeTapeOut_punch,
    State.noticeTapeOut_store]
  split <;> split <;> rfl

theorem State.finishPunchCycle_keepsOwner (c : PunchCycle) (fault : Bool) :
    s.KeepsOwner (s.finishPunchCycle c fault) := by
  refine State.KeepsOwner.keeping ?_ (s.finishPunchCycle_ownership c fault rfl)
  exact (State.dropFeedHeld_keepsOwner _).after rfl

/-- R145, R170: a punch reset with its spool empty is as at power-on. -/
theorem State.OneOwner.of_reset {s : State}
    (h : s.ownership = (none, 0, .none, false, false, false, none, false, false, [])) : s.OneOwner :=
  (State.punchOwned_iff.mp State.reset_punchOwned).1.congr h

theorem State.resetPunch_keepsOwner : s.KeepsOwner s.resetPunch := fun _ => by
  unfold State.resetPunch
  exact .of_reset (by simp [Punch.resetSteps])

theorem State.requestFeed_keepsOwner {s : State} (hadmits : s.ownerAdmits .submitted = true) (blanks : Nat) :
    s.KeepsOwner (s.requestFeed blanks) := fun h =>
  { s.claimPunch_keepsOwner .submitted h with feedRequest := fun _ => State.claimPunch_owner hadmits }

theorem State.pressFeed_keepsOwner : s.KeepsOwner s.pressFeed := by
  unfold State.pressFeed
  split
  · next h =>
    simp only [Bool.and_eq_true] at h
    exact fun hs => { s.claimPunch_keepsOwner .loc hs with feedHeld := fun _ => State.claimPunch_owner h.2 }
  · exact .still (by simp)

theorem State.startFilter_keepsOwner (input : InputPin) (asserted : Bool) :
    s.KeepsOwner (s.startFilter input asserted) := by
  unfold State.startFilter
  cases input <;> exact .still rfl

/-- R11, R145: a cleared PUNCH drops the commitment, and marks the release of an owner with a feed to drop. -/
theorem State.OneOwner.dropPunchWork {s t : State} (h : s.OneOwner) (hpunch : t.punch = s.punch)
    (hcells : t.store.punch.cells = []) : t.dropPunchWork.OneOwner := by
  have hemptied : ({ t with punch := { t.punch with committed := false } } : State).OneOwner := by
    rw [hpunch]
    exact { h with
      unowned := fun _ => hcells
      streams := by simp [hcells]
      trailer := fun n hn => ⟨hcells, (h.trailer n hn).2⟩
      committed := nofun }
  unfold State.dropPunchWork
  dsimp only
  split
  · next howner => exact { hemptied with feedRequest := nofun, feedHeld := nofun, clearRelease := fun _ => howner }
  · exact hemptied

/-! ## The Message File and the Route Table -/

@[simp] theorem State.offerFile_punch (c : Cell) : (s.offerFile c).1.punch = s.punch := by
  unfold State.offerFile State.fileInto State.openMessage State.closeIfFull State.closeMessage
  dsimp only
  repeat' split
  all_goals simp [State.fileFullNotice]

@[simp] theorem State.offerFile_punchSpool (c : Cell) : (s.offerFile c).1.store.punch = s.store.punch := by
  unfold State.offerFile State.fileInto State.openMessage
  repeat' split
  all_goals simp [State.fileFullNotice]

@[simp] theorem State.endFiling_punchWork (cause : FilingCause) : (s.endFiling cause).punchWork = s.punchWork := by
  unfold State.endFiling State.closeMessage
  dsimp only
  split <;> simp

@[simp] theorem State.advanceReplay_punchWork (r : Replay) (total : Nat) :
    (s.advanceReplay r total).punchWork = s.punchWork := by
  unfold State.advanceReplay
  split <;> simp

/-- R106: the copy of a replay takes the owner SUBMITTED on the punch. -/
theorem State.replayCell_keepsOwner {t : ReplayTarget} (htakes : s.replayTakes t = true) (c : Cell) :
    s.KeepsOwner (s.replayCell t c) := by
  cases t with
  | print => exact .still (by simp [State.replayCell])
  | punch =>
    simp only [State.replayTakes, Bool.and_eq_true] at htakes
    exact State.appendPunch_keepsOwner htakes.1.2 c

/-- R25: a punch copy is placed only where the owner admits its stream. -/
theorem State.tryPlace_keepsOwner (n : RouteName) (p : Place) (c : Cell) : s.KeepsOwner (s.tryPlace n p c).1 := by
  cases p with
  | print =>
    change s.KeepsOwner (s.tryPrint n c).1
    unfold State.tryPrint
    split
    · exact .refl s
    split
    · exact .refl s
    split
    · exact .refl s
    · exact .still (by simp)
  | punch =>
    change s.KeepsOwner (s.tryPunch n c).1
    unfold State.tryPunch
    split
    · exact .refl s
    split
    · exact .refl s
    · next hadmits =>
      split
      · exact .refl s
      · exact State.appendPunch_keepsOwner (by simpa using hadmits) c
  | file => exact .still (by simp [State.tryPlace])

theorem Delivery.tryStandIn_keepsOwner (d : Delivery) (n : RouteName) (r : Route) (p : Place) (c : Cell) :
    d.state.KeepsOwner (d.tryStandIn n r p c).state := by
  unfold Delivery.tryStandIn
  split
  · exact .refl _
  · dsimp only
    split <;> exact d.state.tryPlace_keepsOwner n _ c

theorem Delivery.deliverTo_keepsOwner (n : RouteName) (r : Route) (c : Cell) (d : Delivery) (p : Place) :
    d.state.KeepsOwner (Delivery.deliverTo n r c d p).state := by
  unfold Delivery.deliverTo
  split
  · dsimp only
    split
    · exact d.state.tryPlace_keepsOwner n p c
    · exact (d.state.tryPlace_keepsOwner n p c).trans ((Delivery.tryStandIn_keepsOwner _ n r p c).after rfl)
  · exact .refl _

/-- One place after another (R28). -/
theorem Delivery.foldl_deliverTo_keepsOwner (n : RouteName) (r : Route) (c : Cell) (places : List Place)
    (d : Delivery) : d.state.KeepsOwner (places.foldl (Delivery.deliverTo n r c) d).state := by
  induction places generalizing d with
  | nil => exact .refl _
  | cons p places ih => exact (Delivery.deliverTo_keepsOwner n r c d p).trans (ih _)

theorem State.deliver_keepsOwner (n : RouteName) (c : Cell) : s.KeepsOwner (s.deliver n c).state := by
  unfold State.deliver
  dsimp only
  split
  · exact .refl s
  · exact Delivery.foldl_deliverTo_keepsOwner n _ c [.print, .punch, .file]
      { state := s, placed := 0, lost := 0, tried := [], loss := none }

theorem State.present_keepsOwner (n : RouteName) (c : Cell) : s.KeepsOwner (s.present n c).1 := by
  unfold State.present
  exact (s.deliver_keepsOwner n c).keeping (by simp)

/-! ## Calls and the Line Receiver -/

@[simp] theorem State.reportLoss_punchWork (loss : Option (SpaceTarget × SpaceReason)) :
    (s.reportLoss loss).punchWork = s.punchWork := by
  unfold State.reportLoss
  split
  · dsimp only
    split <;> rfl
  · rfl
  · rfl

@[simp] theorem State.tellDelivered_punchWork (cell : Cell) (enquiry : Bool) :
    (s.tellDelivered cell enquiry).punchWork = s.punchWork := by
  unfold State.tellDelivered State.takeEnquiry
  dsimp only
  repeat' split
  all_goals simp

@[simp] theorem State.recordDelivery_punchWork (k : Quality) : (s.recordDelivery k).punchWork = s.punchWork := by
  unfold State.recordDelivery State.poorCharacter
  dsimp only
  repeat' split
  all_goals simp

/-- R136: a MARKED release becomes DUE. -/
theorem State.lineReleaseDue_keepsOwner : s.KeepsOwner s.lineReleaseDue := by
  unfold State.lineReleaseDue
  split
  · next hmarked => exact fun h => h.withLineRelease (fun _ => h.lineRelease (by simp [hmarked])) nofun
  · exact .refl s

/-- R136: the release of a LINE owner becomes MARKED. -/
theorem State.markLineRelease_keepsOwner : s.KeepsOwner s.markLineRelease := by
  unfold State.markLineRelease
  split
  · next howner => exact fun h => h.withLineRelease (fun _ => howner) nofun
  · exact .refl s

theorem State.endClearing_keepsOwner : s.KeepsOwner s.endClearing := by
  unfold State.endClearing
  split <;> exact (State.lineReleaseDue_keepsOwner _).after rfl

theorem State.leaveLine_punchWork (cause : CallOutcome) : (s.leaveLine cause).punchWork = s.punchWork := by
  rw [State.leaveLine_eq]
  rfl

theorem State.beginClearing_keepsOwner (cause : CallOutcome) : s.KeepsOwner (s.beginClearing cause) := by
  have hfiled : ((s.leaveLine cause).endFiling .clear).punchWork = s.punchWork :=
    (State.endFiling_punchWork _ _).trans (s.leaveLine_punchWork cause)
  have hmarked : s.KeepsOwner ((s.leaveLine cause).endFiling .clear).markLineRelease :=
    (State.markLineRelease_keepsOwner _).after (State.ownership_of_punchWork hfiled)
  exact hmarked.keeping rfl

theorem State.enterClearing_keepsOwner (cause : CallOutcome) : s.KeepsOwner (s.enterClearing cause) := by
  rw [State.enterClearing_eq]
  split
  · exact (s.beginClearing_keepsOwner cause).trans (State.endClearing_keepsOwner _)
  · exact s.beginClearing_keepsOwner cause

theorem State.takeClear_keepsOwner : s.KeepsOwner s.takeClear := by
  unfold State.takeClear
  split
  · exact s.enterClearing_keepsOwner .farEnd
  · exact .refl s

theorem State.handOn_keepsOwner (c : Cell) (enquiry : Bool) : s.KeepsOwner (s.handOn c enquiry) := by
  unfold State.handOn
  refine (s.present_keepsOwner .received c).keeping (State.ownership_of_punchWork ?_)
  exact (State.tellDelivered_punchWork _ _ _).trans (State.reportLoss_punchWork _ _)

theorem State.deliverReceived_keepsOwner (code : Code) (k : Quality) : s.KeepsOwner (s.deliverReceived code k) := by
  have hrecorded : ((s.recordDelivery k).receiveCase code).punchWork = s.punchWork := s.recordDelivery_punchWork k
  exact (State.handOn_keepsOwner _ _ _).after (State.ownership_of_punchWork hrecorded)

theorem State.deliverSubstituted_keepsOwner : s.KeepsOwner s.deliverSubstituted :=
  (State.handOn_keepsOwner _ _ _).after (State.ownership_of_punchWork (s.recordDelivery_punchWork .substituted))

theorem State.reachBreak_punchWork (r : SpaceRun) : (s.reachBreak r).punchWork = s.punchWork := by
  unfold State.reachBreak State.discardPending State.poorCharacter
  dsimp only
  repeat' split
  all_goals simp

theorem State.ensureBreak_punchWork (r : SpaceRun) : (s.ensureBreak r).punchWork = s.punchWork := by
  unfold State.ensureBreak
  split
  · rfl
  · exact s.reachBreak_punchWork r

theorem State.markInRun_keepsOwner (r : SpaceRun) (te : Nat) : s.KeepsOwner (s.markInRun r te) := by
  have hbreak := State.ownership_of_punchWork (s.ensureBreak_punchWork r)
  unfold State.markInRun
  dsimp only
  split
  · split
    · exact (State.deliverSubstituted_keepsOwner _).after (by simp)
    · exact .still (by simp)
  · split
    · exact (State.takeClear_keepsOwner _).after hbreak
    · exact .still ((by simp : _ = (s.ensureBreak r).ownership).trans hbreak)

theorem State.startEdge_punchWork (te : Nat) : (s.startEdge te).punchWork = s.punchWork := by
  unfold State.startEdge
  dsimp only
  split <;> simp

theorem State.receiverChange_keepsOwner (level : Level) (te : Nat) : s.KeepsOwner (s.receiverChange level te) := by
  unfold State.receiverChange
  split
  · exact .refl s
  · split
    · exact .still (State.ownership_of_punchWork (s.startEdge_punchWork te))
    · exact .refl s
  · exact .still (by simp)
  · split
    · exact s.markInRun_keepsOwner _ te
    · exact .refl s

theorem State.callLevelChange_punchWork (level : Level) (te : Nat) :
    (s.callLevelChange level te).punchWork = s.punchWork := by
  unfold State.callLevelChange
  split <;> rfl

theorem State.tryConnect_punchWork : s.tryConnect.punchWork = s.punchWork := by
  unfold State.tryConnect State.enterConnected
  split <;> simp

theorem State.enterAnswering_punchWork : s.enterAnswering.punchWork = s.punchWork := by
  unfold State.enterAnswering
  exact (State.tryConnect_punchWork _).trans (by simp)

theorem State.enterCalling_punchWork : s.enterCalling.punchWork = s.punchWork := by
  unfold State.enterCalling
  exact (State.tryConnect_punchWork _).trans (by simp)

theorem State.recognise_punchWork : s.recognise.punchWork = s.punchWork := by
  unfold State.recognise
  split
  · exact (State.enterAnswering_punchWork _).trans (by simp)
  · rfl
  · rfl

/-! ## The keyboard and the spools -/

/-- R158: a change of the mode sets and clears the release of a LOCAL owner, and may drop its feed. -/
theorem State.modeEffects_keepsOwner (before after : KeyboardMode) : s.KeepsOwner (s.modeEffects before after) := by
  have hopened : s.KeepsOwner (if after = .loc then
      { s.rearm .keyedLocal with punch := { s.punch with localRelease := false } } else s) := by
    split
    · exact fun h => { h with localRelease := nofun }
    · exact .refl s
  have hclosed : ∀ t : State, t.KeepsOwner (if before = .loc ∧ t.punch.owner = some .loc then
      { t with punch := { t.punch with localRelease := true } } else t) := by
    intro t
    split
    · next howner => exact fun h => { h with localRelease := fun _ => howner.2 }
    · exact .refl t
  have hdropped : ∀ t : State, t.KeepsOwner
      (if (before = .loc ∨ before = .line) ∧ (after = .raw ∨ after = .locked) then
        { t with punch := { t.punch with feedHeld := false } } else t) := by
    intro t
    split
    · exact State.OneOwner.withoutFeedHeld
    · exact .refl t
  unfold State.modeEffects
  split
  · exact .refl s
  · exact (hopened.trans (hclosed _)).trans (hdropped _)

theorem State.changeMode_keepsOwner (mode : KeyboardMode) : s.KeepsOwner (s.changeMode mode) := by
  unfold State.changeMode
  exact (s.modeEffects_keepsOwner _ mode).keeping rfl

theorem State.handOverKeyboard_keepsOwner (before : KeyboardMode) : s.KeepsOwner (s.handOverKeyboard before) := by
  unfold State.handOverKeyboard
  exact (s.modeEffects_keepsOwner before _).keeping rfl

theorem State.keyToLocal_keepsOwner (cell : Cell) : s.KeepsOwner (s.keyToLocal cell) := by
  unfold State.keyToLocal
  dsimp only
  split <;> exact (s.present_keepsOwner .keyedLocal cell).keeping (by simp)

theorem State.keyToSend_punchWork (cell : Cell) : (s.keyToSend cell).punchWork = s.punchWork := by
  unfold State.keyToSend
  split <;> simp

theorem State.pressCode_keepsOwner (c : Code) (requirement : Option Case) :
    s.KeepsOwner (s.pressCode c requirement) := by
  unfold State.pressCode
  dsimp only
  split
  · exact .still (State.ownership_of_punchWork (s.keyToSend_punchWork _))
  · exact s.keyToLocal_keepsOwner _

/-- A batch into another spool leaves PUNCH (R7). -/
theorem Store.batch_punch {st st' : Store} {n : SpoolName} (h : n ≠ .punch) {es : List Entry}
    (hbatch : st.batch n es = .ok st') : st'.punch = st.punch := by
  rcases st.batch_cases n es with ⟨-, heq⟩ | ⟨-, heq⟩ <;> rw [heq] at hbatch
  · cases hbatch
    exact st.appendAll_punch h es
  · cases hbatch

/-- A batch into PUNCH puts its cells last (R7). -/
theorem Store.batch_punch_cells {st st' : Store} {es : List Entry} (hbatch : st.batch .punch es = .ok st') :
    ∃ es', es' ⊆ es ∧ st'.punch.cells = st.punch.cells ++ es' := by
  rcases st.batch_cases .punch es with ⟨-, heq⟩ | ⟨-, heq⟩ <;> rw [heq] at hbatch
  · cases hbatch
    exact Store.appendAll_punch_cells es st
  · cases hbatch

theorem State.pressHereIs_punchWork : s.pressHereIs.punchWork = s.punchWork := by
  unfold State.pressHereIs
  split
  · simp
  split
  · simp
  split
  · next hbatch => simp [Store.batch_punch (by decide) hbatch]
  · simp

theorem State.pressKey_keepsOwner (entry : KeyEntry) : s.KeepsOwner (s.pressKey entry) := by
  unfold State.pressKey
  split
  · exact .refl s
  · exact s.pressCode_keepsOwner _ _
  · exact .still (State.ownership_of_punchWork s.pressHereIs_punchWork)
  · unfold State.pressBreak
    split <;> exact .still (by simp)
  · unfold State.pressMode
    split
    · exact s.changeMode_keepsOwner .line
    · exact s.changeMode_keepsOwner .loc
    · exact .refl s
  · exact s.pressFeed_keepsOwner

/-- R66, R134: text submitted to PUNCH claims it for SUBMITTED, once it is not refused. -/
theorem State.submitCells_keepsPunch {t : SubmitTarget} (htaken : s.submitRefusal t = none) (cells : List Cell) :
    s.KeepsPunch (s.submitCells t cells) := by
  unfold State.submitCells
  dsimp only
  split
  · exact .still rfl
  · next st hbatch =>
    have hplaced : s.KeepsOwner { s.claimFor t with store := st } := by
      cases t with
      | send => exact .still (by simp [State.claimFor, Store.batch_punch (by decide) hbatch])
      | print => exact .still (by simp [State.claimFor, Store.batch_punch (by decide) hbatch])
      | punch =>
        have hadmits : s.ownerAdmits .submitted = true := by
          simpa [State.submitRefusal] using htaken
        obtain ⟨es, hes, hcells⟩ := Store.batch_punch_cells hbatch
        have howner := State.claimPunch_owner hadmits
        intro h
        have hclaimed := s.claimPunch_keepsOwner .submitted h
        refine hclaimed.grow howner (hclaimed.no_lineRelease (by simp [howner])) (es := es) (fun e he => ?_) rfl ?_
        · obtain ⟨c, -, rfl⟩ := List.mem_map.mp (hes he)
          rfl
        · simpa using hcells
    exact (hplaced.keeping (by simp)).carryOn

end Sys2Proof.Machine
end

section
/-! SUPPORT. The rows of the line, the mechanisms and the keyboard keep the punch with one owner: an operation that does,
followed by the choices, or one that leaves the punch and its spool. -/

namespace Sys2Proof.Machine

variable (s : State)

/-! ## The rows of the line and of the call timers -/

/-- What a timer does on its expiry (log 1). -/
theorem State.onTimer_keepsPunch {timer : Option Nat} {act : State → State}
    (hact : ∀ t : State, t.KeepsPunch (act t)) : s.KeepsPunch (s.onTimer timer act) := by
  unfold State.onTimer
  split
  · exact (hact _).after (by simp)
  · exact .refl s

/-- What a sample does in its place (R41). -/
theorem State.atSample_keepsPunch {act : State → Assembly → State} (k : Nat)
    (hact : ∀ (t : State) a, t.KeepsPunch (act t a)) : s.KeepsPunch (s.atSample k act) := by
  unfold State.atSample
  split
  · split
    · exact (hact _ _).after (by simp)
    · exact .refl s
  · exact .refl s

theorem rxFilteredChange_keepsPunch (level : Level) (te : Nat) : s.KeepsPunch (rxFilteredChange level te s) := by
  unfold rxFilteredChange
  split
  · exact .refl s
  · have hcall : ((s.confirmLevel level te).callLevelChange level te).punchWork = s.punchWork :=
      (State.callLevelChange_punchWork _ level te).trans (by simp)
    exact ((State.receiverChange_keepsOwner _ level te).after (State.ownership_of_punchWork hcall)).carryOn

theorem startSample_keepsPunch : s.KeepsPunch (startSample s) :=
  s.atSample_keepsPunch 0 fun t a => by
    unfold State.readStart
    split
    · exact .carryOn_still (by simp)
    · exact .still (by simp)

theorem unitSample_keepsPunch : s.KeepsPunch (unitSample s) := by
  unfold unitSample
  split
  · split
    · exact s.atSample_keepsPunch _ fun t a => .still rfl
    · exact .refl s
  · exact .refl s

theorem stopSample_keepsPunch : s.KeepsPunch (stopSample s) :=
  s.atSample_keepsPunch 6 fun t a => by
    unfold State.readStop State.recordDistortion
    dsimp only
    split
    · exact ((State.deliverReceived_keepsOwner _ _ _).after (by simp)).carryOn
    · exact .still (by simp)

theorem breakThreshold_keepsPunch : s.KeepsPunch (breakThreshold s) := by
  unfold breakThreshold
  split
  · split
    · exact .refl s
    · exact .carryOn_still ((State.reachBreak_punchWork _ _).trans (by simp))
  · exact .refl s

theorem clearThreshold_keepsPunch : s.KeepsPunch (clearThreshold s) := by
  unfold clearThreshold
  split
  · next r _ =>
    have hbreak : ((s.advance (r.clearAt + 2)).ensureBreak r).punchWork = s.punchWork :=
      (State.ensureBreak_punchWork _ r).trans (by simp)
    exact ((State.takeClear_keepsOwner _).after (State.ownership_of_punchWork hbreak)).carryOn
  · exact .refl s

theorem turnaroundGuardExpiry_keepsPunch : s.KeepsPunch (turnaroundGuardExpiry s) :=
  s.onTimer_keepsPunch fun _ => .still ((State.sendChoice_punchWork _).trans (by simp))

theorem characterSent_keepsPunch : s.KeepsPunch (characterSent s) := by
  unfold characterSent
  split
  · next k _ =>
    have hsent : s.KeepsOwner (((s.advance k.due).keyingDone k).present .sentCopy k.cell).1 :=
      (State.present_keepsOwner _ _ _).after (by simp)
    unfold State.characterEnds
    dsimp only
    split <;> exact (hsent.keeping (by simp)).carryOn
  · exact .refl s

theorem breakKeyingEnd_keepsPunch : s.KeepsPunch (breakKeyingEnd s) := by
  unfold breakKeyingEnd
  split
  · exact .still ((State.sendChoice_punchWork _).trans (by simp))
  · exact .refl s

theorem callRecognition_keepsPunch : s.KeepsPunch (callRecognition s) :=
  s.onTimer_keepsPunch fun t => .carryOn_still t.recognise_punchWork

theorem withdrawal_keepsPunch : s.KeepsPunch (withdrawal s) :=
  s.onTimer_keepsPunch fun t => .carryOn_still (by
    unfold State.withdrawn
    split <;> rfl)

theorem offerTimeout_keepsPunch : s.KeepsPunch (offerTimeout s) :=
  s.onTimer_keepsPunch fun t => .carryOn_still (by
    split
    · exact t.enterAnswering_punchWork
    · rfl)

theorem confirmation_keepsPunch : s.KeepsPunch (confirmation s) :=
  s.onTimer_keepsPunch fun t => .carryOn_still t.tryConnect_punchWork

theorem confirmTimeout_keepsPunch : s.KeepsPunch (confirmTimeout s) :=
  s.onTimer_keepsPunch fun _ => .carryOn_still rfl

theorem idleTimeout_keepsPunch : s.KeepsPunch (idleTimeout s) :=
  s.onTimer_keepsPunch fun t => (t.enterClearing_keepsOwner .idle).carryOn

theorem enquiryDelayExpiry_keepsPunch : s.KeepsPunch (enquiryDelayExpiry s) :=
  s.onTimer_keepsPunch fun _ => .still ((State.sendChoice_punchWork _).trans (by simp))

theorem captureWindowExpiry_keepsPunch : s.KeepsPunch (captureWindowExpiry s) := by
  unfold captureWindowExpiry
  split <;> exact .still rfl

theorem clearingEnd_keepsPunch : s.KeepsPunch (clearingEnd s) :=
  s.onTimer_keepsPunch fun t => t.endClearing_keepsOwner.carryOn

theorem clearingTimeout_keepsPunch : s.KeepsPunch (clearingTimeout s) :=
  s.onTimer_keepsPunch fun t => t.endClearing_keepsOwner.carryOn

theorem releasingEnd_keepsPunch : s.KeepsPunch (releasingEnd s) :=
  s.onTimer_keepsPunch fun t => .carryOn_still (by
    rw [State.endReleasing_eq]
    split <;> rfl)

theorem runUpExpiry_keepsPunch : s.KeepsPunch (runUpExpiry s) := by
  unfold runUpExpiry
  split
  · dsimp only
    split
    · exact .still rfl
    · exact .carryOn_still ((State.tryConnect_punchWork _).trans (by simp))
  · exact .refl s

theorem runOnExpiry_keepsPunch : s.KeepsPunch (runOnExpiry s) := by
  unfold runOnExpiry
  split <;> exact .still rfl

/-! ## The rows of the mechanisms -/

theorem selectEnd_keepsPunch : s.KeepsPunch (selectEnd s) := by
  unfold selectEnd State.beginStrike
  dsimp only
  repeat' split
  all_goals exact .still (by simp)

theorem strikeEnd_keepsPunch : s.KeepsPunch (strikeEnd s) := by
  unfold strikeEnd
  repeat' split
  all_goals exact .still rfl

/-- The release timer never runs during a cycle (R137), so a cycle may change its phase. -/
theorem State.PunchOwned.punchPhase {s : State} (h : s.PunchOwned) {c : PunchCycle} (hc : s.punch.cycle = some c)
    (p : PunchPhase) : (s.punchPhase c p).PunchOwned := by
  obtain ⟨howner, htimer⟩ := State.punchOwned_iff.mp h
  refine State.punchOwned_iff.mpr ⟨howner.congr rfl, fun hrun => ?_⟩
  obtain ⟨hquiet, -⟩ := State.punchAtRest_iff.mp (htimer hrun).2
  obtain ⟨-, hnone, -⟩ := State.punchQuiet_iff.mp hquiet
  simp [hc] at hnone

theorem punchPulseEnd_keepsPunch : s.KeepsPunch (punchPulseEnd s) := by
  unfold punchPulseEnd
  split
  · next c hc =>
    split
    · exact fun h => State.PunchOwned.punchPhase (s := s.advance _) (h.congr rfl) hc _
    · exact .refl s
  · exact .refl s

theorem feedPulseEnd_keepsPunch : s.KeepsPunch (feedPulseEnd s) := by
  unfold feedPulseEnd
  split
  · next c hc =>
    split
    · exact fun h => (State.PunchOwned.punchPhase (h.congr rfl) hc .settle).congr rfl
    · exact .refl s
  · exact .refl s

@[simp] theorem State.finishPrintCycle_punchWork (c : PrintCycle) (fault : Bool) :
    (s.finishPrintCycle c fault).punchWork = s.punchWork := by
  unfold State.finishPrintCycle
  dsimp only
  repeat' split
  all_goals simp

theorem State.report_keepsPunch (m : Mechanism) (fault : Bool) : s.KeepsPunch (s.report m fault) := by
  unfold State.report
  cases m with
  | printer =>
    dsimp only
    split
    · exact .carryOn_still (s.finishPrintCycle_punchWork _ fault)
    · exact .refl s
  | punch =>
    dsimp only
    split
    · exact (s.finishPunchCycle_keepsOwner _ fault).carryOn
    · exact .refl s

theorem State.endSettle_keepsPunch (m : Mechanism) (elapsed : Nat) (fault : Bool) :
    s.KeepsPunch (s.endSettle m elapsed fault) := (State.report_keepsPunch _ m fault).after (by simp)

theorem settleFixedEnd_keepsPunch (m : Mechanism) : s.KeepsPunch (settleFixedEnd m s) := by
  unfold settleFixedEnd
  dsimp only
  split
  · exact s.endSettle_keepsPunch _ _ _
  · exact .refl s

theorem settleSampledReading_keepsPunch (m : Mechanism) (busy : Bool) :
    s.KeepsPunch (settleSampledReading m busy s) := by
  unfold settleSampledReading
  dsimp only
  split
  · split
    · exact .still (by simp)
    · exact s.endSettle_keepsPunch _ _ _
  · exact .refl s

theorem settleAddEnd_keepsPunch (m : Mechanism) : s.KeepsPunch (settleAddEnd m s) := by
  unfold settleAddEnd
  dsimp only
  split
  · exact s.endSettle_keepsPunch _ _ _
  · exact .refl s

theorem extendedReading_keepsPunch (m : Mechanism) (busy : Bool) : s.KeepsPunch (extendedReading m busy s) := by
  unfold extendedReading
  dsimp only
  split
  · exact .refl s
  split
  · exact s.endSettle_keepsPunch _ _ _
  split
  · exact s.endSettle_keepsPunch _ _ _
  · exact .still (by simp)

theorem bellTimerExpiry_keepsPunch : s.KeepsPunch (bellTimerExpiry s) := s.onTimer_keepsPunch fun _ => .still rfl

theorem holdWaitExpiry_keepsPunch : s.KeepsPunch (holdWaitExpiry s) := by
  unfold holdWaitExpiry
  split
  · dsimp only
    split
    · exact .carryOn_still (by simp)
    · exact .still rfl
  · exact .refl s

/-- R137: the release timer runs only at rest, so that the punch is released with nothing left to do. -/
theorem releaseTimerExpiry_keepsPunch : s.KeepsPunch (releaseTimerExpiry s) := by
  intro h
  obtain ⟨howner, htimer⟩ := State.punchOwned_iff.mp h
  unfold releaseTimerExpiry
  cases hrun : s.punch.releaseTimer with
  | none => exact h
  | some due =>
    obtain ⟨hfor, hrest⟩ := htimer (by simp [hrun])
    have hleft : (s.advance due).NothingLeft :=
      State.OneOwner.nothingLeft_of_atRest (howner.congr rfl) (by rcases hfor with h | h <;> simp [h]) hrest
    exact hleft.releasePunch.carryOn

theorem paperOutChange_keepsPunch (asserted : Bool) (te : Nat) : s.KeepsPunch (paperOutChange asserted te s) := by
  unfold paperOutChange State.paperOutTaken State.paperGone
  dsimp only
  split
  · split
    · split
      · exact .carryOn_still (by simp)
      · exact .still rfl
    split <;> exact .still rfl
  · exact .refl s

theorem paperRestoreExpiry_keepsPunch : s.KeepsPunch (paperRestoreExpiry s) :=
  s.onTimer_keepsPunch fun _ => .carryOn_still (by simp)

theorem paperLowChange_keepsPunch (asserted : Bool) (te : Nat) : s.KeepsPunch (paperLowChange asserted te s) := by
  unfold paperLowChange
  split <;> exact .still rfl

/-- A change of the tape inputs alone (R126, R127). -/
theorem State.KeepsPunch.onTape {s t : State}
    (hpunch : t.punch = { s.punch with
      tapeOut := t.punch.tapeOut, tapeLow := t.punch.tapeLow, restore := t.punch.restore })
    (hcells : t.store.punch.cells = s.store.punch.cells) : s.KeepsPunch t := by
  intro h
  have hset : State.PunchOwned { s with punch := { s.punch with
      tapeOut := t.punch.tapeOut, tapeLow := t.punch.tapeLow, restore := t.punch.restore } } := { h with }
  exact hset.congr (Prod.ext hpunch hcells)

theorem tapeOutChange_keepsPunch (asserted : Bool) (te : Nat) : s.KeepsPunch (tapeOutChange asserted te s) := by
  unfold tapeOutChange
  dsimp only
  split
  · refine State.KeepsPunch.trans (t := { s.advance (te + Config.inputFilterTicks) with
      punch := { s.punch with tapeOut := s.punch.tapeOut.threeSamples asserted } }) (.onTape rfl rfl) ?_
    unfold State.tapeOutTaken
    split
    · split
      · exact State.tapeGone_keepsPunch _
      · exact .onTape rfl rfl
    split
    · exact .refl _
    · exact .onTape rfl rfl
  · exact .refl s

theorem tapeRestoreExpiry_keepsPunch : s.KeepsPunch (tapeRestoreExpiry s) :=
  s.onTimer_keepsPunch fun t => State.KeepsOwner.carryOn (s := t) (.still rfl)

theorem tapeLowChange_keepsPunch (asserted : Bool) (te : Nat) : s.KeepsPunch (tapeLowChange asserted te s) := by
  unfold tapeLowChange
  split
  · exact .onTape rfl rfl
  · exact .refl s

theorem inputFilterStart_keepsPunch (input : InputPin) (asserted : Bool) :
    s.KeepsPunch (inputFilterStart input asserted s) := by
  unfold inputFilterStart
  split
  · exact (s.startFilter_keepsOwner input asserted).carryOn
  · exact .refl s

/-! ## The keyboard -/

theorem confirmedPress_keepsPunch (p : Fin 64) : s.KeepsPunch (confirmedPress p s) := by
  have hact : ∀ t : State, t.KeepsPunch (t.actOnPress p) := by
    intro t
    unfold State.actOnPress
    split
    · exact .still (by simp)
    · exact .refl t
    · split
      · exact .refl t
      · exact (t.pressKey_keepsOwner _).carryOn
  unfold confirmedPress
  split
  · exact (hact _).after (by simp)
  · exact .still (by simp)

theorem confirmedRelease_keepsPunch (p : Fin 64) : s.KeepsPunch (confirmedRelease p s) := by
  have hact : ∀ t : State, t.KeepsPunch (t.actOnRelease p) := by
    intro t
    unfold State.actOnRelease
    split
    · exact .still (by simp)
    · exact .refl t
    · split
      · exact State.KeepsOwner.carryOn State.OneOwner.withoutFeedHeld
      · exact .refl t
  unfold confirmedRelease
  split
  · exact (hact _).after (by simp)
  · exact .still (by simp)

theorem replayCopy_keepsPunch : s.KeepsPunch (replayCopy s) := by
  unfold replayCopy
  split
  · exact .refl s
  split
  · exact .refl s
  split
  · next htakes =>
    exact ((s.replayCell_keepsOwner htakes _).keeping
      (State.ownership_of_punchWork (State.advanceReplay_punchWork _ _ _))).carryOn
  · exact .refl s

/-! ## The loader -/

theorem storeByte0Read_keepsPunch (byte : Option Byte) : s.KeepsPunch (storeByte0Read byte s) := by
  unfold storeByte0Read
  split
  · split <;> exact .still rfl
  · exact .refl s

theorem State.afterLoad_punchWork (occasion : LoadOccasion) : (s.afterLoad occasion).punchWork = s.punchWork := by
  unfold State.afterLoad
  split
  · simp
  · split <;> simp

theorem loadEnd_keepsPunch (image : List Byte) : s.KeepsPunch (loadEnd image s) := by
  unfold loadEnd
  split
  · split
    · unfold State.endLoad
      have hloaded := fun (t : State) o => State.ownership_of_punchWork (t.afterLoad_punchWork o)
      refine State.KeepsOwner.carryOn (State.KeepsOwner.keeping ?_ (hloaded _ _))
      refine State.KeepsOwner.keeping (t := State.handOverKeyboard _ _) ?_ rfl
      exact ((State.setSwitch_keepsOwner _ _).after (by simp)).trans (State.handOverKeyboard_keepsOwner _ _)
    · exact .refl s
  · exact .refl s

theorem storeOperationEnd_keepsPunch (acknowledged : Bool) (bytes : List Byte) :
    s.KeepsPunch (storeOperationEnd acknowledged bytes s) := by
  unfold storeOperationEnd
  split
  · exact .refl s
  · split <;> exact .still (by simp)
  · split <;> exact .still (by simp)

theorem storeWritePollTimeout_keepsPunch : s.KeepsPunch (storeWritePollTimeout s) := by
  unfold storeWritePollTimeout
  split <;> exact .still (by simp)

end Sys2Proof.Machine
end

section
/-! The commands of the host and the Control Link keep the punch with one owner, and so does every step (R134 to R145). -/

namespace Sys2Proof.Machine

/-- An owner of a command, or another operation, that keeps the punch with one owner in every state. -/
def PunchKeeping (f : State → State) : Prop := ∀ s : State, s.KeepsPunch (f s)

theorem PunchKeeping.still {f : State → State} (h : ∀ s : State, (f s).punchWork = s.punchWork) : PunchKeeping f :=
  fun s => .still (h s)

section Commands
variable (s : State)

/-! ## The commands of service, calls and the line -/

theorem startService_punchWork : (startService s).punchWork = s.punchWork := by
  unfold startService
  repeat' split
  all_goals simp

theorem State.stopEffect_keepsPunch : s.KeepsPunch s.stopEffect.1 := by
  have hclear : s.KeepsPunch ((s.withStop true).enterClearing .stopService).carryOn :=
    ((State.enterClearing_keepsOwner _ _).after (by simp)).carryOn
  unfold State.stopEffect
  split <;> dsimp only
  · exact .still (by simp)
  · exact .still (by simp)
  · exact .still (by simp)
  · exact .carryOn_still (by simp)
  · exact hclear
  · exact hclear
  · exact .still (by simp)
  · exact .still (by simp)

theorem stopService_keepsPunch : s.KeepsPunch (stopService s) := s.stopEffect_keepsPunch.accept

theorem acceptCall_keepsPunch : s.KeepsPunch (acceptCall s) := by
  unfold acceptCall
  split
  · exact (State.KeepsPunch.carryOn_still s.enterAnswering_punchWork).accept
  · exact .still (by simp)

theorem declineCall_keepsPunch : s.KeepsPunch (declineCall s) := by
  unfold declineCall
  split
  · have hcarried : s.KeepsPunch s.declineOffer.carryOn := .carryOn_still rfl
    exact hcarried.accept
  · exact .still (by simp)

theorem placeCall_keepsPunch : s.KeepsPunch (placeCall s) := by
  unfold placeCall
  split
  · exact (State.KeepsPunch.carryOn_still s.enterCalling_punchWork).accept
  · exact .still (by simp)

theorem clearCall_keepsPunch : s.KeepsPunch (clearCall s) := by
  unfold clearCall
  split
  · exact (s.enterClearing_keepsOwner .station).carryOn.accept
  · exact (s.enterClearing_keepsOwner .station).carryOn.accept
  · have hcarried : s.KeepsPunch (s.failAttempt .station).carryOn := .carryOn_still rfl
    exact hcarried.accept
  · exact .still (by simp)

theorem sendAnswerback_keepsPunch : s.KeepsPunch (sendAnswerback s) := by
  unfold sendAnswerback
  split
  · split
    · exact (State.KeepsPunch.carryOn_still (by simp)).accept
    · exact .still (by simp)
  · exact .still (by simp)

theorem sendEnquiry_keepsPunch : s.KeepsPunch (sendEnquiry s) := by
  unfold sendEnquiry
  split
  · exact (State.KeepsPunch.carryOn_still (by simp)).accept
  · exact .still (by simp)

theorem sendBreak_keepsPunch : s.KeepsPunch (sendBreak s) := by
  unfold sendBreak
  split
  · exact (State.KeepsPunch.carryOn_still (by simp)).accept
  · exact .still (by simp)

theorem resumeSend_keepsPunch : s.KeepsPunch (resumeSend s) := by
  unfold resumeSend
  split
  · split
    · exact (State.KeepsPunch.carryOn_still (by simp)).accept
    · exact .still (by simp)
  · exact .still (by simp)

theorem getLineQuality_punchWork (clear : Byte) : (getLineQuality clear s).punchWork = s.punchWork := by
  unfold getLineQuality
  repeat' split
  all_goals simp

/-! ## The commands of the options, the routes, the spools and the Message File -/

theorem setOption_punchWork (offset : Byte) (value : Word16) : (setOption offset value s).punchWork = s.punchWork := by
  unfold setOption
  repeat' split
  all_goals simp

theorem getOption_punchWork (offset : Byte) : (getOption offset s).punchWork = s.punchWork := by
  unfold getOption
  split <;> simp

theorem setRoute_punchWork (route destinations printStandIn punchStandIn : Byte) (reload : Word16) (action : Byte) :
    (setRoute route destinations printStandIn punchStandIn reload action s).punchWork = s.punchWork := by
  unfold setRoute
  split <;> rfl

theorem getRoute_punchWork (route clear : Byte) : (getRoute route clear s).punchWork = s.punchWork := by
  unfold getRoute
  split
  · dsimp only
    split <;> simp
  · simp

theorem rearmRoute_punchWork (route : Byte) : (rearmRoute route s).punchWork = s.punchWork := by
  unfold rearmRoute
  split <;> rfl

theorem submitText_keepsPunch (target : Byte) (bytes : List Byte) : s.KeepsPunch (submitText target bytes s) := by
  unfold submitText
  split
  · split
    · exact .still (by simp)
    · next htaken => exact s.submitCells_keepsPunch htaken _
  · exact .still (by simp)

/-- R11: an emptied spool drops what is committed of it. -/
theorem State.spoolEmptied_keepsOwner (n : SpoolName) :
    s.KeepsOwner (State.spoolEmptied { s with store := (s.store.emptySpool n).2 } n) := by
  cases n with
  | pLine | pLocal | pSubmit => exact .still (by simp [State.spoolEmptied])
  | punch => exact fun h => h.dropPunchWork rfl s.store.emptySpool_punch_cells
  | send => exact .still (by simp [State.spoolEmptied])

theorem clearSpool_keepsPunch (spool : Byte) : s.KeepsPunch (clearSpool spool s) := by
  unfold clearSpool
  split
  · exact .still (by simp)
  · next n _ => exact ((State.spoolEmptied_keepsOwner s n).keeping (by simp)).carryOn

theorem getMessage_punchWork (number : Byte) : (getMessage number s).punchWork = s.punchWork := by
  unfold getMessage
  repeat' split
  all_goals simp

theorem fetchMessage_punchWork (number : Byte) (offset : Word16) (count : Byte) :
    (fetchMessage number offset count s).punchWork = s.punchWork := by
  unfold fetchMessage
  repeat' split
  all_goals simp

theorem deleteMessage_punchWork (number : Byte) : (deleteMessage number s).punchWork = s.punchWork := by
  unfold deleteMessage
  repeat' split
  all_goals simp [State.deleteRecord]

theorem replayMessage_punchWork (number target : Byte) : (replayMessage number target s).punchWork = s.punchWork := by
  unfold replayMessage
  repeat' split
  all_goals simp [State.beginReplay]

theorem cancelReplay_punchWork : (cancelReplay s).punchWork = s.punchWork := by
  unfold cancelReplay
  split <;> simp

/-! ## The commands of the mechanisms, the keyboard and the store -/

theorem printerHold_keepsPunch : s.KeepsPunch (printerHold s) :=
  (State.KeepsPunch.carryOn_still (t := s.withHold true) (by simp)).accept

theorem printerRelease_keepsPunch : s.KeepsPunch (printerRelease s) :=
  (State.KeepsPunch.carryOn_still (t := s.withHold false) (by simp)).accept

theorem printerReset_keepsPunch : s.KeepsPunch (printerReset s) := by
  have hreset : s.resetPrinter.punchWork = s.punchWork := by
    unfold State.resetPrinter
    split <;> simp
  exact (State.KeepsPunch.carryOn_still hreset).accept

theorem punchOn_keepsPunch : s.KeepsPunch (punchOn s) := (s.setSwitch_keepsOwner true).carryOn.accept

theorem punchOff_keepsPunch : s.KeepsPunch (punchOff s) := (s.setSwitch_keepsOwner false).carryOn.accept

theorem punchFeed_keepsPunch (count : Byte) : s.KeepsPunch (punchFeed count s) := by
  unfold punchFeed
  split
  · exact .still (by simp)
  split
  · exact .still (by simp)
  · next hadmits =>
    split
    · exact .still (by simp)
    · exact ((State.requestFeed_keepsOwner (by simpa using hadmits) count.toNat).keeping (by simp)).carryOn

/-- R137: a release that must wait is marked, and the punch is not at rest. -/
theorem punchRelease_keepsPunch : s.KeepsPunch (punchRelease s) := by
  unfold punchRelease
  split
  · exact .still (by simp)
  · next howner =>
    split
    · next hrest =>
      exact State.KeepsPunch.accept (State.KeepsOwner.carryOn fun h =>
        (h.nothingLeft_of_atRest (by simp [howner]) hrest).releasePunch)
    · refine State.KeepsPunch.accept fun h => ?_
      exact { h with submittedRelease := fun _ => howner }
  · exact .still (by simp)

theorem punchReset_keepsPunch : s.KeepsPunch (punchReset s) := s.resetPunch_keepsOwner.carryOn.accept

theorem setKeyboardMode_keepsPunch (mode : Byte) : s.KeepsPunch (setKeyboardMode mode s) := by
  unfold setKeyboardMode
  split
  · exact .still (by simp)
  · split
    · exact .still (by simp)
    · exact (s.changeMode_keepsOwner _).carryOn.accept

theorem storeRead_punchWork (offset count : Byte) : (storeRead offset count s).punchWork = s.punchWork := by
  unfold storeRead
  repeat' split
  all_goals simp

theorem storeWrite_punchWork (offset : Byte) (bytes : List Byte) :
    (storeWrite offset bytes s).punchWork = s.punchWork := by
  unfold storeWrite
  repeat' split
  all_goals simp

theorem reload_punchWork : (reload s).punchWork = s.punchWork := by
  unfold reload
  split <;> simp

/-- R147: RESTART resets the punch, and abandons its cycle; the motor and the keyboard follow. -/
theorem State.restartPunch_punchOwned {s : State} (hcells : s.store.punch.cells = []) :
    s.restartPunch.restartMotor.restartKeyboard.PunchOwned := by
  unfold State.restartPunch
  refine State.punchOwned_iff.mpr ⟨.of_reset (by simp [Punch.resetSteps, hcells]), fun hrun => ?_⟩
  simp [Punch.resetSteps] at hrun

theorem State.restartPrinter_punchSpool : s.restartPrinter.store.punch = s.store.punch := by
  unfold State.restartPrinter
  dsimp only
  split <;> simp

/-- R18, R192: RESTART empties PUNCH and resets the punch. -/
theorem restart_keepsPunch : s.KeepsPunch (restart s) := fun _ => by
  unfold restart State.restartBlocks
  refine State.restartPunch_punchOwned ?_
  rw [State.restartPrinter_punchSpool]
  exact Store.restart_punch_cells _

end Commands

/-! ## The Control Link -/

/-- Every command's owner keeps the punch with one owner, whatever the kind and the body (section 10.7). -/
theorem commandOwner_keepsPunch (kind : Byte) (body : List Byte) : PunchKeeping (commandOwner kind body) := by
  unfold commandOwner
  split
  · exact .still fun _ => rfl
  · exact .still startService_punchWork
  · exact stopService_keepsPunch
  · exact .still fun s => setOption_punchWork s _ _
  · exact .still fun s => getOption_punchWork s _
  · exact .still fun s => setRoute_punchWork s _ _ _ _ _ _
  · exact .still fun s => getRoute_punchWork s _ _
  · exact .still fun s => rearmRoute_punchWork s _
  · exact fun s => submitText_keepsPunch s _ _
  · exact fun s => clearSpool_keepsPunch s _
  · exact acceptCall_keepsPunch
  · exact declineCall_keepsPunch
  · exact placeCall_keepsPunch
  · exact clearCall_keepsPunch
  · exact sendAnswerback_keepsPunch
  · exact sendEnquiry_keepsPunch
  · exact sendBreak_keepsPunch
  · exact resumeSend_keepsPunch
  · exact .still fun _ => rfl
  · exact .still fun s => getLineQuality_punchWork s _
  · exact .still fun _ => rfl
  · exact .still fun s => getMessage_punchWork s _
  · exact .still fun s => fetchMessage_punchWork s _ _ _
  · exact .still fun s => deleteMessage_punchWork s _
  · exact .still fun s => replayMessage_punchWork s _ _
  · exact .still cancelReplay_punchWork
  · exact printerHold_keepsPunch
  · exact printerRelease_keepsPunch
  · exact printerReset_keepsPunch
  · exact punchOn_keepsPunch
  · exact punchOff_keepsPunch
  · exact fun s => punchFeed_keepsPunch s _
  · exact punchRelease_keepsPunch
  · exact punchReset_keepsPunch
  · exact fun s => setKeyboardMode_keepsPunch s _
  · exact .still fun s => storeRead_punchWork s _ _
  · exact .still fun s => storeWrite_punchWork s _ _
  · exact .still reload_punchWork
  · exact restart_keepsPunch
  · exact .still fun _ => rfl

section Frames
variable (s : State)

/-- R173: a frame in turn is refused or reaches its owner. -/
theorem State.dispatch_keepsPunch (kind : Byte) (length : Nat) (body : List Byte) :
    s.KeepsPunch (s.dispatch kind length (commandOwner kind body)) := by
  unfold State.dispatch
  dsimp only
  split
  · exact .still (by simp)
  · exact (commandOwner_keepsPunch kind body _).after (by simp)

theorem State.frameEnded_punchWork (turn : Turn) (kind : Byte) : (s.frameEnded turn kind).punchWork = s.punchWork := by
  unfold State.frameEnded
  split <;> rfl

theorem State.frameFails_punchWork (turn : Turn) (kind : Byte) (r : Reason) :
    (s.frameFails turn kind r).punchWork = s.punchWork := by
  unfold State.frameFails
  split
  · simp
  · exact s.frameEnded_punchWork turn kind

theorem State.frameComplete_keepsPunch (turn : Turn) (kind : Byte) (body : List Byte) :
    s.KeepsPunch (s.frameComplete turn kind body) := by
  unfold State.frameComplete
  dsimp only
  split
  · exact (State.dispatch_keepsPunch _ _ _ body).after (by simp)
  · exact .still ((State.frameEnded_punchWork _ turn kind).trans (by simp))

theorem State.takeByte_keepsPunch (b : Byte) : s.KeepsPunch (s.takeByte b) := by
  unfold State.takeByte
  split
  · exact .still rfl
  · unfold State.takeLength
    split
    · exact s.frameComplete_keepsPunch _ _ _
    split
    · exact .still (by simp)
    · exact .still ((State.frameFails_punchWork _ _ _ _).trans (by simp))
  · unfold State.takeBodyByte
    split
    · exact s.frameComplete_keepsPunch _ _ _
    · exact .still (by simp)
  · exact .still (by simp)

/-- Bytes taken one after another (R172). -/
theorem State.foldl_takeByte_keepsPunch (bytes : List Byte) (s : State) :
    s.KeepsPunch (bytes.foldl State.takeByte s) := by
  induction bytes generalizing s with
  | nil => exact .refl s
  | cons b bytes ih => exact (s.takeByte_keepsPunch b).trans (ih _)

theorem State.hostCommand_keepsPunch (kind : Byte) (body : List Byte) :
    s.KeepsPunch (s.hostCommand kind body (commandOwner kind body)) := by
  unfold State.hostCommand
  split
  · exact s.dispatch_keepsPunch kind _ body
  · exact State.foldl_takeByte_keepsPunch _ s

theorem inboundByte_keepsPunch (b : Byte) (stop : Level) : s.KeepsPunch (inboundByte b stop s) := by
  cases stop
  · exact .still rfl
  · exact s.takeByte_keepsPunch b

theorem interByteTimeout_punchWork : (interByteTimeout s).punchWork = s.punchWork := by
  unfold interByteTimeout
  split
  · exact (State.frameFails_punchWork _ _ _ _).trans (by simp)
  · exact (State.frameFails_punchWork _ _ _ _).trans (by simp)
  · rfl

theorem discardQuietTimeout_punchWork : (discardQuietTimeout s).punchWork = s.punchWork := by
  unfold discardQuietTimeout
  split <;> simp

theorem outboundFrameEnd_punchWork : (outboundFrameEnd s).punchWork = s.punchWork := by
  unfold outboundFrameEnd
  repeat' split
  all_goals rfl

end Frames

/-! ## Every row and every step -/

/-- Every row completes, and keeps the punch with one owner. -/
theorem exec_keepsPunch (s : State) (i : Instr) : ∃ t, exec i s = .next t ∧ s.KeepsPunch t := by
  cases hframe : commandFrame i with
  | some f => exact ⟨_, exec_of_commandFrame hframe s, s.hostCommand_keepsPunch f.1 f.2⟩
  | none =>
    cases i with
    | powerOn | resetPin => exact ⟨_, rfl, fun _ => State.reset_punchOwned.congr rfl⟩
    | outboundFrameStart | holdOffAssert | holdOffDeassert => exact ⟨_, rfl, .still rfl⟩
    | loadEnd => exact ⟨_, rfl, loadEnd_keepsPunch s _⟩
    | inboundByte => exact ⟨_, rfl, inboundByte_keepsPunch s _ _⟩
    | interByteTimeout => exact ⟨_, rfl, .still (interByteTimeout_punchWork s)⟩
    | discardQuietTimeout => exact ⟨_, rfl, .still (discardQuietTimeout_punchWork s)⟩
    | outboundFrameEnd => exact ⟨_, rfl, .still (outboundFrameEnd_punchWork s)⟩
    | storeOperationEnd => exact ⟨_, rfl, storeOperationEnd_keepsPunch s _ _⟩
    | storeWritePollTimeout => exact ⟨_, rfl, storeWritePollTimeout_keepsPunch s⟩
    | rxFilteredChange => exact ⟨_, rfl, rxFilteredChange_keepsPunch s _ _⟩
    | startSample => exact ⟨_, rfl, startSample_keepsPunch s⟩
    | unitSample => exact ⟨_, rfl, unitSample_keepsPunch s⟩
    | stopSample => exact ⟨_, rfl, stopSample_keepsPunch s⟩
    | breakThreshold => exact ⟨_, rfl, breakThreshold_keepsPunch s⟩
    | clearThreshold => exact ⟨_, rfl, clearThreshold_keepsPunch s⟩
    | turnaroundGuardExpiry => exact ⟨_, rfl, turnaroundGuardExpiry_keepsPunch s⟩
    | characterSent => exact ⟨_, rfl, characterSent_keepsPunch s⟩
    | breakKeyingEnd => exact ⟨_, rfl, breakKeyingEnd_keepsPunch s⟩
    | callRecognition => exact ⟨_, rfl, callRecognition_keepsPunch s⟩
    | withdrawal => exact ⟨_, rfl, withdrawal_keepsPunch s⟩
    | offerTimeout => exact ⟨_, rfl, offerTimeout_keepsPunch s⟩
    | confirmation => exact ⟨_, rfl, confirmation_keepsPunch s⟩
    | confirmTimeout => exact ⟨_, rfl, confirmTimeout_keepsPunch s⟩
    | idleTimeout => exact ⟨_, rfl, idleTimeout_keepsPunch s⟩
    | enquiryDelayExpiry => exact ⟨_, rfl, enquiryDelayExpiry_keepsPunch s⟩
    | captureWindowExpiry => exact ⟨_, rfl, captureWindowExpiry_keepsPunch s⟩
    | clearingEnd => exact ⟨_, rfl, clearingEnd_keepsPunch s⟩
    | clearingTimeout => exact ⟨_, rfl, clearingTimeout_keepsPunch s⟩
    | releasingEnd => exact ⟨_, rfl, releasingEnd_keepsPunch s⟩
    | runUpExpiry => exact ⟨_, rfl, runUpExpiry_keepsPunch s⟩
    | runOnExpiry => exact ⟨_, rfl, runOnExpiry_keepsPunch s⟩
    | selectEnd => exact ⟨_, rfl, selectEnd_keepsPunch s⟩
    | strikeEnd => exact ⟨_, rfl, strikeEnd_keepsPunch s⟩
    | punchPulseEnd => exact ⟨_, rfl, punchPulseEnd_keepsPunch s⟩
    | feedPulseEnd => exact ⟨_, rfl, feedPulseEnd_keepsPunch s⟩
    | settleFixedEnd => exact ⟨_, rfl, settleFixedEnd_keepsPunch s _⟩
    | settleSampledReading => exact ⟨_, rfl, settleSampledReading_keepsPunch s _ _⟩
    | settleAddEnd => exact ⟨_, rfl, settleAddEnd_keepsPunch s _⟩
    | extendedReading => exact ⟨_, rfl, extendedReading_keepsPunch s _ _⟩
    | bellTimerExpiry => exact ⟨_, rfl, bellTimerExpiry_keepsPunch s⟩
    | holdWaitExpiry => exact ⟨_, rfl, holdWaitExpiry_keepsPunch s⟩
    | paperOutChange => exact ⟨_, rfl, paperOutChange_keepsPunch s _ _⟩
    | paperRestoreExpiry => exact ⟨_, rfl, paperRestoreExpiry_keepsPunch s⟩
    | paperLowChange => exact ⟨_, rfl, paperLowChange_keepsPunch s _ _⟩
    | inputFilterStart => exact ⟨_, rfl, inputFilterStart_keepsPunch s _ _⟩
    | tapeOutChange => exact ⟨_, rfl, tapeOutChange_keepsPunch s _ _⟩
    | tapeRestoreExpiry => exact ⟨_, rfl, tapeRestoreExpiry_keepsPunch s⟩
    | tapeLowChange => exact ⟨_, rfl, tapeLowChange_keepsPunch s _ _⟩
    | releaseTimerExpiry => exact ⟨_, rfl, releaseTimerExpiry_keepsPunch s⟩
    | confirmedPress => exact ⟨_, rfl, confirmedPress_keepsPunch s _⟩
    | confirmedRelease => exact ⟨_, rfl, confirmedRelease_keepsPunch s _⟩
    | replayCopy => exact ⟨_, rfl, replayCopy_keepsPunch s⟩
    | storeByte0Read => exact ⟨_, rfl, storeByte0Read_keepsPunch s _⟩
    | unknownCommandKind | getStatus | startService | stopService | setOption | getOption | setRoute |
      getRoute | rearmRoute | submitText | clearSpool | acceptCall | declineCall | placeCall | clearCall |
      sendAnswerback | sendEnquiry | sendBreak | resumeSend | getCall | getLineQuality | listMessages |
      getMessage | fetchMessage | deleteMessage | replayMessage | cancelReplay | printerHold |
      printerRelease | printerReset | punchOn | punchOff | punchFeed | punchRelease | punchReset |
      setKeyboardMode | storeRead | storeWrite | reload | restart => cases hframe

/-- Settles O9: each row leaves the punch and its spool, or keeps one owner and makes the choices, which set the release
timer; the rows of a cycle's phases run without that timer. -/
theorem everyStepKeepsThePunchOwner : Obligations.EveryStepKeepsThePunchOwner := by
  intro s t howned hstep
  unfold step at hstep
  split at hstep
  · next c rest _ =>
    obtain ⟨u, hexec, hkeeps⟩ := exec_keepsPunch { s with pending := rest } c
    rw [hexec] at hstep
    cases hstep
    exact hkeeps (howned.congr rfl)
  · cases hstep
    exact howned.congr rfl

end Sys2Proof.Machine
end

section
/-! The punch's choice of an item, and its releases: each item with what it starts, in the order in which the choice
takes them (R136 to R141, R145). -/

namespace Sys2Proof.Machine

variable {s : State}

/-! ## Whether the punch chooses -/

theorem State.punchChoice_of_not_free
    (h : s.punch.status ≠ .onIdle ∨ s.motor.state ≠ .running ∨ s.motor.demand.punch = false) : s.punchChoice = s := by
  rcases s.punchChoice_cases with heq | ⟨hidle, hrunning, hplaced, -⟩
  · exact heq
  · rcases h with h | h | h
    · exact absurd hidle h
    · exact absurd hrunning h
    · simp [hplaced] at h

theorem State.punchChoice_of_free (hidle : s.punch.status = .onIdle) (hrunning : s.motor.state = .running)
    (hplaced : s.motor.demand.punch = true) : s.punchChoice = s.punchChoiceItem :=
  if_pos ⟨hidle, by simp [State.motorRunning, hrunning], hplaced⟩

/-! ## The items -/

/-- R141: no blanks of PUNCH FEED are pending without cells ahead of them. -/
theorem State.feedDue_eq_false_iff : s.feedDue = false ↔
    ∀ r, s.punch.feedRequest = some r → r.ahead ≠ 0 ∨ r.blanks = 0 := by
  unfold State.feedDue
  split
  · next r hr => simp [hr, ← imp_iff_not_or]
  · next hr => simp [hr]

/-- R138: the items behind a committed cell. -/
def State.laterItem (s : State) : State :=
  if 0 < s.punch.leader then
    State.startBlankCycle { s with punch := { s.punch with leader := s.punch.leader - 1 } }
  else if s.feedDue then s.startFeedRequestCycle
  else
    match s.store.punch.cells with
    | e :: _ => s.punchCell e
    | [] =>
      if s.punch.feedHeld then s.startBlankCycle
      else if 0 < s.punch.lineRelease.trailerLeft then
        State.startBlankCycle { s with punch := { s.punch with
          lineRelease := .trailer (s.punch.lineRelease.trailerLeft - 1) } }
      else s

/-- R138: a committed cell goes on first. -/
theorem State.punchChoiceItem_of_committed (hcommitted : s.punch.committed = true) {e : Entry} {rest : List Entry}
    (hcells : s.store.punch.cells = e :: rest) : s.punchChoiceItem = s.punchCell e := by
  unfold State.punchChoiceItem
  rw [hcommitted, hcells]

theorem State.punchChoiceItem_of_uncommitted (h : s.punch.committed = false ∨ s.store.punch.cells = []) :
    s.punchChoiceItem = s.laterItem := by
  unfold State.punchChoiceItem
  split
  · next hcommitted hcells => simp [hcommitted, hcells] at h
  · rfl

theorem State.laterItem_of_leader {n : Nat} (hleader : s.punch.leader = n + 1) : s.laterItem =
    State.startPunchCycle { s with punch := { s.punch with leader := n } } s.isl.functionMap.blank := by
  unfold State.laterItem
  rw [if_pos (by omega), hleader]
  rfl

section NoLeader
variable (hleader : s.punch.leader = 0)
include hleader

theorem State.laterItem_of_feed {n : Nat} (hrequest : s.punch.feedRequest = some { blanks := n + 1, ahead := 0 }) :
    s.laterItem = State.startPunchCycle { s with punch := { s.punch with
      feedRequest := if n = 0 then none else some { blanks := n, ahead := 0 } } } s.isl.functionMap.blank := by
  have hdue : s.feedDue = true := by simp [State.feedDue, hrequest]
  unfold State.laterItem
  rw [if_neg (by omega), if_pos hdue]
  unfold State.startFeedRequestCycle
  rw [hrequest]
  cases n <;> rfl

section NoFeed
variable (hfeed : s.feedDue = false)
include hfeed

theorem State.laterItem_of_head {e : Entry} {rest : List Entry} (hcells : s.store.punch.cells = e :: rest) :
    s.laterItem = s.punchCell e := by
  unfold State.laterItem
  rw [if_neg (by omega), if_neg (by simp [hfeed]), hcells]

section NoCells
variable (hcells : s.store.punch.cells = [])
include hcells

theorem State.laterItem_of_feedHeld (hheld : s.punch.feedHeld = true) :
    s.laterItem = s.startPunchCycle s.isl.functionMap.blank := by
  unfold State.laterItem
  rw [if_neg (by omega), if_neg (by simp [hfeed]), hcells]
  exact if_pos hheld

theorem State.laterItem_of_trailer (hheld : s.punch.feedHeld = false) {n : Nat}
    (htrailer : s.punch.lineRelease = .trailer (n + 1)) : s.laterItem =
    State.startPunchCycle { s with punch := { s.punch with lineRelease := .trailer n } } s.isl.functionMap.blank := by
  unfold State.laterItem
  rw [if_neg (by omega), if_neg (by simp [hfeed]), hcells, htrailer]
  dsimp only
  rw [if_neg (by simp [hheld])]
  rfl

theorem State.laterItem_of_nothing (hheld : s.punch.feedHeld = false)
    (htrailer : ∀ n, s.punch.lineRelease ≠ .trailer (n + 1)) : s.laterItem = s := by
  have hleft : ¬ 0 < s.punch.lineRelease.trailerLeft := by simpa [LineRelease.trailerLeft_pos_iff] using htrailer
  unfold State.laterItem
  rw [if_neg (by omega), if_neg (by simp [hfeed]), hcells]
  dsimp only
  rw [if_neg (by simp [hheld]), if_neg hleft]

end NoCells
end NoFeed
end NoLeader

/-! ## The head cell -/

/-- R140: a cell of another case gets the matching shift first, and stays. -/
theorem State.punchCell_of_shift {e : Entry}
    (h : s.isl.functionMap.needsShift e.cell.code e.cell.case s.punch.tapeCase = true) :
    s.punchCell e = State.startPunchCycle { s with punch := { s.punch with committed := true } }
      (s.isl.functionMap.shiftCode e.cell.case) := if_pos h

/-- R139: its own cycle takes the cell from PUNCH. -/
theorem State.punchCell_of_own {e : Entry}
    (h : s.isl.functionMap.needsShift e.cell.code e.cell.case s.punch.tapeCase = false) :
    s.punchCell e = State.startPunchCycle { s with
      store := (s.store.removeHead .punch).2
      punch := { s.punch with
        committed := false
        feedRequest := s.punch.feedRequest.map fun r => { r with ahead := r.ahead - 1 } } } e.cell.code :=
  if_neg (ne_true_of_eq_false h)

/-! ## The releases -/

/-- R136: the LINE release state after the test of a DUE release. -/
theorem State.startTrailer_eq {w : LineRelease}
    (hstart : s.punch.lineRelease = .due ∧ s.punchQuiet = true ∧ s.punch.leader = 0 → w = .trailer (s.opt .trailerCount))
    (hstay : ¬ (s.punch.lineRelease = .due ∧ s.punchQuiet = true ∧ s.punch.leader = 0) → w = s.punch.lineRelease) :
    s.startTrailer = { s with punch := { s.punch with lineRelease := w } } := by
  unfold State.startTrailer
  split
  · next h => rw [hstart h]
  · next h => rw [hstay h]

/-! ## The release timer -/

/-- R137: a release timer that runs is not started anew. -/
theorem State.runReleaseTimer_of_running
    (h : (s.punch.owner = some .loc ∨ s.punch.owner = some .submitted) ∧ s.punchAtRest = true)
    (hrun : s.punch.releaseTimer ≠ none) : s.runReleaseTimer = s := by
  obtain ⟨due, hdue⟩ := Option.ne_none_iff_exists'.mp hrun
  rw [State.runReleaseTimer, if_pos h, hdue]

theorem State.runReleaseTimer_of_start
    (h : (s.punch.owner = some .loc ∨ s.punch.owner = some .submitted) ∧ s.punchAtRest = true)
    (hrun : s.punch.releaseTimer = none) : s.runReleaseTimer = { s with punch := { s.punch with
      releaseTimer := some (s.now + s.opt .punchReleaseIdle * 100000) } } := by
  rw [State.runReleaseTimer, if_pos h, hrun]
  rfl

theorem State.runReleaseTimer_of_not
    (h : ¬ ((s.punch.owner = some .loc ∨ s.punch.owner = some .submitted) ∧ s.punchAtRest = true)) :
    s.runReleaseTimer = { s with punch := { s.punch with releaseTimer := none } } := if_neg h

/-! ## The obligation -/

/-- Settles O56: the choice is its first item, item by item; a release is due in the state after the trailer's start, and
the release timer runs as the test of rest says. -/
theorem punchTakesTheFirstItem : Obligations.PunchTakesTheFirstItem := by
  refine ⟨fun s => ⟨State.punchChoice_of_not_free, fun hidle hrunning hplaced => ?chooses⟩, fun s code => ?cycle,
    fun s v u w quiet atRest hquiet hrest hstart hstay hv hu => ?releases⟩
  case chooses =>
    rw [State.punchChoice_of_free hidle hrunning hplaced]
    refine ⟨fun e rest hcells hhead => ?head, fun hnone => ?later⟩
    case head =>
      have hitem : s.punchChoiceItem = s.punchCell e := by
        by_cases hcommitted : s.punch.committed = true
        · exact State.punchChoiceItem_of_committed hcommitted hcells
        · obtain ⟨hleader, hfeed⟩ := hhead.resolve_left hcommitted
          rw [State.punchChoiceItem_of_uncommitted (.inl (by simpa using hcommitted))]
          exact State.laterItem_of_head hleader (State.feedDue_eq_false_iff.mpr hfeed) hcells
      rw [hitem]
      exact ⟨State.punchCell_of_shift, State.punchCell_of_own⟩
    case later =>
      rw [State.punchChoiceItem_of_uncommitted hnone]
      refine ⟨fun n => State.laterItem_of_leader, fun hleader => ⟨fun n => State.laterItem_of_feed hleader,
        fun hfeed hcells => ?_⟩⟩
      have hdue := State.feedDue_eq_false_iff.mpr hfeed
      exact ⟨State.laterItem_of_feedHeld hleader hdue hcells, fun hheld =>
        ⟨fun n => State.laterItem_of_trailer hleader hdue hcells hheld,
          State.laterItem_of_nothing hleader hdue hcells hheld⟩⟩
  case cycle => rfl
  case releases =>
    have hq : quiet ↔ s.punchQuiet = true := hquiet.trans State.punchQuiet_iff.symm
    have hr : atRest ↔ s.punchAtRest = true := by rw [hrest, hq, State.punchAtRest_iff]
    rw [hq] at hstart hstay
    rw [hr]
    have htrailer : s.startTrailer = v := (State.startTrailer_eq hstart hstay).trans hv.symm
    have hdue : v.releaseDue = true ↔
        (s.punch.owner = some .line ∧ w = .trailer 0 ∧ s.punch.cycle = none) ∨
        (s.punch.owner = some .loc ∧ (s.punch.localRelease = true ∨ s.punch.clearRelease = true) ∧
          s.punchAtRest = true) ∨
        (s.punch.owner = some .submitted ∧ (s.punch.submittedRelease = true ∨ s.punch.clearRelease = true) ∧
          s.punchAtRest = true) := by
      rw [State.releaseDue_iff, hv]
      exact Iff.rfl
    have htest : s.testReleases = if v.releaseDue then v.releasePunch else v := by rw [← htrailer]; rfl
    refine ⟨fun h => ?_, fun h => ?_, fun h => ⟨State.runReleaseTimer_of_running h, State.runReleaseTimer_of_start h⟩,
      State.runReleaseTimer_of_not⟩
    · rw [htest, if_pos (hdue.mpr h), hu, hv]
      rfl
    · rw [htest, if_neg (mt hdue.mp h)]

end Sys2Proof.Machine
end

section
/-! The commands of the punch: a taken frame is what its owner does, and the owner answers by the switch, the owner of the
punch and its work (R137, R141, R144, R145). -/

namespace Sys2Proof.Machine

section Owners
variable {s : State}

/-! ## The switch -/

/-- R133: the punch takes without a fault, during a cycle or while it is ON with tape. -/
theorem State.punchTakes_eq (s : State) :
    s.punchTakes = (!s.punch.fault && (s.punch.cycle.isSome || (s.punch.switch && s.punch.tape))) := by
  simp only [State.punchTakes, State.punchState, Punch.status]
  cases s.punch.fault <;> cases s.punch.cycle.isSome <;> cases s.punch.switch <;> cases s.punch.tape <;> rfl

/-- R141: feed held stays only while the punch takes. -/
theorem State.dropFeedHeld_eq (s : State) : s.dropFeedHeld =
    { s with punch := { s.punch with feedHeld := s.punch.feedHeld && s.punchTakes } } := by
  unfold State.dropFeedHeld
  split
  · next htakes => simp [htakes]
  · next htakes => simp [htakes]

/-- R144: the switch is set, an entry to TAPE OUT is noticed (log 10), and then the held feed may go. -/
theorem State.setSwitch_eq (s : State) (on : Bool) {v : State}
    (hv : v = State.noticeTapeOut { s with punch := { s.punch with switch := on } } s.punch.status) :
    s.setSwitch on = { v with punch := { v.punch with feedHeld := s.punch.feedHeld &&
      !s.punch.fault && (s.punch.cycle.isSome || (on && s.punch.tape)) } } := by
  have hpunch : v.punch = { s.punch with switch := on } := by rw [hv, State.noticeTapeOut_punch]
  have hset : s.setSwitch on = v.dropFeedHeld := by rw [hv]; rfl
  rw [hset, State.dropFeedHeld_eq, State.punchTakes_eq, hpunch, Bool.and_assoc]

/-! ## FEED -/

theorem punchFeed_of_zero {count : Byte} (hzero : count.toNat = 0) : punchFeed count s = s.refuse 0x20 .badValue :=
  if_pos hzero

section Feed
variable {count : Byte} (hcount : 1 ≤ count.toNat)
include hcount

theorem punchFeed_of_other (howner : s.punch.owner = some .line ∨ s.punch.owner = some .loc) :
    punchFeed count s = s.refuse 0x20 .punchBusy := by
  have hadmits : (!s.ownerAdmits .submitted) = true := by rcases howner with h | h <;> simp [State.ownerAdmits, h]
  unfold punchFeed
  rw [if_neg (by omega), if_pos hadmits]

variable (howner : s.punch.owner = none ∨ s.punch.owner = some .submitted)
include howner

theorem punchFeed_of_request (hrequest : s.punch.feedRequest.isSome = true) :
    punchFeed count s = s.refuse 0x20 .busy := by
  unfold punchFeed
  rw [if_neg (by omega), if_neg (by simp [State.ownerAdmits_iff.mpr howner]), if_pos hrequest]

/-- R141: the request stands behind the cells that are spooled, and the reply shows how many. -/
theorem punchFeed_of_free (hrequest : s.punch.feedRequest = none) {u : State} (hu : u = s.claimPunch .submitted) :
    punchFeed count s = (State.accept { u with punch := { u.punch with feedRequest := some (FeedRequest.mk
      count.toNat s.store.punch.cells.length) } } 0x20 (.feedAhead s.store.punch.cells.length)).carryOn := by
  have hfeed : s.requestFeed count.toNat = { u with punch := { u.punch with
      feedRequest := some (FeedRequest.mk count.toNat s.store.punch.cells.length) } } := by
    have hstore : u.store = s.store := by rw [hu, State.claimPunch_store]
    unfold State.requestFeed
    rw [← hu, ← hstore]
    rfl
  unfold punchFeed
  rw [if_neg (by omega), if_neg (by simp [State.ownerAdmits_iff.mpr howner]), if_neg (by simp [hrequest]), hfeed]
  rfl

end Feed

/-! ## RELEASE -/

theorem punchRelease_of_unowned (howner : s.punch.owner = none) :
    punchRelease s = s.accept 0x21 (.punchRelease .notOwned) := by
  unfold punchRelease
  rw [howner]

theorem punchRelease_of_other (howner : s.punch.owner = some .line ∨ s.punch.owner = some .loc) :
    punchRelease s = s.refuse 0x21 .punchBusy := by
  unfold punchRelease
  rcases howner with h | h <;> rw [h]

theorem punchRelease_of_atRest (howner : s.punch.owner = some .submitted) (hrest : s.punchAtRest = true) :
    punchRelease s = s.releasePunch.carryOn.accept 0x21 (.punchRelease .released) := by
  unfold punchRelease
  rw [howner]
  exact if_pos hrest

theorem punchRelease_of_busy (howner : s.punch.owner = some .submitted) (hbusy : s.punchAtRest = false) :
    punchRelease s = { s with punch := { s.punch with submittedRelease := true } }.accept 0x21
      (.punchRelease .pending) := by
  unfold punchRelease
  rw [howner]
  exact if_neg (by simp [hbusy])

/-! ## RESET -/

/-- R145: the spool emptied (log 39), the punch released without trailer, and a cycle in flight muted. -/
theorem State.resetPunch_eq (s : State) : s.resetPunch = State.noticeTapeOut { s with
    store := { s.store with free := s.store.punch.chain.reverse ++ s.store.free, punch := Spool.empty }
    punch := s.punch.resetSteps } s.punch.status := by
  unfold State.resetPunch
  rw [Store.emptySpool_eq]
  rfl

end Owners

/-! ## The commands and the pending reply -/

section Reply
variable (s : State) (p : PendingReply)

theorem State.claimPunch_withReply (k : Stream) : (s.withReply p).claimPunch k = (s.claimPunch k).withReply p := by
  unfold State.claimPunch
  rw [ite_withReply]
  rfl

/-- The reply of ON and OFF shows the punch, whatever reply was pending. -/
theorem State.acceptSwitch_withReply (t : State) (kind : Byte) (as : Bool) :
    (t.withReply p).accept kind (.punchSwitch (t.withReply p).punchState as) =
      t.accept kind (.punchSwitch t.punchState as) := rfl

theorem punchOn_withReply : punchOn (s.withReply p) = punchOn s := by
  unfold punchOn
  rw [State.setSwitch_withReply, State.carryOn_withReply]
  exact State.acceptSwitch_withReply p _ 0x1E _

theorem punchOff_withReply : punchOff (s.withReply p) = punchOff s := by
  unfold punchOff
  rw [State.setSwitch_withReply, State.carryOn_withReply]
  exact State.acceptSwitch_withReply p _ 0x1F _

theorem State.requestFeed_withReply (blanks : Nat) :
    (s.withReply p).requestFeed blanks = (s.requestFeed blanks).withReply p := by
  unfold State.requestFeed
  rw [State.claimPunch_withReply]

theorem punchFeed_withReply (count : Byte) : punchFeed count (s.withReply p) = punchFeed count s := by
  have hrequest : ∀ r, ((s.withReply p).requestFeed count.toNat).accept 0x20 r =
      (s.requestFeed count.toNat).accept 0x20 r := fun r => by
    rw [State.requestFeed_withReply]
    exact State.withReply_accept _ p 0x20 r
  unfold punchFeed
  rw [hrequest]
  rfl

theorem punchRelease_withReply : punchRelease (s.withReply p) = punchRelease s := by
  cases howner : s.punch.owner with
  | none =>
    rw [punchRelease_of_unowned howner, punchRelease_of_unowned (s := s.withReply p) howner]
    rfl
  | some k =>
    cases k with
    | line =>
      rw [punchRelease_of_other (.inl howner), punchRelease_of_other (s := s.withReply p) (.inl howner)]
      rfl
    | loc =>
      rw [punchRelease_of_other (.inr howner), punchRelease_of_other (s := s.withReply p) (.inr howner)]
      rfl
    | submitted =>
      cases hrest : s.punchAtRest with
      | false =>
        rw [punchRelease_of_busy howner hrest, punchRelease_of_busy (s := s.withReply p) howner hrest]
        rfl
      | true =>
        have hreleased : (s.withReply p).releasePunch.carryOn = s.releasePunch.carryOn.withReply p :=
          s.releasePunch.carryOn_withReply p
        rw [punchRelease_of_atRest howner hrest, punchRelease_of_atRest (s := s.withReply p) howner hrest, hreleased]
        exact State.withReply_accept _ p 0x21 _

theorem punchReset_withReply : punchReset (s.withReply p) = punchReset s := by
  unfold punchReset
  rw [State.resetPunch_withReply, State.carryOn_withReply]
  exact State.withReply_accept _ p 0x22 _

end Reply

/-! ## The frames reach their owners -/

section Taken
variable {s : State} (h : s.TakesCommands)
include h

theorem exec_punchOn : exec .punchOn s = .next (punchOn s) :=
  congrArg Host.Outcome.next (State.taken_eq h rfl rfl (punchOn_withReply s _))

theorem exec_punchOff : exec .punchOff s = .next (punchOff s) :=
  congrArg Host.Outcome.next (State.taken_eq h rfl rfl (punchOff_withReply s _))

theorem exec_punchFeed (count : Byte) : exec (.punchFeed count) s = .next (punchFeed count s) :=
  congrArg Host.Outcome.next
    ((State.hostCommand_taken h _ rfl rfl (by simp)).trans (punchFeed_withReply s _ count))

theorem exec_punchRelease : exec .punchRelease s = .next (punchRelease s) :=
  congrArg Host.Outcome.next (State.taken_eq h rfl rfl (punchRelease_withReply s _))

theorem exec_punchReset : exec .punchReset s = .next (punchReset s) :=
  congrArg Host.Outcome.next (State.taken_eq h rfl rfl (punchReset_withReply s _))

end Taken

/-! ## The obligation -/

/-- Settles O31: each frame reaches its owner, and each answer of the owner is an equation by what it finds. -/
theorem punchCommandsComplete : Obligations.PunchCommandsComplete := by
  refine ⟨fun s h => ⟨fun count => ?feed, ?released⟩, fun s v u on h hv hu => ?switched⟩
  case feed =>
    rw [exec_punchFeed h]
    refine ⟨fun hzero => congrArg Host.Outcome.next (punchFeed_of_zero hzero), fun hcount howner =>
      congrArg Host.Outcome.next (punchFeed_of_other hcount howner), fun hcount howner =>
      ⟨fun hrequest => congrArg Host.Outcome.next (punchFeed_of_request hcount howner hrequest),
        fun hrequest u hu => congrArg Host.Outcome.next (punchFeed_of_free hcount howner hrequest hu)⟩⟩
  case released =>
    rw [exec_punchRelease h, exec_punchReset h, punchReset, State.resetPunch_eq]
    exact ⟨fun howner => congrArg Host.Outcome.next (punchRelease_of_unowned howner),
      fun howner => congrArg Host.Outcome.next (punchRelease_of_other howner),
      fun howner => ⟨fun hrest => congrArg Host.Outcome.next (punchRelease_of_atRest howner hrest),
        fun hbusy => congrArg Host.Outcome.next (punchRelease_of_busy howner hbusy)⟩, rfl⟩
  case switched =>
    rw [exec_punchOn h, exec_punchOff h, punchOn, punchOff]
    have hset := congrArg State.carryOn (State.setSwitch_eq s on hv)
    rw [← hu] at hset
    refine ⟨fun hon => ?_, fun hoff => ?_⟩
    · rw [← hon, hset]
      rfl
    · rw [← hoff, hset]
      rfl

end Sys2Proof.Machine
end

section
/-! SET KEYBOARD MODE (R158, R159): a change of the mode as one next state, and the command by its field. -/

namespace Sys2Proof.Machine

/-! ## The change of mode -/

section Effects
variable (s : State) (c : Prop) [Decidable c]

/-- R158: entry to LOCAL re-arms KEYED LOCAL and cancels a pending LOCAL release. -/
theorem State.entryToLocal_eq :
    (if c then { s.rearm .keyedLocal with punch := { s.punch with localRelease := false } } else s) =
      { s with
        routes := if c then { s.routes with keyedLocal := s.routes.keyedLocal.rearm } else s.routes
        punch := { s.punch with localRelease := if c then false else s.punch.localRelease } } := by
  split <;> rfl

/-- R158: the exit of the owner from LOCAL makes a release pending. -/
theorem State.exitFromLocal_eq :
    (if c then { s with punch := { s.punch with localRelease := true } } else s) =
      { s with punch := { s.punch with localRelease := if c then true else s.punch.localRelease } } := by
  split <;> rfl

/-- R158: the feed held is cleared. -/
theorem State.feedGivenUp_eq :
    (if c then { s with punch := { s.punch with feedHeld := false } } else s) =
      { s with punch := { s.punch with feedHeld := s.punch.feedHeld && !decide c } } := by
  split <;> simp [*]

end Effects

/-- R158: the effects of a change to another mode, as one next state. -/
theorem State.modeEffects_of_ne (s : State) {b m : KeyboardMode} (h : b ≠ m) :
    s.modeEffects b m = { s with
      routes := if m = .loc then { s.routes with keyedLocal := s.routes.keyedLocal.rearm } else s.routes
      punch := { s.punch with
        localRelease := if b = .loc ∧ s.punch.owner = some .loc then true
          else if m = .loc then false else s.punch.localRelease
        feedHeld := s.punch.feedHeld && !(decide (b = .loc ∨ b = .line) && decide (m = .raw ∨ m = .locked)) } } := by
  refine (if_neg h).trans ((State.feedGivenUp_eq _ _).trans ?_)
  rw [State.exitFromLocal_eq, State.entryToLocal_eq, Bool.decide_and]

/-- R158: the mode is set with the effects of the change; the same mode again has none. -/
theorem State.changeMode_eq (s : State) (m : KeyboardMode) {b : KeyboardMode} (hb : b = s.keyboard.mode) :
    s.changeMode m = { s with
      routes := if m = .loc ∧ b ≠ .loc then { s.routes with keyedLocal := s.routes.keyedLocal.rearm } else s.routes
      punch := { s.punch with
        localRelease := if m = .loc ∧ b ≠ .loc then false
          else if b = .loc ∧ m ≠ .loc ∧ s.punch.owner = some .loc then true else s.punch.localRelease
        feedHeld := s.punch.feedHeld && !(decide (b = .loc ∨ b = .line) && decide (m = .raw ∨ m = .locked)) }
      keyboard := { s.keyboard with mode := m } } := by
  unfold State.changeMode
  rw [← hb]
  by_cases h : b = m
  · have hentry : ¬ (m = .loc ∧ b ≠ .loc) := fun hm => hm.2 (h.trans hm.1)
    have hexit : ¬ (b = .loc ∧ m ≠ .loc ∧ s.punch.owner = some .loc) := fun hl => hl.2.1 (h.symm.trans hl.1)
    have hfeed : (decide (b = .loc ∨ b = .line) && decide (m = .raw ∨ m = .locked)) = false := by
      rw [h]; cases m <;> rfl
    rw [State.modeEffects, if_pos h, if_neg hentry, if_neg hentry, if_neg hexit, hfeed, Bool.not_false, Bool.and_true]
  · rw [State.modeEffects_of_ne s h]
    by_cases hm : m = .loc
    · simp [hm, show b ≠ .loc from fun hloc => h (hloc.trans hm.symm)]
    · simp [hm]

/-! ## The command -/

/-- R173: a field above 3 names no mode. -/
theorem modeOf_of_ge {field : Byte} (h : 4 ≤ field.toNat) : modeOf field = none := by
  unfold modeOf
  split
  case h_5 => rfl
  all_goals omega

theorem setKeyboardMode_withReply (s : State) (p : PendingReply) (field : Byte) :
    setKeyboardMode field (s.withReply p) = setKeyboardMode field s := by
  unfold setKeyboardMode
  split
  · rfl
  · rw [State.changeMode_withReply, State.carryOn_withReply, State.withReply_accept, State.withReply_refuse]

/-- A SET KEYBOARD MODE frame in turn reaches the Keyboard Scanner (R159, R173). -/
theorem exec_setKeyboardMode {s : State} (h : s.TakesCommands) (field : Byte) :
    exec (.setKeyboardMode field) s = .next (setKeyboardMode field s) :=
  congrArg Host.Outcome.next
    ((State.hostCommand_taken h _ rfl rfl (by simp)).trans (setKeyboardMode_withReply s _ field))

section Command
variable {s : State} {field : Byte} {m : KeyboardMode} (hm : modeOf field = some m)
include hm

/-- R159: without a key map LOCAL and LINE are refused. -/
theorem setKeyboardMode_of_refused (hmap : s.isl.keyMap = none) (hmode : m = .loc ∨ m = .line) :
    setKeyboardMode field s = s.refuse 0x23 .wrongState := by
  unfold setKeyboardMode
  rw [hm]
  exact if_pos ⟨hmode, by rw [hmap]; rfl⟩

/-- R159: the mode is changed, and the reply gives the modes before and after. -/
theorem setKeyboardMode_of_taken (hmap : m = .loc ∨ m = .line → s.isl.keyMap ≠ none) :
    setKeyboardMode field s = (s.changeMode m).carryOn.accept 0x23 (.keyboardMode s.keyboard.mode m) := by
  unfold setKeyboardMode
  rw [hm]
  exact if_neg fun h => hmap h.1 (by simpa using h.2)

end Command

/-- Settles O32: the field is read, LOCAL and LINE need the key map, and the change of mode is one next state. -/
theorem keyboardModeIsSetWithItsEffects : Obligations.KeyboardModeIsSetWithItsEffects := by
  intro field s h
  rw [exec_setKeyboardMode h]
  refine ⟨fun hbad => ?_, fun m hm => ⟨fun hmap hmode => ?_, fun hmap b hb => ?_⟩⟩
  · rw [setKeyboardMode, modeOf_of_ge hbad]
  · rw [setKeyboardMode_of_refused hm hmap hmode]
  · rw [setKeyboardMode_of_taken hm hmap, State.changeMode_eq s m hb, hb]
    rfl

end Sys2Proof.Machine
end

section
/-! CONFIRMED_PRESS and CONFIRMED_RELEASE (R148 to R157): the reading a row takes, the state in which its key is acted on,
and what each key does in that state. -/

namespace Sys2Proof.Machine

/-! ## The reading of a confirmation -/

section Reading
variable (s : State) (p : Fin 64)

theorem State.atReading_of_stopped (h : s.keyboard.scanStart = none) : s.atReading p = s := by
  rw [State.atReading, h]

/-- R148, R149: the tick of the reading taken `t` from the start of scanning. -/
def State.readingDue (t : Nat) : Nat := t + stepTicks (s.keyboard.readingPass p (s.now - t)) (columnOf p)

theorem State.readingDue_eq (t : Nat) :
    s.readingDue p t = t + (8 * s.keyboard.readingPass p (s.now - t) + p.val / 8) * 100 := by
  simp [State.readingDue, stepTicks, columnOf, Config.columns, Config.ms, Nat.mul_comm]

variable {s p} {t : Nat} (h : s.keyboard.scanStart = some t)
include h

theorem State.atReading_of_scanning : s.atReading p =
    { s with
      now := max s.now (s.readingDue p t)
      keyboard := s.keyboard.takeReading p (s.keyboard.readingPass p (s.now - t)) } := by
  rw [State.atReading, h]
  rfl

omit h in
/-- R149: the reading is the first one possible: an earlier one is no third reading, lies before the next reading of the
scan, or is in a step that has ended. -/
theorem State.readingDue_first : s.keyboard.readingPass p (s.now - t) = s.keyboard.thirdFrom.getD p.val 2 ∨
    64 * s.keyboard.readingPass p (s.now - t) + p.val < s.keyboard.nextReading + 64 ∨
    s.readingDue p t ≤ s.now + 700 := by
  rw [State.readingDue_eq]
  simp only [Keyboard.readingPass, columnPass, columnOf, Config.columns, Config.ms, Config.keyPositions]
  omega

/-- R148: at the beginning of its step the column of the position is driven. -/
theorem State.drivenColumn_atReading (hdue : s.now ≤ s.readingDue p t) :
    (s.atReading p).drivenColumn = some (p.val / 8) := by
  have hrelease : columnReleaseTicks < 100 := by
    simp only [columnReleaseTicks, Config.ms]
    omega
  have hnow : (s.atReading p).now - t = (8 * s.keyboard.readingPass p (s.now - t) + p.val / 8) * 100 := by
    rw [State.atReading_of_scanning h]
    have := s.readingDue_eq p t
    simp only
    omega
  simp only [State.drivenColumn, State.atReading_scanStart, h, Option.bind_some, hnow, Config.ms, columnStep,
    Config.columns]
  rw [if_pos (by omega)]
  congr 1
  omega

end Reading

/-- R148, R149: the reading that a row takes. -/
theorem State.atReading_spec (s : State) (p : Fin 64) {t : Nat} (ht : s.keyboard.scanStart = some t) :
    ∃ k due : Nat, due = t + (8 * k + p.val / 8) * 100 ∧ s.keyboard.thirdFrom.getD p.val 2 ≤ k ∧
      s.keyboard.nextReading ≤ 64 * k + p.val ∧ s.now < due + 100 ∧
      (k = s.keyboard.thirdFrom.getD p.val 2 ∨ 64 * k + p.val < s.keyboard.nextReading + 64 ∨ due ≤ s.now + 700) ∧
      s.atReading p = { s with
        now := max s.now due
        keyboard := { s.keyboard with
          thirdFrom := s.keyboard.thirdFrom.set p.val (k + 3), nextReading := 64 * k + p.val + 1 } } ∧
      (s.now ≤ due → (s.atReading p).drivenColumn = some (p.val / 8)) := by
  have hdue := s.readingDue_eq p t
  obtain ⟨hthird, hnext, hstep, -⟩ := s.keyboard.readingPass_bounds p (s.now - t)
  refine ⟨s.keyboard.readingPass p (s.now - t), s.readingDue p t, hdue, hthird, hnext, ?_, State.readingDue_first,
    State.atReading_of_scanning ht, State.drivenColumn_atReading ht⟩
  simp only [columnOf] at hstep
  omega

/-! ## The state in which a key is acted on -/

/-- What a key acts by: all that a reading leaves (R151 to R157). -/
structure State.KeysAlike (s d : State) : Prop where
  store : d.store = s.store
  ltx : d.ltx = s.ltx
  call : d.call = s.call
  punch : d.punch = s.punch
  motor : d.motor = s.motor
  isl : d.isl = s.isl
  mode : d.keyboard.mode = s.keyboard.mode
  kbdCase : d.keyboard.kbdCase = s.keyboard.kbdCase

theorem State.KeysAlike.keyEntry {s d : State} (h : s.KeysAlike d) (p : Fin 64) : d.keyEntry p = s.keyEntry p := by
  rw [State.keyEntry, h.isl, State.keyEntry]

/-- R149: three agreeing readings change the position that they disagree with. -/
theorem State.confirmPosition_atReading {s : State} {p : Fin 64} {down : Bool}
    (hlevel : (s.keyboard.position p).level = some (!down)) : (s.atReading p).confirmPosition p down =
      { s.atReading p with keyboard := { (s.atReading p).keyboard with
        positions := s.keyboard.positions.set p.val (Filter.at down) } } := by
  have hposition : (s.atReading p).keyboard.position p = s.keyboard.position p := by simp [Keyboard.position]
  rw [State.confirmPosition, hposition, Filter.threeSamples_change hlevel, State.atReading_positions]

section Confirmed
variable {s b d : State} {p : Fin 64} (hb : b = s.atReading p)
include hb

theorem State.confirmed_alike {positions : List Filter}
    (hd : d = { b with keyboard := { b.keyboard with positions := positions } }) : s.KeysAlike d := by
  subst hb hd
  constructor <;> simp

variable (hready : s.isl.loader = .ready)
include hready

theorem exec_confirmedPress (hlevel : (s.keyboard.position p).level = some false)
    (hd : d = { b with keyboard := { b.keyboard with
      positions := s.keyboard.positions.set p.val (Filter.at true) } }) :
    exec (.confirmedPress p) s = .next (d.actOnPress p) := by
  subst hb hd
  rw [← State.confirmPosition_atReading hlevel]
  exact congrArg Host.Outcome.next (if_pos ⟨by simp [State.ready, hready], hlevel⟩)

theorem exec_confirmedRelease (hlevel : (s.keyboard.position p).level = some true)
    (hd : d = { b with keyboard := { b.keyboard with
      positions := s.keyboard.positions.set p.val (Filter.at false) } }) :
    exec (.confirmedRelease p) s = .next (d.actOnRelease p) := by
  subst hb hd
  rw [← State.confirmPosition_atReading hlevel]
  exact congrArg Host.Outcome.next (if_pos ⟨by simp [State.ready, hready], hlevel⟩)

end Confirmed

/-! ## The modes -/

section Modes
variable {s : State} (p : Fin 64)

theorem State.actOnPress_of_raw (h : s.keyboard.mode = .raw) : s.actOnPress p = s.notice (.key p true) := by
  rw [State.actOnPress, h]

theorem State.actOnPress_of_locked (h : s.keyboard.mode = .locked) : s.actOnPress p = s := by
  rw [State.actOnPress, h]

theorem State.actOnRelease_of_raw (h : s.keyboard.mode = .raw) : s.actOnRelease p = s.notice (.key p false) := by
  rw [State.actOnRelease, h]

theorem State.actOnRelease_of_locked (h : s.keyboard.mode = .locked) : s.actOnRelease p = s := by
  rw [State.actOnRelease, h]

variable {p} (hmode : s.keyboard.mode = .loc ∨ s.keyboard.mode = .line)
include hmode

theorem State.actOnPress_of_none (he : s.keyEntry p = .none) : s.actOnPress p = s := by
  rcases hmode with h | h <;> rw [State.actOnPress, h] <;> exact if_pos he

theorem State.actOnPress_of_key {e : KeyEntry} (he : s.keyEntry p = e) (hne : e ≠ .none) :
    s.actOnPress p = (s.pressKey e).carryOn := by
  subst he
  rcases hmode with h | h <;> rw [State.actOnPress, h] <;> exact if_neg hne

theorem State.actOnRelease_of_other (he : s.keyEntry p ≠ .function .feed) : s.actOnRelease p = s := by
  rcases hmode with h | h <;> rw [State.actOnRelease, h] <;> exact if_neg he

theorem State.actOnRelease_of_feed (he : s.keyEntry p = .function .feed) :
    s.actOnRelease p = s.endFeed.carryOn := by
  rcases hmode with h | h <;> rw [State.actOnRelease, h] <;> exact if_pos he

theorem State.pressMode_eq : s.pressMode = s.changeMode (if s.keyboard.mode = .loc then .line else .loc) := by
  rcases hmode with h | h <;> simp [State.pressMode, h]

end Modes

/-! ## The keys of LOCAL and LINE -/

section Keys
variable {s : State}

theorem State.keysToLine_iff : s.keysToLine = true ↔ s.keyboard.mode = .line ∧ s.call.state = .connected := by
  simp [State.keysToLine]

/-- R152: the cell of a code key. -/
theorem State.keyCell_eq (c : Code) (req : Option Case) : s.keyCell c req =
    { code := c
      case := if c = s.isl.functionMap.lettersShift then .letters
        else if c = s.isl.functionMap.figuresShift then .figures else req.getD s.keyboard.kbdCase
      origin := .loc, quality := .clean } := by
  rw [State.keyCell, FunctionMap.shiftCase_getD]
  rfl

/-- R152: only an accepted shift key changes the keyboard case. -/
theorem State.acceptKey_eq (c : Code) : s.acceptKey c = { s with keyboard := { s.keyboard with
    kbdCase := if c = s.isl.functionMap.lettersShift then .letters
      else if c = s.isl.functionMap.figuresShift then .figures else s.keyboard.kbdCase } } := by
  rw [State.acceptKey, FunctionMap.shiftCase_getD]
  rfl

theorem State.keyToSend_of_room {cell : Cell} (h : s.store.spoolRefusal .send = none) : s.keyToSend cell =
    (State.acceptKey { s with store := s.store.append .send { cell := cell, stream := none } } cell.code).endHold :=
  if_pos (by rw [h]; rfl)

theorem State.keyToSend_of_refusal {cell : Cell} (h : s.store.spoolRefusal .send ≠ none) :
    s.keyToSend cell = s.ringBell := if_neg (by simpa using h)

section Local
variable {cell : Cell} {u : State} {placed : Nat} {loss : Option (SpaceTarget × SpaceReason)}
  (hpresent : s.present .keyedLocal cell = (u, placed, loss))
include hpresent

theorem State.keyToLocal_of_lost (h : placed = 0) : s.keyToLocal cell = u.ringBell := by
  rw [State.keyToLocal, hpresent]
  exact if_pos h

theorem State.keyToLocal_of_placed (h : placed ≠ 0) : s.keyToLocal cell = u.acceptKey cell.code := by
  rw [State.keyToLocal, hpresent]
  exact if_neg h

theorem State.presented_keeps : s.SameButTraffic u := by
  have h := s.present_keeps .keyedLocal cell
  rwa [hpresent] at h

end Local

/-! ### BREAK and HERE-IS -/

/-- R155: BREAK is a request in LINE while CONNECTED, and else the bell. -/
theorem State.pressBreak_eq : s.pressBreak =
    if s.keyboard.mode = .line ∧ s.call.state = .connected then { s with ltx := { s.ltx with breakRequest := true } }
    else { s with motor := { s.motor with bell := some (s.now + 10000) } } := by
  simp only [State.pressBreak, State.keysToLine_iff]
  rfl

theorem State.pressHereIs_of_started (hline : s.keysToLine = true) (hnone : s.ltx.answerback = none)
    (hcells : s.isl.answerback ≠ []) :
    s.pressHereIs = { s with ltx := { s.ltx with answerback := some 0 } } := by
  simp [State.pressHereIs, hline, State.triggerAnswerback, State.answerbackResult, hnone, hcells]

theorem State.pressHereIs_of_idle (hline : s.keysToLine = true)
    (h : s.ltx.answerback ≠ none ∨ s.isl.answerback = []) : s.pressHereIs = s := by
  have hresult : s.answerbackResult ≠ .started := by
    unfold State.answerbackResult
    rcases h with h | h
    · rw [if_pos (Option.isSome_iff_ne_none.mpr h)]
      exact nofun
    · split_ifs <;> simp_all
  rw [State.pressHereIs, if_pos hline, State.triggerAnswerback]
  split
  · next hs => exact absurd hs hresult
  · rfl

section HereIs
variable (hline : ¬ s.keysToLine = true)
include hline

theorem State.pressHereIs_of_empty (h : s.isl.answerback = []) : s.pressHereIs = s := by
  rw [State.pressHereIs, if_neg hline, h]
  rfl

theorem State.pressHereIs_of_room (hcells : s.isl.answerback ≠ [])
    (hroom : s.isl.answerback.length ≤ s.store.capacity .pLocal) :
    s.pressHereIs = { s with store := s.store.appendAll .pLocal s.answerbackCells } := by
  have hlength : s.answerbackCells.length = s.isl.answerback.length := List.length_map _
  rw [State.pressHereIs, if_neg hline, if_neg (by simpa using hcells), Store.batch, if_pos (hlength ▸ hroom)]

theorem State.pressHereIs_of_full (hfull : s.store.capacity .pLocal < s.isl.answerback.length) :
    s.pressHereIs = s.ringBell := by
  have hcells : s.isl.answerback ≠ [] := List.ne_nil_of_length_pos (Nat.zero_lt_of_lt hfull)
  have hlength : s.answerbackCells.length = s.isl.answerback.length := List.length_map _
  rw [State.pressHereIs, if_neg hline, if_neg (by simpa using hcells), Store.batch, if_neg (by omega)]

end HereIs

/-! ### FEED -/

theorem State.pressFeed_of_unowned (ht : s.punch.status = .onIdle ∨ s.punch.status = .cycle)
    (howner : s.punch.owner = none) : s.pressFeed = { s with punch := { s.punch with
      owner := some .loc, tapeCase := .unknown, leader := 0, lineRelease := .none, localRelease := false,
      submittedRelease := false, clearRelease := false, releaseTimer := none, feedHeld := true } } := by
  simp [State.pressFeed, State.punchTakes_iff.mpr ht, State.ownerAdmits_iff.mpr (.inl howner), State.claimPunch, howner]

theorem State.pressFeed_of_owner (ht : s.punch.status = .onIdle ∨ s.punch.status = .cycle)
    (howner : s.punch.owner = some .loc) :
    s.pressFeed = { s with punch := { s.punch with feedHeld := true } } := by
  simp [State.pressFeed, State.punchTakes_iff.mpr ht, State.ownerAdmits_iff.mpr (.inr howner), State.claimPunch, howner]

theorem State.pressFeed_of_refused (h : (s.punch.status ≠ .onIdle ∧ s.punch.status ≠ .cycle) ∨
    s.punch.owner = some .line ∨ s.punch.owner = some .submitted) : s.pressFeed = s.ringBell := by
  have hrefused : ¬ (s.punchTakes = true ∧ s.ownerAdmits .loc = true) := by
    rw [State.punchTakes_iff, State.ownerAdmits_iff]
    rcases h with h | h | h <;> simp [h]
  exact if_neg (by simpa using hrefused)

end Keys

/-! ## The obligation -/

/-- Settles O36: the reading gives the state in which the key is acted on; the mode, the key map and what the store, the
route, the answerback and the punch take decide among the lemmas of the keys. -/
theorem keysActByTheMode : Obligations.KeysActByTheMode := by
  refine ⟨fun p s => ⟨s.atReading_of_stopped p, fun t => s.atReading_spec p⟩, ?modes, ?codes, ?functions⟩
  case modes =>
    intro p s b u d hready _ hb hd hu
    refine ⟨fun hlevel => ?_, fun hlevel => ?_⟩
    · have hd' := State.confirmed_alike hb hd
      have hnow : d.now = b.now := by rw [hd]
      rw [exec_confirmedPress hb hready hlevel hd, ← hd'.mode, ← hd'.keyEntry, ← hd'.call, ← hnow]
      refine ⟨fun hmode => ?_, fun hmode => ?_, fun hmode => ⟨fun he => ?_, fun he => ?_, fun he => ?_⟩⟩
      · rw [State.actOnPress_of_raw p hmode]
      · rw [State.actOnPress_of_locked p hmode]
      · rw [State.actOnPress_of_none hmode he]
      · rw [State.actOnPress_of_key hmode he nofun, State.pressKey, State.pressMode_eq hmode]
      · rw [State.actOnPress_of_key hmode he nofun, State.pressKey, State.pressBreak_eq]
        exact ⟨fun hline => by rw [if_pos hline], fun hline => by rw [if_neg hline]⟩
    · have hu' := State.confirmed_alike hb hu
      rw [exec_confirmedRelease hb hready hlevel hu, ← hu'.mode, ← hu'.keyEntry]
      refine ⟨fun hmode => ?_, fun hmode => ?_, fun hmode => ⟨fun he => ?_, fun he => ?_⟩⟩
      · rw [State.actOnRelease_of_raw p hmode]
      · rw [State.actOnRelease_of_locked p hmode]
      · rw [State.actOnRelease_of_other hmode he]
      · rw [State.actOnRelease_of_feed hmode he]
        rfl
  case codes =>
    intro p code req cell s b d hready _ hlevel hmode he hcell hb hd
    have hd' := State.confirmed_alike hb hd
    have hnow : d.now = b.now := by rw [hd]
    rw [← hd'.mode] at hmode
    rw [← hd'.keyEntry] at he
    rw [← hd'.isl, ← hd'.kbdCase, ← State.keyCell_eq] at hcell
    rw [exec_confirmedPress hb hready hlevel hd, State.actOnPress_of_key hmode he nofun, State.pressKey,
      State.pressCode, ← hcell, ← hd'.mode, ← hd'.call, ← hd'.store, ← hd'.ltx, ← hd'.motor, ← hd'.isl, ← hd'.kbdCase,
      ← hnow, ← State.keysToLine_iff]
    refine ⟨fun hline => ?_, fun hline u placed loss hpresent => ?_⟩
    · rw [if_pos hline]
      refine ⟨fun hroom => ?_, fun hrefused => ?_⟩
      · rw [State.keyToSend_of_room hroom, State.acceptKey_eq, hcell]
        rfl
      · rw [State.keyToSend_of_refusal hrefused]
        rfl
    · have hu := State.presented_keeps hpresent
      rw [if_neg hline, ← hu.isl, ← hu.keyboard, ← hu.now]
      refine ⟨fun hlost => ?_, fun hplaced => ?_⟩
      · rw [State.keyToLocal_of_lost hpresent hlost]
        rfl
      · rw [State.keyToLocal_of_placed hpresent hplaced, State.acceptKey_eq, hcell]
        rfl
  case functions =>
    intro p s b d hready _ hlevel hmode hb hd
    have hd' := State.confirmed_alike hb hd
    have hnow : d.now = b.now := by rw [hd]
    rw [← hd'.mode] at hmode
    rw [exec_confirmedPress hb hready hlevel hd, ← hd'.keyEntry, ← hd'.mode, ← hd'.call, ← hd'.store, ← hd'.ltx,
      ← hd'.motor, ← hd'.isl, ← hd'.punch, ← hnow, ← State.keysToLine_iff]
    refine ⟨fun he => ?_, fun he => ?_⟩
    · rw [State.actOnPress_of_key hmode he nofun, State.pressKey]
      refine ⟨fun hline => ⟨fun hnone hcells => ?_, fun hidle => ?_⟩,
        fun hline => ⟨fun hempty => ?_, fun hcells hroom => ?_, fun hfull => ?_⟩⟩
      · rw [State.pressHereIs_of_started hline hnone hcells]
      · rw [State.pressHereIs_of_idle hline hidle]
      · rw [State.pressHereIs_of_empty hline hempty]
      · rw [State.pressHereIs_of_room hline hcells hroom]
        rfl
      · rw [State.pressHereIs_of_full hline hfull]
        rfl
    · rw [State.actOnPress_of_key hmode he nofun, State.pressKey]
      refine ⟨fun htakes => ⟨fun howner => ?_, fun howner => ?_⟩, fun hrefused => ?_⟩
      · rw [State.pressFeed_of_unowned htakes howner]
      · rw [State.pressFeed_of_owner htakes howner]
      · rw [State.pressFeed_of_refused hrefused]
        rfl

end Sys2Proof.Machine
end

section
/-! SUPPORT. What leaves the keyboard and the identity store as they are: the choices that follow a step, and the operations
of the lines, the calls, the mechanisms, the store and the Message File. -/

namespace Sys2Proof.Machine

/-- The keyboard and the identity store are as they were. Reducible, so that such a fact rewrites both. -/
@[simp, reducible] def State.SameKeyboard (s t : State) : Prop := t.keyboard = s.keyboard ∧ t.isl = s.isl

theorem State.SameKeyboard.trans {s t u : State} (h : s.SameKeyboard t) (k : t.SameKeyboard u) : s.SameKeyboard u :=
  ⟨k.1.trans h.1, k.2.trans h.2⟩

theorem State.SameButTraffic.sameKeyboard {s t : State} (h : s.SameButTraffic t) : s.SameKeyboard t :=
  ⟨h.keyboard, h.isl⟩

variable (s : State)

/-- The choices leave the keyboard (log 7). -/
@[simp] theorem State.carryOn_sameKeyboard : s.SameKeyboard s.carryOn :=
  ⟨s.carryOn_takesUp.choicesKeep.keyboard, s.carryOn_takesUp.choicesKeep.isl⟩

/-- The Line Sender's choice leaves the keyboard (R57). -/
@[simp] theorem State.sendChoice_sameKeyboard : s.SameKeyboard s.sendChoice :=
  ⟨s.sendChoice_takesUp.choicesKeep.keyboard, s.sendChoice_takesUp.choicesKeep.isl⟩

/-! ## The Message File and the routes -/

@[simp] theorem State.endFiling_sameKeyboard (cause : FilingCause) : s.SameKeyboard (s.endFiling cause) := by
  unfold State.endFiling
  dsimp only
  split
  · next m _ => exact (s.closeMessage_sameButTraffic m cause).sameKeyboard
  · exact ⟨rfl, rfl⟩

@[simp] theorem State.advanceReplay_sameKeyboard (r : Replay) (total : Nat) :
    s.SameKeyboard (s.advanceReplay r total) := by
  unfold State.advanceReplay
  split <;> simp

@[simp] theorem State.replayCell_sameKeyboard (t : ReplayTarget) (c : Cell) : s.SameKeyboard (s.replayCell t c) := by
  cases t <;> simp [State.replayCell, State.appendPunch]

@[simp] theorem State.present_sameKeyboard (n : RouteName) (c : Cell) : s.SameKeyboard (s.present n c).1 :=
  (s.present_keeps n c).sameKeyboard

theorem replayCopy_sameKeyboard : s.SameKeyboard (replayCopy s) := by
  unfold replayCopy
  repeat' split
  all_goals simp

/-! ## Calls -/

@[simp] theorem State.reportLoss_sameKeyboard (loss : Option (SpaceTarget × SpaceReason)) :
    s.SameKeyboard (s.reportLoss loss) := by
  unfold State.reportLoss
  dsimp only
  repeat' split
  all_goals simp

@[simp] theorem State.tryConnect_sameKeyboard : s.SameKeyboard s.tryConnect := by
  unfold State.tryConnect State.enterConnected
  split <;> simp

@[simp] theorem State.enterAnswering_sameKeyboard : s.SameKeyboard s.enterAnswering := by
  simp [State.enterAnswering]

@[simp] theorem State.enterCalling_sameKeyboard : s.SameKeyboard s.enterCalling := by
  simp [State.enterCalling]

@[simp] theorem State.failAttempt_sameKeyboard (o : CallOutcome) : s.SameKeyboard (s.failAttempt o) := ⟨rfl, rfl⟩

@[simp] theorem State.declineOffer_sameKeyboard : s.SameKeyboard s.declineOffer := ⟨rfl, rfl⟩

@[simp] theorem State.endClearing_sameKeyboard : s.SameKeyboard s.endClearing := by
  unfold State.endClearing State.clearedNotice
  split <;> simp

@[simp] theorem State.endReleasing_sameKeyboard : s.SameKeyboard s.endReleasing := by
  unfold State.endReleasing
  dsimp only
  split <;> simp

@[simp] theorem State.enterClearing_sameKeyboard (cause : CallOutcome) : s.SameKeyboard (s.enterClearing cause) := by
  unfold State.enterClearing State.beginClearing State.leaveLine State.timeClearing
  dsimp only
  split <;> simp

@[simp] theorem State.takeClear_sameKeyboard : s.SameKeyboard s.takeClear := by
  unfold State.takeClear
  split <;> simp

@[simp] theorem State.callLevelChange_sameKeyboard (level : Level) (te : Nat) :
    s.SameKeyboard (s.callLevelChange level te) := by
  unfold State.callLevelChange
  split <;> exact ⟨rfl, rfl⟩

@[simp] theorem State.recognise_sameKeyboard : s.SameKeyboard s.recognise := by
  unfold State.recognise State.enterOffered
  split <;> simp

@[simp] theorem State.withdrawn_sameKeyboard : s.SameKeyboard s.withdrawn := by
  unfold State.withdrawn
  split <;> simp

/-! ## The Line Receiver -/

@[simp] theorem State.tellDelivered_sameKeyboard (cell : Cell) (enquiry : Bool) :
    s.SameKeyboard (s.tellDelivered cell enquiry) := by
  unfold State.tellDelivered State.takeEnquiry
  dsimp only
  repeat' split
  all_goals simp

@[simp] theorem State.recordDelivery_sameKeyboard (k : Quality) : s.SameKeyboard (s.recordDelivery k) := by
  unfold State.recordDelivery State.poorCharacter
  dsimp only
  repeat' split
  all_goals simp

@[simp] theorem State.ensureBreak_sameKeyboard (r : SpaceRun) : s.SameKeyboard (s.ensureBreak r) := by
  unfold State.ensureBreak State.reachBreak State.discardPending State.poorCharacter
  dsimp only
  repeat' split
  all_goals simp

@[simp] theorem State.handOn_sameKeyboard (c : Cell) (enquiry : Bool) : s.SameKeyboard (s.handOn c enquiry) := by
  simp [State.handOn]

@[simp] theorem State.markInRun_sameKeyboard (r : SpaceRun) (te : Nat) : s.SameKeyboard (s.markInRun r te) := by
  unfold State.markInRun State.deliverSubstituted
  dsimp only
  repeat' split
  all_goals simp

/-! ## The rows of the line -/

/-- What a timer does on its expiry is all that its row does to the keyboard (log 1). -/
theorem State.onTimer_sameKeyboard {timer : Option Nat} {act : State → State}
    (hact : ∀ t : State, t.SameKeyboard (act t)) : s.SameKeyboard (s.onTimer timer act) := by
  unfold State.onTimer
  split
  · exact hact _
  · exact ⟨rfl, rfl⟩

/-- What a sample reads is all that its row does to the keyboard. -/
theorem State.atSample_sameKeyboard {act : State → Assembly → State} (k : Nat)
    (hact : ∀ (t : State) a, t.SameKeyboard (act t a)) : s.SameKeyboard (s.atSample k act) := by
  unfold State.atSample
  repeat' split
  all_goals simp [hact _ _]

theorem rxFilteredChange_sameKeyboard (level : Level) (te : Nat) : s.SameKeyboard (rxFilteredChange level te s) := by
  unfold rxFilteredChange State.receiverChange State.startEdge
  dsimp only
  repeat' split
  all_goals simp

theorem startSample_sameKeyboard : s.SameKeyboard (startSample s) := by
  refine s.atSample_sameKeyboard 0 fun t a => ?_
  unfold State.readStart
  split <;> simp

theorem unitSample_sameKeyboard : s.SameKeyboard (unitSample s) := by
  unfold unitSample
  split
  · split
    · exact s.atSample_sameKeyboard _ fun _ _ => ⟨rfl, rfl⟩
    · exact ⟨rfl, rfl⟩
  · exact ⟨rfl, rfl⟩

theorem stopSample_sameKeyboard : s.SameKeyboard (stopSample s) := by
  refine s.atSample_sameKeyboard 6 fun t a => ?_
  unfold State.readStop State.deliverReceived State.recordDistortion
  dsimp only
  repeat' split
  all_goals simp

theorem breakThreshold_sameKeyboard : s.SameKeyboard (breakThreshold s) := by
  unfold breakThreshold State.reachBreak State.discardPending State.poorCharacter
  dsimp only
  repeat' split
  all_goals simp

theorem clearThreshold_sameKeyboard : s.SameKeyboard (clearThreshold s) := by
  unfold clearThreshold
  split <;> simp

theorem turnaroundGuardExpiry_sameKeyboard : s.SameKeyboard (turnaroundGuardExpiry s) :=
  s.onTimer_sameKeyboard fun _ => by simp

theorem characterSent_sameKeyboard : s.SameKeyboard (characterSent s) := by
  unfold characterSent State.characterEnds
  dsimp only
  repeat' split
  all_goals simp

theorem breakKeyingEnd_sameKeyboard : s.SameKeyboard (breakKeyingEnd s) := by
  unfold breakKeyingEnd
  split <;> simp

/-! ## The rows of the call timers and of the motor -/

theorem callRecognition_sameKeyboard : s.SameKeyboard (callRecognition s) := s.onTimer_sameKeyboard fun _ => by simp

theorem withdrawal_sameKeyboard : s.SameKeyboard (withdrawal s) := s.onTimer_sameKeyboard fun _ => by simp

theorem offerTimeout_sameKeyboard : s.SameKeyboard (offerTimeout s) := s.onTimer_sameKeyboard fun _ => by
  split <;> simp

theorem confirmation_sameKeyboard : s.SameKeyboard (confirmation s) := s.onTimer_sameKeyboard fun _ => by simp

theorem confirmTimeout_sameKeyboard : s.SameKeyboard (confirmTimeout s) := s.onTimer_sameKeyboard fun _ => by simp

theorem idleTimeout_sameKeyboard : s.SameKeyboard (idleTimeout s) := s.onTimer_sameKeyboard fun _ => by simp

theorem enquiryDelayExpiry_sameKeyboard : s.SameKeyboard (enquiryDelayExpiry s) :=
  s.onTimer_sameKeyboard fun _ => by simp

theorem captureWindowExpiry_sameKeyboard : s.SameKeyboard (captureWindowExpiry s) := by
  unfold captureWindowExpiry
  split <;> simp

theorem clearingEnd_sameKeyboard : s.SameKeyboard (clearingEnd s) := s.onTimer_sameKeyboard fun _ => by simp

theorem clearingTimeout_sameKeyboard : s.SameKeyboard (clearingTimeout s) := s.onTimer_sameKeyboard fun _ => by simp

theorem releasingEnd_sameKeyboard : s.SameKeyboard (releasingEnd s) := s.onTimer_sameKeyboard fun _ => by simp

theorem runUpExpiry_sameKeyboard : s.SameKeyboard (runUpExpiry s) := by
  unfold runUpExpiry
  dsimp only
  repeat' split
  all_goals simp

theorem runOnExpiry_sameKeyboard : s.SameKeyboard (runOnExpiry s) := by
  unfold runOnExpiry
  split <;> simp

/-! ## The rows of the mechanisms -/

theorem selectEnd_sameKeyboard : s.SameKeyboard (selectEnd s) := by
  unfold selectEnd State.beginStrike
  dsimp only
  repeat' split
  all_goals simp

@[simp] theorem State.beginSettle_sameKeyboard (m : Mechanism) (mode : TimingMode) (programmed extra : Nat) :
    s.SameKeyboard (s.beginSettle m mode programmed extra) := by
  simp [State.beginSettle]

theorem strikeEnd_sameKeyboard : s.SameKeyboard (strikeEnd s) := by
  unfold strikeEnd
  repeat' split
  all_goals simp

theorem punchPulseEnd_sameKeyboard : s.SameKeyboard (punchPulseEnd s) := by
  unfold punchPulseEnd
  repeat' split
  all_goals simp

theorem feedPulseEnd_sameKeyboard : s.SameKeyboard (feedPulseEnd s) := by
  unfold feedPulseEnd
  repeat' split
  all_goals simp

@[simp] theorem State.endSettle_sameKeyboard (m : Mechanism) (elapsed : Nat) (fault : Bool) :
    s.SameKeyboard (s.endSettle m elapsed fault) := by
  unfold State.endSettle State.report State.finishPrintCycle State.finishPunchCycle
  dsimp only
  repeat' split
  all_goals simp

theorem settleFixedEnd_sameKeyboard (m : Mechanism) : s.SameKeyboard (settleFixedEnd m s) := by
  unfold settleFixedEnd
  dsimp only
  split <;> simp

theorem settleSampledReading_sameKeyboard (m : Mechanism) (busy : Bool) :
    s.SameKeyboard (settleSampledReading m busy s) := by
  unfold settleSampledReading
  dsimp only
  repeat' split
  all_goals simp

theorem settleAddEnd_sameKeyboard (m : Mechanism) : s.SameKeyboard (settleAddEnd m s) := by
  unfold settleAddEnd
  dsimp only
  split <;> simp

theorem extendedReading_sameKeyboard (m : Mechanism) (busy : Bool) : s.SameKeyboard (extendedReading m busy s) := by
  unfold extendedReading
  dsimp only
  repeat' split
  all_goals simp

theorem bellTimerExpiry_sameKeyboard : s.SameKeyboard (bellTimerExpiry s) :=
  s.onTimer_sameKeyboard fun _ => ⟨rfl, rfl⟩

theorem holdWaitExpiry_sameKeyboard : s.SameKeyboard (holdWaitExpiry s) := by
  unfold holdWaitExpiry
  dsimp only
  repeat' split
  all_goals simp

theorem releaseTimerExpiry_sameKeyboard : s.SameKeyboard (releaseTimerExpiry s) :=
  s.onTimer_sameKeyboard fun _ => by simp

theorem paperOutChange_sameKeyboard (asserted : Bool) (te : Nat) : s.SameKeyboard (paperOutChange asserted te s) := by
  unfold paperOutChange State.paperOutTaken State.paperGone
  dsimp only
  repeat' split
  all_goals simp

theorem paperRestoreExpiry_sameKeyboard : s.SameKeyboard (paperRestoreExpiry s) :=
  s.onTimer_sameKeyboard fun _ => by simp

theorem paperLowChange_sameKeyboard (asserted : Bool) (te : Nat) : s.SameKeyboard (paperLowChange asserted te s) := by
  unfold paperLowChange
  split <;> simp

theorem tapeOutChange_sameKeyboard (asserted : Bool) (te : Nat) : s.SameKeyboard (tapeOutChange asserted te s) := by
  unfold tapeOutChange State.tapeOutTaken State.tapeGone
  dsimp only
  repeat' split
  all_goals simp

theorem tapeRestoreExpiry_sameKeyboard : s.SameKeyboard (tapeRestoreExpiry s) :=
  s.onTimer_sameKeyboard fun _ => by simp

theorem tapeLowChange_sameKeyboard (asserted : Bool) (te : Nat) : s.SameKeyboard (tapeLowChange asserted te s) := by
  unfold tapeLowChange
  split <;> simp

theorem inputFilterStart_sameKeyboard (input : InputPin) (asserted : Bool) :
    s.SameKeyboard (inputFilterStart input asserted s) := by
  unfold inputFilterStart
  split <;> simp

end Sys2Proof.Machine
end

section
/-! SUPPORT. A sound keyboard (R148 to R160): an operation keeps it that leaves the positions, the readings, the mode, the
loader's state and the key map; the keys, the mode and the loader change them soundly. -/

namespace Sys2Proof.Machine

/-! ## What a sound keyboard speaks of -/

/-- The parts of the keyboard and of the identity store that a sound keyboard speaks of. -/
def State.keyParts (s : State) :
    List Filter × List Nat × KeyboardMode × Option Nat × LoaderState × Option (List KeyEntry) :=
  (s.keyboard.positions, s.keyboard.thirdFrom, s.keyboard.mode, s.keyboard.scanStart, s.isl.loader, s.isl.keyMap)

section Sound
variable {s t : State} (h : s.KeyboardSound)
include h

theorem State.KeyboardSound.congr (ht : t.keyParts = s.keyParts) : t.KeyboardSound := by
  simp only [State.keyParts, Prod.mk.injEq] at ht
  obtain ⟨hpositions, hthirds, hmode, hscan, hloader, hmap⟩ := ht
  have hready : t.ready = s.ready := by rw [State.ready, hloader, State.ready]
  exact {
    positions := hpositions ▸ h.positions
    thirds := hthirds ▸ h.thirds
    scanned := by rw [hscan, hready, h.scanned]
    locked := fun hl => hmode ▸ h.locked (hready ▸ hl)
    keyMap := fun hm => hmode ▸ h.keyMap (hmap ▸ hm)
    entries := hmap ▸ h.entries }

theorem State.KeyboardSound.of_same (ht : s.SameKeyboard t) : t.KeyboardSound := by
  obtain ⟨hkeyboard, hisl⟩ := ht
  exact h.congr (by simp [State.keyParts, hkeyboard, hisl])

theorem State.KeyboardSound.carryOn : s.carryOn.KeyboardSound := h.of_same s.carryOn_sameKeyboard

/-- R151, R159: while READY the mode may be set, to LOCAL and LINE with a key map only. -/
theorem State.KeyboardSound.withMode (hready : s.ready = true) {m : KeyboardMode}
    (hm : s.isl.keyMap = none → m = .raw ∨ m = .locked) (hkeyboard : t.keyboard = { s.keyboard with mode := m })
    (hisl : t.isl = s.isl) : t.KeyboardSound := by
  have htready : t.ready = true := by rw [State.ready, hisl]; exact hready
  exact {
    positions := hkeyboard ▸ h.positions
    thirds := hkeyboard ▸ h.thirds
    scanned := by rw [hkeyboard, htready, ← hready]; exact h.scanned
    locked := fun hl => absurd (htready.symm.trans hl) nofun
    keyMap := fun hn => by rw [hkeyboard]; exact hm (hisl ▸ hn)
    entries := hisl ▸ h.entries }

/-- R149: a confirmed change leaves the count of the positions, and the next third reading comes later. -/
theorem State.KeyboardSound.confirmed (p : Fin 64) (down : Bool) :
    ((s.atReading p).confirmPosition p down).KeyboardSound := by
  obtain ⟨hlength, hthirds⟩ := h.thirds
  have hread : (s.atReading p).keyboard.thirdFrom.length = Config.keyPositions ∧
      ∀ k ∈ (s.atReading p).keyboard.thirdFrom, 2 ≤ k := by
    unfold State.atReading
    split
    · refine ⟨(List.length_set ..).trans hlength, fun k hk => ?_⟩
      rcases List.mem_or_eq_of_mem_set hk with hk | rfl
      · exact hthirds k hk
      · omega
    · exact h.thirds
  exact {
    positions := by simpa [State.confirmPosition] using h.positions
    thirds := by simpa [State.confirmPosition] using hread
    scanned := by simpa [State.confirmPosition, State.ready] using h.scanned
    locked := by simpa [State.confirmPosition, State.ready] using h.locked
    keyMap := by simpa [State.confirmPosition] using h.keyMap
    entries := by simpa [State.confirmPosition] using h.entries }

/-! ## The keys -/

theorem State.KeyboardSound.changeMode (hready : s.ready = true) {m : KeyboardMode}
    (hm : s.isl.keyMap = none → m = .raw ∨ m = .locked) : (s.changeMode m).KeyboardSound :=
  h.withMode hready hm (by simp [State.changeMode]) (by simp [State.changeMode])

/-- R155, R160: MODE is read in LOCAL and LINE only, where the key map is present. -/
theorem State.KeyboardSound.pressMode (hready : s.ready = true) : s.pressMode.KeyboardSound := by
  unfold State.pressMode
  split
  · next hmode => exact h.changeMode hready fun hn => by simpa [hmode] using h.keyMap hn
  · next hmode => exact h.changeMode hready fun hn => by simpa [hmode] using h.keyMap hn
  · exact h

theorem State.KeyboardSound.keyToSend (cell : Cell) : (s.keyToSend cell).KeyboardSound := by
  unfold State.keyToSend
  split <;> exact h.congr rfl

theorem State.KeyboardSound.keyToLocal (cell : Cell) : (s.keyToLocal cell).KeyboardSound := by
  have hpresented := h.of_same (s.present_sameKeyboard .keyedLocal cell)
  unfold State.keyToLocal
  dsimp only
  split <;> exact hpresented.congr rfl

theorem State.KeyboardSound.pressKey (hready : s.ready = true) (e : KeyEntry) : (s.pressKey e).KeyboardSound := by
  unfold State.pressKey
  split
  · exact h
  · unfold State.pressCode
    dsimp only
    split
    · exact h.keyToSend _
    · exact h.keyToLocal _
  · unfold State.pressHereIs
    repeat' split
    all_goals exact h.of_same (by simp)
  · unfold State.pressBreak
    split <;> exact h.of_same (by simp)
  · exact h.pressMode hready
  · unfold State.pressFeed
    split <;> exact h.of_same (by simp)

theorem confirmedPress_keyboardSound (p : Fin 64) : (confirmedPress p s).KeyboardSound := by
  unfold confirmedPress
  split
  · next hpress =>
    have hread := h.confirmed p true
    have hready : ((s.atReading p).confirmPosition p true).ready = true := by simpa [State.ready] using hpress.1
    unfold State.actOnPress
    split
    · exact hread.of_same (by simp)
    · exact hread
    · split
      · exact hread
      · exact (hread.pressKey hready _).carryOn
  · exact h

theorem confirmedRelease_keyboardSound (p : Fin 64) : (confirmedRelease p s).KeyboardSound := by
  unfold confirmedRelease
  split
  · have hread := h.confirmed p false
    unfold State.actOnRelease
    repeat' split
    · exact hread.of_same (by simp)
    · exact hread
    · exact hread.of_same (by simp)
    · exact hread
  · exact h

theorem setKeyboardMode_keyboardSound (hready : s.ready = true) (field : Byte) :
    (setKeyboardMode field s).KeyboardSound := by
  unfold setKeyboardMode
  split
  · exact h.of_same (by simp)
  · next m _ =>
    split
    · exact h.of_same (by simp)
    · next hallowed =>
      have hallows : s.isl.keyMap = none → m = .raw ∨ m = .locked := fun hn => by cases m <;> simp_all
      exact (h.changeMode hready hallows).carryOn.of_same ⟨State.accept_keyboard .., State.accept_isl ..⟩

/-! ## The loader -/

/-- R148, R160, R191, R192: at the start of a load every position is UP, nothing is scanned and the mode is LOCKED. -/
theorem State.KeyboardSound.startLoading (occasion : LoadOccasion) : (s.startLoading occasion).KeyboardSound where
  positions := State.reset_keyboardSound.positions
  thirds := State.reset_keyboardSound.thirds
  scanned := rfl
  locked := fun _ => rfl
  keyMap := fun _ => .inr rfl
  entries := h.entries

theorem reload_keyboardSound : (reload s).KeyboardSound := by
  unfold reload
  split
  · exact h.startLoading .reload
  · exact h.of_same (by simp)

theorem storeByte0Read_keyboardSound (byte : Option Byte) : (storeByte0Read byte s).KeyboardSound := by
  unfold storeByte0Read
  split
  · next l hl =>
    split
    · exact h
    · have hready : s.ready = false := by simp [State.ready, hl]
      exact {
        positions := h.positions
        thirds := h.thirds
        scanned := h.scanned.trans hready
        locked := fun _ => h.locked hready
        keyMap := h.keyMap
        entries := h.entries }
  · exact h

end Sound

/-- R184: the power-on values are sound whatever the clock, the straps and the queue. -/
theorem State.powerOnValues_keyboardSound (occasion : LoadOccasion) (straps : BitVec 2) (holdOff : Bool)
    (now freeIndex : Nat) (pending : List Instr) :
    (State.powerOnValues occasion straps holdOff now freeIndex pending).KeyboardSound where
  positions := State.reset_keyboardSound.positions
  thirds := State.reset_keyboardSound.thirds
  scanned := rfl
  locked := fun _ => rfl
  keyMap := fun _ => .inr rfl
  entries := State.reset_keyboardSound.entries

/-! ### RESTART -/

@[simp] theorem State.restartCall_sameKeyboard (s : State) : s.SameKeyboard s.restartCall := by
  unfold State.restartCall
  dsimp only
  split <;> simp

@[simp] theorem State.restartFile_sameKeyboard (s : State) : s.SameKeyboard s.restartFile := by
  simp [State.restartFile]

@[simp] theorem State.restartPrinter_sameKeyboard (s : State) : s.SameKeyboard s.restartPrinter := by
  unfold State.restartPrinter
  dsimp only
  split <;> simp

@[simp] theorem State.restartPunch_sameKeyboard (s : State) : s.SameKeyboard s.restartPunch := by
  simp [State.restartPunch]

theorem restart_keyboardSound {s : State} (h : s.KeyboardSound) : (restart s).KeyboardSound := by
  have hemptied : ((s.accept 0x27 .done).emptyNotices).KeyboardSound := h.of_same (by simp)
  refine (hemptied.startLoading .restart).congr ?_
  simp [restart, State.restartBlocks, State.keyParts]

/-! ### The end of a load -/

/-- A list read entry by entry has as many entries as were read. -/
theorem length_of_mapM_eq_some {α β : Type} {f : α → Option β} {l : List α} {r : List β} (h : l.mapM f = some r) :
    r.length = l.length := by
  induction l generalizing r with
  | nil => simp_all
  | cons a l ih =>
    simp only [List.mapM_cons, Option.bind_eq_bind, Option.bind_eq_some_iff, Option.pure_def, Option.some.injEq] at h
    obtain ⟨b, -, bs, hbs, rfl⟩ := h
    simp [ih hbs]

/-- R150, R186: a key map has an entry for each position. -/
theorem loadKeyMap_length {image : List Byte} {k : List KeyEntry × Nat} (h : loadKeyMap image = some k) :
    k.1.length = Config.keyPositions := by
  simp only [loadKeyMap, Option.map_eq_some_iff] at h
  obtain ⟨items, hitems, rfl⟩ := h
  simpa using length_of_mapM_eq_some hitems

theorem loadBasic_keyMap {image : List Byte} {l : Loaded} (h : loadBasic image = some l) : l.keyMap = none := by
  unfold loadBasic at h
  split at h
  · cases h
    rfl
  · cases h

theorem loadFull_keyMap {image : List Byte} {l : Loaded} (h : loadFull image = some l) :
    ∃ k, loadKeyMap image = some k ∧ l.keyMap = some k.1 := by
  unfold loadFull at h
  split at h
  · next k _ _ _ hk =>
    obtain ⟨a, -, rfl⟩ := Option.map_eq_some_iff.mp h
    exact ⟨k, hk, rfl⟩
  · cases h

/-- R184, R186: only a FULL load gives a key map, and a whole one. -/
theorem loadImage_keyMap (presence : Presence) (kind : LoadKind) (image : List Byte) :
    ∀ m ∈ (loadImage presence kind image).keyMap, m.length = Config.keyPositions := by
  unfold loadImage
  split
  · exact nofun
  · cases hload : loadBasic image with
    | none => exact nofun
    | some l => simp [loadBasic_keyMap hload]
  · cases hload : loadFull image with
    | none => exact nofun
    | some l =>
      obtain ⟨k, hk, hmap⟩ := loadFull_keyMap hload
      simp [hmap, loadKeyMap_length hk]

/-- R184, R192: the key map after a load, kept at RESTART, has 64 entries. -/
theorem State.KeyboardSound.take_entries {s : State} (h : s.KeyboardSound) (l : Loading) (image : List Byte) :
    ∀ m ∈ (s.isl.take l.occasion (s.loaded l image)).keyMap, m.length = Config.keyPositions := by
  cases ho : l.occasion with
  | restart => exact h.entries
  | powerOn | resetPin | reload =>
    simp only [Isl.take, State.loaded, ho]
    exact loadImage_keyMap _ _ image

/-- R148, R160, R187: at the end of a load scanning starts, in RAW without a key map, and the loader is READY. -/
theorem State.handOverKeyboard_keyboardSound {s : State}
    (hentries : ∀ m ∈ s.isl.keyMap, m.length = Config.keyPositions) (before : KeyboardMode) (occasion : LoadOccasion) :
    ((s.handOverKeyboard before).loadDone occasion).KeyboardSound where
  positions := State.reset_keyboardSound.positions
  thirds := State.reset_keyboardSound.thirds
  scanned := rfl
  locked := nofun
  keyMap := by simp +contextual [State.loadDone, State.handOverKeyboard, State.loadedMode]
  entries := by simpa [State.loadDone, State.handOverKeyboard] using hentries

@[simp] theorem State.afterLoad_sameKeyboard (s : State) (occasion : LoadOccasion) :
    s.SameKeyboard (s.afterLoad occasion) := by
  unfold State.afterLoad
  repeat' split
  all_goals simp

theorem State.KeyboardSound.endLoad {s : State} (h : s.KeyboardSound) (l : Loading) (image : List Byte) :
    (s.endLoad l image).KeyboardSound := by
  refine State.KeyboardSound.carryOn (.of_same (State.handOverKeyboard_keyboardSound ?_ _ l.occasion)
    (State.afterLoad_sameKeyboard _ l.occasion))
  simpa [State.setSwitch] using h.take_entries l image

theorem loadEnd_keyboardSound {s : State} (h : s.KeyboardSound) (image : List Byte) :
    (loadEnd image s).KeyboardSound := by
  unfold loadEnd
  repeat' split
  · exact h.endLoad _ image
  · exact h
  · exact h

end Sys2Proof.Machine
end

section
/-! The commands of the host leave the keyboard or change it soundly where the Control Link lets them through (R173); and so
do every row and every step. -/

namespace Sys2Proof.Machine

/-! ## The commands that leave the keyboard -/

section Owners
variable (s : State)

theorem startService_sameKeyboard : s.SameKeyboard (startService s) := by
  unfold startService
  repeat' split
  all_goals simp

theorem stopService_sameKeyboard : s.SameKeyboard (stopService s) := by
  unfold stopService State.stopEffect
  cases s.call.state <;> simp

theorem getOption_sameKeyboard (offset : Byte) : s.SameKeyboard (getOption offset s) := by
  unfold getOption
  split <;> simp

theorem setRoute_sameKeyboard (route destinations printStandIn punchStandIn : Byte) (reload : Word16) (action : Byte) :
    s.SameKeyboard (setRoute route destinations printStandIn punchStandIn reload action s) := by
  unfold setRoute
  split <;> exact ⟨rfl, rfl⟩

theorem getRoute_sameKeyboard (route clear : Byte) : s.SameKeyboard (getRoute route clear s) := by
  unfold getRoute
  dsimp only
  repeat' split
  all_goals exact ⟨rfl, rfl⟩

theorem rearmRoute_sameKeyboard (route : Byte) : s.SameKeyboard (rearmRoute route s) := by
  unfold rearmRoute
  split <;> exact ⟨rfl, rfl⟩

theorem submitText_sameKeyboard (target : Byte) (bytes : List Byte) : s.SameKeyboard (submitText target bytes s) := by
  unfold submitText State.submitCells State.claimFor
  dsimp only
  repeat' split
  all_goals simp

theorem clearSpool_sameKeyboard (spool : Byte) : s.SameKeyboard (clearSpool spool s) := by
  unfold clearSpool State.spoolEmptied
  dsimp only
  repeat' split
  all_goals simp

theorem acceptCall_sameKeyboard : s.SameKeyboard (acceptCall s) := by
  unfold acceptCall
  split <;> simp

theorem declineCall_sameKeyboard : s.SameKeyboard (declineCall s) := by
  unfold declineCall
  split <;> simp

theorem placeCall_sameKeyboard : s.SameKeyboard (placeCall s) := by
  unfold placeCall
  split <;> simp

theorem clearCall_sameKeyboard : s.SameKeyboard (clearCall s) := by
  unfold clearCall
  split <;> simp

theorem sendAnswerback_sameKeyboard : s.SameKeyboard (sendAnswerback s) := by
  unfold sendAnswerback
  repeat' split
  all_goals simp

theorem sendEnquiry_sameKeyboard : s.SameKeyboard (sendEnquiry s) := by
  unfold sendEnquiry
  split <;> simp

theorem sendBreak_sameKeyboard : s.SameKeyboard (sendBreak s) := by
  unfold sendBreak
  split <;> simp

theorem resumeSend_sameKeyboard : s.SameKeyboard (resumeSend s) := by
  unfold resumeSend
  repeat' split
  all_goals simp

theorem getLineQuality_sameKeyboard (clear : Byte) : s.SameKeyboard (getLineQuality clear s) := by
  unfold getLineQuality
  repeat' split
  all_goals simp

theorem getMessage_sameKeyboard (number : Byte) : s.SameKeyboard (getMessage number s) := by
  unfold getMessage
  repeat' split
  all_goals simp

theorem fetchMessage_sameKeyboard (number : Byte) (offset : Word16) (count : Byte) :
    s.SameKeyboard (fetchMessage number offset count s) := by
  unfold fetchMessage
  repeat' split
  all_goals simp

theorem deleteMessage_sameKeyboard (number : Byte) : s.SameKeyboard (deleteMessage number s) := by
  unfold deleteMessage
  repeat' split
  all_goals simp

theorem replayMessage_sameKeyboard (number target : Byte) : s.SameKeyboard (replayMessage number target s) := by
  unfold replayMessage State.beginReplay
  repeat' split
  all_goals simp

theorem cancelReplay_sameKeyboard : s.SameKeyboard (cancelReplay s) := by
  unfold cancelReplay
  split <;> simp

theorem printerHold_sameKeyboard : s.SameKeyboard (printerHold s) := by simp [printerHold]

theorem printerRelease_sameKeyboard : s.SameKeyboard (printerRelease s) := by simp [printerRelease]

theorem printerReset_sameKeyboard : s.SameKeyboard (printerReset s) := by
  unfold printerReset State.resetPrinter
  split <;> simp

theorem punchOn_sameKeyboard : s.SameKeyboard (punchOn s) := by simp [punchOn, State.setSwitch]

theorem punchOff_sameKeyboard : s.SameKeyboard (punchOff s) := by simp [punchOff, State.setSwitch]

theorem punchFeed_sameKeyboard (count : Byte) : s.SameKeyboard (punchFeed count s) := by
  unfold punchFeed State.requestFeed
  repeat' split
  all_goals simp

theorem punchRelease_sameKeyboard : s.SameKeyboard (punchRelease s) := by
  unfold punchRelease
  repeat' split
  all_goals simp

theorem punchReset_sameKeyboard : s.SameKeyboard (punchReset s) := by simp [punchReset, State.resetPunch]

end Owners

/-! ## The commands of the identity store -/

section Stores
variable {s : State} (h : s.KeyboardSound)
include h

theorem setOption_keyboardSound (offset : Byte) (value : Word16) : (setOption offset value s).KeyboardSound := by
  unfold setOption
  repeat' split
  all_goals exact h.congr rfl

theorem storeRead_keyboardSound (offset count : Byte) : (storeRead offset count s).KeyboardSound := by
  unfold storeRead
  repeat' split
  all_goals exact h.congr rfl

theorem storeWrite_keyboardSound (offset : Byte) (bytes : List Byte) :
    (storeWrite offset bytes s).KeyboardSound := by
  unfold storeWrite
  repeat' split
  all_goals exact h.congr rfl

theorem storeOperationEnd_keyboardSound (acknowledged : Bool) (bytes : List Byte) :
    (storeOperationEnd acknowledged bytes s).KeyboardSound := by
  unfold storeOperationEnd
  repeat' split
  all_goals exact h.congr rfl

theorem storeWritePollTimeout_keyboardSound : (storeWritePollTimeout s).KeyboardSound := by
  unfold storeWritePollTimeout
  split <;> exact h.congr rfl

end Stores

/-! ## The Control Link -/

/-- What the keyboard asks of an owner: a sound keyboard stays sound, SET KEYBOARD MODE being taken while READY. -/
def KeepsKeyboard (kind : Byte) (f : State → State) : Prop :=
  ∀ s : State, s.KeyboardSound → (kind.toNat = 0x23 → s.ready = true) → (f s).KeyboardSound

theorem KeepsKeyboard.of_same {kind : Byte} {f : State → State} (hf : ∀ s : State, s.SameKeyboard (f s)) :
    KeepsKeyboard kind f := fun s h _ => h.of_same (hf s)

/-- Every command's owner keeps the keyboard sound, whatever the kind and the body (section 10.7). -/
theorem commandOwner_keepsKeyboard (kind : Byte) (body : List Byte) : KeepsKeyboard kind (commandOwner kind body) := by
  unfold commandOwner
  split
  · exact .of_same fun _ => ⟨rfl, rfl⟩
  · exact .of_same startService_sameKeyboard
  · exact .of_same stopService_sameKeyboard
  · exact fun _ h _ => setOption_keyboardSound h _ _
  · exact .of_same fun s => getOption_sameKeyboard s _
  · exact .of_same fun s => setRoute_sameKeyboard s _ _ _ _ _ _
  · exact .of_same fun s => getRoute_sameKeyboard s _ _
  · exact .of_same fun s => rearmRoute_sameKeyboard s _
  · exact .of_same fun s => submitText_sameKeyboard s _ _
  · exact .of_same fun s => clearSpool_sameKeyboard s _
  · exact .of_same acceptCall_sameKeyboard
  · exact .of_same declineCall_sameKeyboard
  · exact .of_same placeCall_sameKeyboard
  · exact .of_same clearCall_sameKeyboard
  · exact .of_same sendAnswerback_sameKeyboard
  · exact .of_same sendEnquiry_sameKeyboard
  · exact .of_same sendBreak_sameKeyboard
  · exact .of_same resumeSend_sameKeyboard
  · exact .of_same fun _ => ⟨rfl, rfl⟩
  · exact .of_same fun s => getLineQuality_sameKeyboard s _
  · exact .of_same fun _ => ⟨rfl, rfl⟩
  · exact .of_same fun s => getMessage_sameKeyboard s _
  · exact .of_same fun s => fetchMessage_sameKeyboard s _ _ _
  · exact .of_same fun s => deleteMessage_sameKeyboard s _
  · exact .of_same fun s => replayMessage_sameKeyboard s _ _
  · exact .of_same cancelReplay_sameKeyboard
  · exact .of_same printerHold_sameKeyboard
  · exact .of_same printerRelease_sameKeyboard
  · exact .of_same printerReset_sameKeyboard
  · exact .of_same punchOn_sameKeyboard
  · exact .of_same punchOff_sameKeyboard
  · exact .of_same fun s => punchFeed_sameKeyboard s _
  · exact .of_same punchRelease_sameKeyboard
  · exact .of_same punchReset_sameKeyboard
  · next hkind => exact fun _ h hready => setKeyboardMode_keyboardSound h (hready hkind) _
  · exact fun _ h _ => storeRead_keyboardSound h _ _
  · exact fun _ h _ => storeWrite_keyboardSound h _ _
  · exact fun _ h _ => reload_keyboardSound h
  · exact fun _ h _ => restart_keyboardSound h
  · exact fun _ h _ => h

/-- R173: a command other than GET STATUS that the link does not refuse finds the loader READY. -/
theorem State.ready_of_linkRefusal {s : State} {kind : Byte} {length : Nat} (h : s.linkRefusal kind length = none)
    (hkind : kind ≠ 0x01) : s.ready = true := by
  unfold State.linkRefusal at h
  split_ifs at h with _ _ hready
  have hloading : s.ready = false → kind = 0x01 := by simpa using hready
  exact Bool.of_not_eq_false (mt hloading hkind)

/-! ### Frames -/

@[simp] theorem State.frameEnded_sameKeyboard (s : State) (turn : Turn) (kind : Byte) :
    s.SameKeyboard (s.frameEnded turn kind) := by
  unfold State.frameEnded
  split <;> exact ⟨rfl, rfl⟩

@[simp] theorem State.frameFails_sameKeyboard (s : State) (turn : Turn) (kind : Byte) (r : Reason) :
    s.SameKeyboard (s.frameFails turn kind r) := by
  unfold State.frameFails
  split <;> simp

theorem interByteTimeout_sameKeyboard (s : State) : s.SameKeyboard (interByteTimeout s) := by
  unfold interByteTimeout State.abandonFrame
  split <;> simp

theorem discardQuietTimeout_sameKeyboard (s : State) : s.SameKeyboard (discardQuietTimeout s) := by
  unfold discardQuietTimeout
  split <;> simp

theorem outboundFrameEnd_sameKeyboard (s : State) : s.SameKeyboard (outboundFrameEnd s) := by
  unfold outboundFrameEnd
  repeat' split
  all_goals exact ⟨rfl, rfl⟩

section Frames
variable {s : State} (h : s.KeyboardSound)
include h

/-- R173: a frame in turn is refused or reaches its owner. -/
theorem State.dispatch_keyboardSound (kind : Byte) (length : Nat) (body : List Byte) :
    (s.dispatch kind length (commandOwner kind body)).KeyboardSound := by
  unfold State.dispatch
  dsimp only
  split
  · exact h.of_same ⟨rfl, rfl⟩
  · next hpass =>
    refine commandOwner_keepsKeyboard kind body s.awaitReply (h.of_same ⟨rfl, rfl⟩) fun hkind => ?_
    exact State.ready_of_linkRefusal hpass fun hstatus => by simp [hstatus] at hkind

theorem State.frameComplete_keyboardSound (turn : Turn) (kind : Byte) (body : List Byte) :
    (s.frameComplete turn kind body).KeyboardSound := by
  unfold State.frameComplete
  dsimp only
  split
  · exact State.dispatch_keyboardSound (s := s.withInbound .empty) (h.of_same ⟨rfl, rfl⟩) kind _ body
  · exact h.of_same (by simp)

theorem State.takeByte_keyboardSound (b : Byte) : (s.takeByte b).KeyboardSound := by
  unfold State.takeByte
  split
  · exact h.of_same ⟨rfl, rfl⟩
  · unfold State.takeLength
    split
    · exact State.frameComplete_keyboardSound h _ _ _
    split <;> exact h.of_same (by simp)
  · unfold State.takeBodyByte
    split
    · exact State.frameComplete_keyboardSound h _ _ _
    · exact h.of_same (by simp)
  · exact h.of_same (by simp)

theorem inboundByte_keyboardSound (b : Byte) (stop : Level) : (inboundByte b stop s).KeyboardSound := by
  cases stop
  · exact h
  · exact State.takeByte_keyboardSound h b

omit h in
/-- Bytes taken one after another (R172). -/
theorem State.foldl_takeByte_keyboardSound (bytes : List Byte) {s : State} (h : s.KeyboardSound) :
    (bytes.foldl State.takeByte s).KeyboardSound := by
  induction bytes generalizing s with
  | nil => exact h
  | cons b bytes ih => exact ih (State.takeByte_keyboardSound h b)

theorem State.hostCommand_keyboardSound (kind : Byte) (body : List Byte) :
    (s.hostCommand kind body (commandOwner kind body)).KeyboardSound := by
  unfold State.hostCommand
  split
  · exact State.dispatch_keyboardSound h kind _ body
  · exact State.foldl_takeByte_keyboardSound _ h

end Frames

/-! ## Every row and every step -/

/-- Every row completes, and leaves a sound keyboard. -/
theorem exec_keyboardSound {s : State} (h : s.KeyboardSound) (i : Instr) :
    ∃ t, exec i s = .next t ∧ t.KeyboardSound := by
  cases hframe : commandFrame i with
  | some f => exact ⟨_, exec_of_commandFrame hframe s, State.hostCommand_keyboardSound h f.1 f.2⟩
  | none =>
    cases i with
    | powerOn | resetPin => exact ⟨_, rfl, State.powerOnValues_keyboardSound ..⟩
    | outboundFrameStart | holdOffAssert | holdOffDeassert => exact ⟨_, rfl, h.of_same ⟨rfl, rfl⟩⟩
    | loadEnd => exact ⟨_, rfl, loadEnd_keyboardSound h _⟩
    | storeByte0Read => exact ⟨_, rfl, storeByte0Read_keyboardSound h _⟩
    | storeOperationEnd => exact ⟨_, rfl, storeOperationEnd_keyboardSound h _ _⟩
    | storeWritePollTimeout => exact ⟨_, rfl, storeWritePollTimeout_keyboardSound h⟩
    | inboundByte => exact ⟨_, rfl, inboundByte_keyboardSound h _ _⟩
    | confirmedPress => exact ⟨_, rfl, confirmedPress_keyboardSound h _⟩
    | confirmedRelease => exact ⟨_, rfl, confirmedRelease_keyboardSound h _⟩
    | interByteTimeout => exact ⟨_, rfl, h.of_same (interByteTimeout_sameKeyboard s)⟩
    | discardQuietTimeout => exact ⟨_, rfl, h.of_same (discardQuietTimeout_sameKeyboard s)⟩
    | outboundFrameEnd => exact ⟨_, rfl, h.of_same (outboundFrameEnd_sameKeyboard s)⟩
    | rxFilteredChange => exact ⟨_, rfl, h.of_same (rxFilteredChange_sameKeyboard s _ _)⟩
    | startSample => exact ⟨_, rfl, h.of_same (startSample_sameKeyboard s)⟩
    | unitSample => exact ⟨_, rfl, h.of_same (unitSample_sameKeyboard s)⟩
    | stopSample => exact ⟨_, rfl, h.of_same (stopSample_sameKeyboard s)⟩
    | breakThreshold => exact ⟨_, rfl, h.of_same (breakThreshold_sameKeyboard s)⟩
    | clearThreshold => exact ⟨_, rfl, h.of_same (clearThreshold_sameKeyboard s)⟩
    | turnaroundGuardExpiry => exact ⟨_, rfl, h.of_same (turnaroundGuardExpiry_sameKeyboard s)⟩
    | characterSent => exact ⟨_, rfl, h.of_same (characterSent_sameKeyboard s)⟩
    | breakKeyingEnd => exact ⟨_, rfl, h.of_same (breakKeyingEnd_sameKeyboard s)⟩
    | callRecognition => exact ⟨_, rfl, h.of_same (callRecognition_sameKeyboard s)⟩
    | withdrawal => exact ⟨_, rfl, h.of_same (withdrawal_sameKeyboard s)⟩
    | offerTimeout => exact ⟨_, rfl, h.of_same (offerTimeout_sameKeyboard s)⟩
    | confirmation => exact ⟨_, rfl, h.of_same (confirmation_sameKeyboard s)⟩
    | confirmTimeout => exact ⟨_, rfl, h.of_same (confirmTimeout_sameKeyboard s)⟩
    | idleTimeout => exact ⟨_, rfl, h.of_same (idleTimeout_sameKeyboard s)⟩
    | enquiryDelayExpiry => exact ⟨_, rfl, h.of_same (enquiryDelayExpiry_sameKeyboard s)⟩
    | captureWindowExpiry => exact ⟨_, rfl, h.of_same (captureWindowExpiry_sameKeyboard s)⟩
    | clearingEnd => exact ⟨_, rfl, h.of_same (clearingEnd_sameKeyboard s)⟩
    | clearingTimeout => exact ⟨_, rfl, h.of_same (clearingTimeout_sameKeyboard s)⟩
    | releasingEnd => exact ⟨_, rfl, h.of_same (releasingEnd_sameKeyboard s)⟩
    | runUpExpiry => exact ⟨_, rfl, h.of_same (runUpExpiry_sameKeyboard s)⟩
    | runOnExpiry => exact ⟨_, rfl, h.of_same (runOnExpiry_sameKeyboard s)⟩
    | selectEnd => exact ⟨_, rfl, h.of_same (selectEnd_sameKeyboard s)⟩
    | strikeEnd => exact ⟨_, rfl, h.of_same (strikeEnd_sameKeyboard s)⟩
    | punchPulseEnd => exact ⟨_, rfl, h.of_same (punchPulseEnd_sameKeyboard s)⟩
    | feedPulseEnd => exact ⟨_, rfl, h.of_same (feedPulseEnd_sameKeyboard s)⟩
    | settleFixedEnd => exact ⟨_, rfl, h.of_same (settleFixedEnd_sameKeyboard s _)⟩
    | settleSampledReading => exact ⟨_, rfl, h.of_same (settleSampledReading_sameKeyboard s _ _)⟩
    | settleAddEnd => exact ⟨_, rfl, h.of_same (settleAddEnd_sameKeyboard s _)⟩
    | extendedReading => exact ⟨_, rfl, h.of_same (extendedReading_sameKeyboard s _ _)⟩
    | bellTimerExpiry => exact ⟨_, rfl, h.of_same (bellTimerExpiry_sameKeyboard s)⟩
    | holdWaitExpiry => exact ⟨_, rfl, h.of_same (holdWaitExpiry_sameKeyboard s)⟩
    | releaseTimerExpiry => exact ⟨_, rfl, h.of_same (releaseTimerExpiry_sameKeyboard s)⟩
    | paperOutChange => exact ⟨_, rfl, h.of_same (paperOutChange_sameKeyboard s _ _)⟩
    | paperRestoreExpiry => exact ⟨_, rfl, h.of_same (paperRestoreExpiry_sameKeyboard s)⟩
    | paperLowChange => exact ⟨_, rfl, h.of_same (paperLowChange_sameKeyboard s _ _)⟩
    | tapeOutChange => exact ⟨_, rfl, h.of_same (tapeOutChange_sameKeyboard s _ _)⟩
    | tapeRestoreExpiry => exact ⟨_, rfl, h.of_same (tapeRestoreExpiry_sameKeyboard s)⟩
    | tapeLowChange => exact ⟨_, rfl, h.of_same (tapeLowChange_sameKeyboard s _ _)⟩
    | inputFilterStart => exact ⟨_, rfl, h.of_same (inputFilterStart_sameKeyboard s _ _)⟩
    | replayCopy => exact ⟨_, rfl, h.of_same (replayCopy_sameKeyboard s)⟩
    | unknownCommandKind | getStatus | startService | stopService | setOption | getOption | setRoute |
      getRoute | rearmRoute | submitText | clearSpool | acceptCall | declineCall | placeCall | clearCall |
      sendAnswerback | sendEnquiry | sendBreak | resumeSend | getCall | getLineQuality | listMessages |
      getMessage | fetchMessage | deleteMessage | replayMessage | cancelReplay | printerHold |
      printerRelease | printerReset | punchOn | punchOff | punchFeed | punchRelease | punchReset |
      setKeyboardMode | storeRead | storeWrite | reload | restart => cases hframe

/-- Settles O11: each row leaves the keyboard and the identity store, or is one of the keys, the mode, the loader and the
store, which keep the keyboard sound. -/
theorem everyStepKeepsTheKeyboard : Obligations.EveryStepKeepsTheKeyboard := by
  intro s t hsound hstep
  unfold step at hstep
  split at hstep
  · next c rest _ =>
    obtain ⟨u, hexec, hu⟩ := exec_keyboardSound (s := { s with pending := rest }) (hsound.of_same ⟨rfl, rfl⟩) c
    rw [hexec] at hstep
    cases hstep
    exact hu
  · cases hstep
    exact hsound.of_same ⟨rfl, rfl⟩

end Sys2Proof.Machine
end

section
/-! SUPPORT. Cycles under power (R131, R146, R162 to R165). An operation keeps `State.CyclesSound` if it leaves the demand
set, the motor, the settles, the cycles and the faults, or changes them as the rules of the mechanisms allow. A lemma
`f_sameCycles` says the first of the operation `f`; a lemma `f_keepsCycles` says that a sound state is sound after `f`. -/

namespace Sys2Proof.Machine

/-! ## What the invariant speaks of -/

/-- The demand set, the motor's state, the phases of the settles, the cycles and the faults are as they were. Reducible,
so that such a fact rewrites each of them. -/
@[simp, reducible] def State.SameCycles (s t : State) : Prop :=
  (t.motor.demand = s.motor.demand ∧ t.motor.state = s.motor.state ∧
    t.motor.printWithdrawn = s.motor.printWithdrawn ∧
    t.motor.printTiming.phase = s.motor.printTiming.phase ∧ t.motor.punchTiming.phase = s.motor.punchTiming.phase) ∧
  (t.printer.cycle = s.printer.cycle ∧ t.printer.fault = s.printer.fault) ∧
    t.punch.cycle = s.punch.cycle ∧ t.punch.fault = s.punch.fault

/-- An operation after which a state is sound that was sound before it. -/
def State.KeepsCycles (s t : State) : Prop := s.CyclesSound → t.CyclesSound

section Keeps
variable {s t u : State}

theorem State.CyclesSound.of_same (h : s.CyclesSound) (ht : s.SameCycles t) : t.CyclesSound := by
  obtain ⟨⟨hdemand, hstate, hwithdrawn, hprintPhase, hpunchPhase⟩, ⟨hprint, hprintFault⟩, hpunch, hpunchFault⟩ := ht
  exact {
    motor := (Motor.followsDemand_congr hdemand hstate).mpr h.motor
    print := by rw [hprint, hdemand, hstate, hprintFault]; exact h.print
    punch := by rw [hpunch, hdemand, hstate, hpunchFault]; exact h.punch
    printSettle := by rw [hprintPhase, Printer.settling, hprint]; exact h.printSettle
    punchSettle := by rw [hpunchPhase, Punch.settling, hpunch]; exact h.punchSettle
    withdrawn := by rw [hwithdrawn, hdemand, hstate]; exact h.withdrawn }

theorem State.KeepsCycles.same (h : s.SameCycles t) : s.KeepsCycles t := fun hs => hs.of_same h

theorem State.KeepsCycles.refl (s : State) : s.KeepsCycles s := id

theorem State.KeepsCycles.trans (h : s.KeepsCycles t) (k : t.KeepsCycles u) : s.KeepsCycles u := k ∘ h

/-- Followed by what leaves the cycles. -/
theorem State.KeepsCycles.leaving (h : s.KeepsCycles t) (hu : t.SameCycles u) : s.KeepsCycles u := h.trans (.same hu)

/-- Preceded by what leaves the cycles. -/
theorem State.KeepsCycles.after (h : t.KeepsCycles u) (ht : s.SameCycles t) : s.KeepsCycles u :=
  State.KeepsCycles.trans (.same ht) h

/-- Followed by a reply (R174). -/
theorem State.KeepsCycles.accept (h : s.KeepsCycles t) {kind : Byte} {r : Result} : s.KeepsCycles (t.accept kind r) :=
  h.leaving (by simp)

end Keeps

/-! ## The demand set -/

/-- Where PRINT may stand withdrawn (R165). -/
theorem Motor.withdrawnAfter_spec {r : Motor} {d : Demand} {m : MotorState} (h : r.withdrawnAfter d m = true) :
    d.print = false ∧ (m = .running ∨ ∃ due, m = .runUp due) := by
  cases m with
  | running => exact ⟨((Motor.withdrawnAfter_of_running rfl).mp h).2, .inl rfl⟩
  | runUp due => exact ⟨((Motor.withdrawnAfter_of_runUp rfl).mp h).2, .inr ⟨due, rfl⟩⟩
  | off | runOn due => cases h

/-- PRINT alone keeps the set non-empty. -/
theorem Demand.isEmpty_of_print {d : Demand} (h : d.print = true) : d.isEmpty = false := by simp [Demand.isEmpty, h]

/-- PUNCH alone keeps the set non-empty. -/
theorem Demand.isEmpty_of_punch {d : Demand} (h : d.punch = true) : d.isEmpty = false := by simp [Demand.isEmpty, h]

section Demands
variable {s : State} (h : s.CyclesSound)
include h

/-- A new demand set with the members of the cycles in flight keeps the motor RUNNING under them (R163, R164). -/
theorem State.CyclesSound.setDemand {d : Demand} (hprint : s.printer.cycle.isSome = true → d.print = true)
    (hpunch : s.punch.cycle.isSome = true → d.punch = true) : (s.setDemand d).CyclesSound where
  motor := State.setDemand_followsDemand h.motor d
  print hc := by
    obtain ⟨-, hrunning, hfault⟩ := h.print hc
    exact ⟨hprint hc, State.setDemand_running h.motor hrunning (Demand.isEmpty_of_print (hprint hc)), hfault⟩
  punch hc := by
    obtain ⟨-, hrunning, hfault⟩ := h.punch hc
    exact ⟨hpunch hc, State.setDemand_running h.motor hrunning (Demand.isEmpty_of_punch (hpunch hc)), hfault⟩
  printSettle := h.printSettle
  punchSettle := h.punchSettle
  withdrawn := Motor.withdrawnAfter_spec

/-- CALL is no member of a mechanism (R162). -/
theorem State.CyclesSound.demandCall (on : Bool) : (s.demandCall on).CyclesSound :=
  h.setDemand (fun hc => (h.print hc).1) (fun hc => (h.punch hc).1)

theorem State.CyclesSound.placeDemands : s.placeDemands.CyclesSound :=
  h.setDemand (fun hc => by simp [(h.print hc).1]) (fun hc => by simp [(h.punch hc).1])

/-- A cycle in flight is work for its mechanism, so that its member stays (R131, R146). -/
theorem State.CyclesSound.lapseDemands : s.lapseDemands.CyclesSound := by
  refine h.setDemand (fun hc => ?_) fun hc => ?_
  · simp [State.dueDemand, State.printDemand, hc, (h.print hc).1]
  · obtain ⟨hplaced, -, hfault⟩ := h.punch hc
    simp [State.dueDemand, State.punchDemand, State.punchTakes, State.punchState, Punch.status, hc, hplaced, hfault]

/-- R112, R165: PRINT no longer stands withdrawn. -/
theorem State.CyclesSound.tellPrinter : s.tellPrinter.CyclesSound := by
  unfold State.tellPrinter
  split
  · exact { h with withdrawn := nofun }
  · exact h

theorem State.CyclesSound.reviewWithdrawn : s.reviewWithdrawn.CyclesSound := by
  unfold State.reviewWithdrawn
  split
  · exact h
  · exact h.tellPrinter

end Demands

/-! ## The choices that follow a step -/

section Choices
variable {s : State}

/-- A cycle starts in its selection (R118). -/
theorem State.printFrom_settling (hc : s.printer.cycle = none) (n : PrintSpool) :
    (s.printFrom n).printer.settling = false := by
  cases hhead : s.printHead n with
  | none => simp [State.printFrom_of_empty hhead, Printer.settling, hc]
  | some c => simp [State.printFrom_of_head hhead, State.printCell_eq, Printer.settling, State.cycleNow]

theorem State.newlineItem_settling (s : State) : s.newlineItem.printer.settling = false := by
  unfold State.newlineItem
  split <;> rfl

@[simp] theorem Printer.grant_cycle (p : Printer) (n : PrintSpool) : (p.grant n).cycle = p.cycle := by
  by_cases hn : p.current = some n
  · rw [Printer.grant_of_current hn]
  · rw [Printer.grant_of_other hn]

theorem State.grantItem_settling (hc : s.printer.cycle = none) : s.grantItem.printer.settling = false := by
  unfold State.grantItem
  split
  · exact State.printFrom_settling (by simpa using hc) _
  · simp [Printer.settling, hc]

/-- No choice of the printer leaves a cycle in its settle (R112, R118). -/
theorem State.printChoiceItem_settling (hc : s.printer.cycle = none) : s.printChoiceItem.printer.settling = false := by
  rcases s.printChoiceItem_cases with h | ⟨n, h⟩ | h | h | h <;> rw [h]
  · simp [Printer.settling, hc]
  · exact State.printFrom_settling hc n
  · exact s.newlineItem_settling
  · exact State.grantItem_settling hc
  · simp [State.beginHoldWait, Printer.settling, hc]

/-- A cycle starts with the code magnets (R139). -/
theorem State.punchChoiceItem_settling (hc : s.punch.cycle = none) : s.punchChoiceItem.punch.settling = false := by
  have hcell : ∀ e, (s.punchCell e).punch.settling = false := fun e => by
    unfold State.punchCell
    split <;> rfl
  unfold State.punchChoiceItem
  split
  · exact hcell _
  split
  · rfl
  split
  · rfl
  split
  · exact hcell _
  split
  · rfl
  split
  · rfl
  · simp [Punch.settling, hc]

@[simp] theorem State.printChoice_punch (s : State) : s.printChoice.punch = s.punch :=
  congrArg Prod.fst s.printChoice_punchWork

@[simp] theorem State.punchChoice_printer (s : State) : s.punchChoice.printer = s.printer := by
  have hcell : ∀ e, (s.punchCell e).printer = s.printer := fun e => by
    unfold State.punchCell
    split <;> rfl
  rcases s.punchChoice_cases with h | ⟨-, -, -, h⟩ <;> rw [h]
  unfold State.punchChoiceItem
  split
  · exact hcell _
  split
  · rfl
  split
  · rfl
  split
  · exact hcell _
  split
  · rfl
  split <;> rfl

/-- An IDLE printer has no fault (R110). -/
theorem Printer.no_fault_of_idle {p : Printer} (h : p.status = .idle) : p.fault = false := by
  unfold Printer.status at h
  split_ifs at h with hfault
  simpa using hfault

/-- An ON-IDLE punch has no fault (R133). -/
theorem Punch.no_fault_of_onIdle {p : Punch} (h : p.status = .onIdle) : p.fault = false := by
  unfold Punch.status at h
  split_ifs at h with hfault
  simpa using hfault

/-- A print cycle starts in IDLE, under the RUNNING motor and with PRINT placed (R110, R112, R164). -/
theorem State.CyclesSound.printChoice (h : s.CyclesSound) : s.printChoice.CyclesSound := by
  rcases s.printChoice_cases with heq | ⟨hchooses, heq, hplaced⟩
  · rwa [heq]
  obtain ⟨hidle, hrunning, -⟩ := State.printerChooses_iff.mp hchooses
  have hnone := Printer.cycle_of_idle hidle
  have hsettling : s.printChoice.printer.settling = s.printer.settling := by
    rw [heq, State.printChoiceItem_settling hnone]
    simp [Printer.settling, hnone]
  constructor
  case motor => rw [s.printChoice_motor]; exact h.motor
  case print =>
    intro hc
    rw [s.printChoice_motor, s.printChoice_takesUp.printer.fault]
    refine ⟨hplaced.resolve_right fun hno => ?_, hrunning, Printer.no_fault_of_idle hidle⟩
    simp [heq, hno] at hc
  case punch => rw [s.printChoice_motor, s.printChoice_punch]; exact h.punch
  case printSettle => rw [s.printChoice_motor, hsettling]; exact h.printSettle
  case punchSettle => rw [s.printChoice_motor, s.printChoice_punch]; exact h.punchSettle
  case withdrawn => rw [s.printChoice_motor]; exact h.withdrawn

/-- A punch cycle starts in ON-IDLE, under the RUNNING motor and with PUNCH placed (R133, R138, R164). -/
theorem State.CyclesSound.punchChoice (h : s.CyclesSound) : s.punchChoice.CyclesSound := by
  rcases s.punchChoice_cases with heq | ⟨hidle, hrunning, hplaced, heq⟩
  · rwa [heq]
  have hnone := Punch.cycle_of_onIdle hidle
  have hsettling : s.punchChoice.punch.settling = s.punch.settling := by
    rw [heq, State.punchChoiceItem_settling hnone]
    simp [Punch.settling, hnone]
  constructor
  case motor => rw [s.punchChoice_motor]; exact h.motor
  case print => rw [s.punchChoice_motor, s.punchChoice_printer]; exact h.print
  case punch =>
    intro _
    rw [s.punchChoice_motor, s.punchChoice_takesUp.punch.fault]
    exact ⟨hplaced, hrunning, Punch.no_fault_of_onIdle hidle⟩
  case printSettle => rw [s.punchChoice_motor, s.punchChoice_printer]; exact h.printSettle
  case punchSettle => rw [s.punchChoice_motor, hsettling]; exact h.punchSettle
  case withdrawn => rw [s.punchChoice_motor]; exact h.withdrawn

theorem State.testReleases_sameCycles (s : State) : s.SameCycles s.testReleases := by
  unfold State.testReleases State.startTrailer
  dsimp only
  split_ifs <;> simp

/-- A cut-in leaves the cycle and the fault (R115). -/
@[simp] theorem Printer.cutIn_cycle (p : Printer) : p.cutIn.cycle = p.cycle := by rw [p.cutIn_spec.1]

@[simp] theorem Printer.cutIn_fault (p : Printer) : p.cutIn.fault = p.fault := by rw [p.cutIn_spec.1]

theorem State.reviewHoldWait_sameCycles (s : State) : s.SameCycles s.reviewHoldWait := by
  unfold State.reviewHoldWait
  split_ifs <;> simp

theorem State.runReleaseTimer_sameCycles (s : State) : s.SameCycles s.runReleaseTimer := by
  unfold State.runReleaseTimer
  repeat' split
  all_goals simp

/-- The Line Sender's choice is not of the mechanisms (R57). -/
@[simp] theorem State.sendChoice_sameCycles (s : State) : s.SameCycles s.sendChoice := by
  obtain ⟨l, st, heq, -⟩ := s.sendChoice_eq
  simp [heq]

theorem State.CyclesSound.chosen (h : s.CyclesSound) : s.chosen.CyclesSound := by
  have hreviewed := (h.of_same s.testReleases_sameCycles).of_same (State.reviewHoldWait_sameCycles _)
  exact hreviewed.reviewWithdrawn.placeDemands.printChoice.punchChoice

theorem State.CyclesSound.carryOn (h : s.CyclesSound) : s.carryOn.CyclesSound := by
  rw [State.carryOn_eq]
  exact (h.chosen.lapseDemands.of_same (State.runReleaseTimer_sameCycles _)).of_same (State.sendChoice_sameCycles _)

/-- Followed by the choices. -/
theorem State.KeepsCycles.carryOn {t : State} (h : s.KeepsCycles t) : s.KeepsCycles t.carryOn :=
  fun hs => (h hs).carryOn

/-- The choices after what leaves the cycles. -/
theorem State.KeepsCycles.carryOn_same {t : State} (h : s.SameCycles t) : s.KeepsCycles t.carryOn :=
  (State.KeepsCycles.same h).carryOn

end Choices

end Sys2Proof.Machine
end

section
/-! SUPPORT. The operations of the routes, the Message File, the line, the calls and the keyboard leave the cycles; those
that place or remove CALL keep them under power (R162). -/

namespace Sys2Proof.Machine

variable (s : State)

/-! ## The punch and its spool -/

@[simp] theorem State.claimPunch_sameCycles (k : Stream) : s.SameCycles (s.claimPunch k) := by
  unfold State.claimPunch
  split <;> simp

@[simp] theorem State.lineCellPlaced_sameCycles (k : Stream) : s.SameCycles (s.lineCellPlaced k) := by
  unfold State.lineCellPlaced
  split <;> simp

@[simp] theorem State.dropFeedHeld_sameCycles : s.SameCycles s.dropFeedHeld := by
  unfold State.dropFeedHeld
  split <;> simp

@[simp] theorem State.setSwitch_sameCycles (on : Bool) : s.SameCycles (s.setSwitch on) := by
  simp [State.setSwitch]

@[simp] theorem State.lineReleaseDue_sameCycles : s.SameCycles s.lineReleaseDue := by
  unfold State.lineReleaseDue
  split <;> simp

@[simp] theorem State.markLineRelease_sameCycles : s.SameCycles s.markLineRelease := by
  unfold State.markLineRelease
  split <;> simp

/-! ## The Message File and the routes -/

@[simp] theorem State.offerFile_sameCycles (c : Cell) : s.SameCycles (s.offerFile c).1 := by
  have h := s.offerFile_sameButTraffic c
  simp [h.motor, h.printer]

@[simp] theorem State.endFiling_sameCycles (cause : FilingCause) : s.SameCycles (s.endFiling cause) := by
  unfold State.endFiling State.closeMessage
  dsimp only
  split <;> simp

@[simp] theorem State.advanceReplay_sameCycles (r : Replay) (total : Nat) : s.SameCycles (s.advanceReplay r total) := by
  unfold State.advanceReplay
  split <;> simp

@[simp] theorem State.replayCell_sameCycles (t : ReplayTarget) (c : Cell) : s.SameCycles (s.replayCell t c) := by
  cases t <;> simp [State.replayCell, State.appendPunch]

@[simp] theorem State.tryPlace_sameCycles (n : RouteName) (p : Place) (c : Cell) :
    s.SameCycles (s.tryPlace n p c).1 := by
  unfold State.tryPlace State.tryPrint State.tryPunch
  repeat' split
  all_goals simp [State.appendPunch]

@[simp] theorem Delivery.tryStandIn_sameCycles (d : Delivery) (n : RouteName) (r : Route) (p : Place) (c : Cell) :
    d.state.SameCycles (d.tryStandIn n r p c).state := by
  unfold Delivery.tryStandIn
  dsimp only
  repeat' split
  all_goals simp

@[simp] theorem Delivery.deliverTo_sameCycles (n : RouteName) (r : Route) (c : Cell) (d : Delivery) (p : Place) :
    d.state.SameCycles (d.deliverTo n r c p).state := by
  unfold Delivery.deliverTo
  dsimp only
  repeat' split
  all_goals simp

/-- A presentation leaves the cycles (R23). -/
@[simp] theorem State.present_sameCycles (n : RouteName) (c : Cell) : s.SameCycles (s.present n c).1 := by
  have hdelivered : s.SameCycles (s.deliver n c).state := by
    unfold State.deliver
    dsimp only
    split <;> simp
  unfold State.present
  simp [hdelivered]

theorem replayCopy_keepsCycles : s.KeepsCycles (replayCopy s) := by
  unfold replayCopy
  split
  · exact .refl s
  split
  · exact .refl s
  split
  · exact .carryOn_same (by simp)
  · exact .refl s

/-! ## Calls -/

@[simp] theorem State.reportLoss_sameCycles (loss : Option (SpaceTarget × SpaceReason)) :
    s.SameCycles (s.reportLoss loss) := by
  unfold State.reportLoss
  dsimp only
  repeat' split
  all_goals simp

@[simp] theorem State.tryConnect_sameCycles : s.SameCycles s.tryConnect := by
  unfold State.tryConnect State.enterConnected
  split <;> simp

/-- R72, R162: an attempt places CALL. -/
theorem State.enterAnswering_keepsCycles : s.KeepsCycles s.enterAnswering := by
  intro h
  unfold State.enterAnswering
  exact (State.CyclesSound.demandCall (h.of_same (by simp)) true).of_same (State.tryConnect_sameCycles _)

theorem State.enterCalling_keepsCycles : s.KeepsCycles s.enterCalling := by
  intro h
  unfold State.enterCalling
  have hplaced : (((s.openRecord .placed .calling).enterCall .calling).demandCall true).CyclesSound :=
    State.CyclesSound.demandCall (h.of_same (by simp)) true
  exact hplaced.of_same (by simp)

@[simp] theorem State.failAttempt_sameCycles (o : CallOutcome) : s.SameCycles (s.failAttempt o) := by
  simp [State.failAttempt, State.clearedNotice]

@[simp] theorem State.declineOffer_sameCycles : s.SameCycles s.declineOffer := by simp [State.declineOffer]

@[simp] theorem State.endClearing_sameCycles : s.SameCycles s.endClearing := by
  unfold State.endClearing State.clearedNotice
  split <;> simp

/-- R88, R162: the end of RELEASING removes CALL. -/
theorem State.endReleasing_keepsCycles : s.KeepsCycles s.endReleasing := by
  intro h
  have hremoved := h.demandCall false
  unfold State.endReleasing
  dsimp only
  split <;> exact hremoved.of_same (by simp)

@[simp] theorem State.enterClearing_sameCycles (cause : CallOutcome) : s.SameCycles (s.enterClearing cause) := by
  unfold State.enterClearing State.beginClearing State.leaveLine State.timeClearing State.emptySend
  dsimp only
  split <;> simp

@[simp] theorem State.takeClear_sameCycles : s.SameCycles s.takeClear := by
  unfold State.takeClear
  split <;> simp

@[simp] theorem State.callLevelChange_sameCycles (level : Level) (te : Nat) :
    s.SameCycles (s.callLevelChange level te) := by
  unfold State.callLevelChange
  split <;> simp

theorem State.recognise_keepsCycles : s.KeepsCycles s.recognise := by
  unfold State.recognise
  split
  · exact (State.enterAnswering_keepsCycles _).after (by simp)
  · exact .same (by simp [State.enterOffered])
  · exact .same (by simp)

@[simp] theorem State.withdrawn_sameCycles : s.SameCycles s.withdrawn := by
  unfold State.withdrawn
  split <;> simp

/-! ## The Line Receiver -/

@[simp] theorem State.tellDelivered_sameCycles (cell : Cell) (enquiry : Bool) :
    s.SameCycles (s.tellDelivered cell enquiry) := by
  unfold State.tellDelivered State.takeEnquiry
  dsimp only
  repeat' split
  all_goals simp

@[simp] theorem State.recordDelivery_sameCycles (k : Quality) : s.SameCycles (s.recordDelivery k) := by
  unfold State.recordDelivery State.poorCharacter
  dsimp only
  repeat' split
  all_goals simp

@[simp] theorem State.reachBreak_sameCycles (r : SpaceRun) : s.SameCycles (s.reachBreak r) := by
  unfold State.reachBreak State.discardPending State.poorCharacter
  dsimp only
  repeat' split
  all_goals simp

@[simp] theorem State.ensureBreak_sameCycles (r : SpaceRun) : s.SameCycles (s.ensureBreak r) := by
  unfold State.ensureBreak
  split <;> simp

@[simp] theorem State.handOn_sameCycles (c : Cell) (enquiry : Bool) : s.SameCycles (s.handOn c enquiry) := by
  simp [State.handOn]

@[simp] theorem State.markInRun_sameCycles (r : SpaceRun) (te : Nat) : s.SameCycles (s.markInRun r te) := by
  unfold State.markInRun State.deliverSubstituted
  dsimp only
  repeat' split
  all_goals simp

@[simp] theorem State.receiverChange_sameCycles (level : Level) (te : Nat) :
    s.SameCycles (s.receiverChange level te) := by
  unfold State.receiverChange State.startEdge
  dsimp only
  repeat' split
  all_goals simp

/-! ## The keyboard -/

@[simp] theorem State.modeEffects_sameCycles (before after : KeyboardMode) :
    s.SameCycles (s.modeEffects before after) := by
  unfold State.modeEffects
  dsimp only
  split_ifs <;> simp

@[simp] theorem State.changeMode_sameCycles (mode : KeyboardMode) : s.SameCycles (s.changeMode mode) := by
  simp [State.changeMode]

@[simp] theorem State.pressKey_sameCycles (e : KeyEntry) : s.SameCycles (s.pressKey e) := by
  unfold State.pressKey
  split
  · simp
  · unfold State.pressCode State.keyToSend State.keyToLocal
    dsimp only
    repeat' split
    all_goals simp
  · unfold State.pressHereIs
    repeat' split
    all_goals simp
  · unfold State.pressBreak
    split <;> simp
  · unfold State.pressMode
    split <;> simp
  · unfold State.pressFeed
    dsimp only
    split <;> simp

end Sys2Proof.Machine
end

section
/-! SUPPORT. The rows of the line, the calls, the motor, the mechanisms, the keyboard and the loader keep cycles under
power: a phase goes on under the same motor, a settle stands with the cycle that settles, and the report of a settle ends
its cycle as it sets a fault (R118, R120, R139, R143, R163 to R169). -/

namespace Sys2Proof.Machine

variable (s : State)

/-! ## The rows of the line and of the call timers -/

/-- What a timer does on its expiry (log 1). -/
theorem State.onTimer_keepsCycles {timer : Option Nat} {act : State → State}
    (hact : ∀ t : State, t.KeepsCycles (act t)) : s.KeepsCycles (s.onTimer timer act) := by
  unfold State.onTimer
  split
  · exact (hact _).after (by simp)
  · exact .refl s

/-- What a sample does in its place (R41). -/
theorem State.atSample_keepsCycles {act : State → Assembly → State} (k : Nat)
    (hact : ∀ (t : State) a, t.KeepsCycles (act t a)) : s.KeepsCycles (s.atSample k act) := by
  unfold State.atSample
  split
  · split
    · exact (hact _ _).after (by simp)
    · exact .refl s
  · exact .refl s

theorem rxFilteredChange_keepsCycles (level : Level) (te : Nat) : s.KeepsCycles (rxFilteredChange level te s) := by
  unfold rxFilteredChange
  split
  · exact .refl s
  · exact .carryOn_same (by simp)

theorem startSample_keepsCycles : s.KeepsCycles (startSample s) :=
  s.atSample_keepsCycles 0 fun t a => by
    unfold State.readStart
    split
    · exact .carryOn_same (by simp)
    · exact .same (by simp)

theorem unitSample_keepsCycles : s.KeepsCycles (unitSample s) := by
  unfold unitSample
  split
  · split
    · exact s.atSample_keepsCycles _ fun t a => .same (by simp [State.readUnit])
    · exact .refl s
  · exact .refl s

theorem stopSample_keepsCycles : s.KeepsCycles (stopSample s) :=
  s.atSample_keepsCycles 6 fun t a => by
    unfold State.readStop State.recordDistortion State.deliverReceived
    dsimp only
    split
    · exact .carryOn_same (by simp)
    · exact .same (by simp)

theorem breakThreshold_keepsCycles : s.KeepsCycles (breakThreshold s) := by
  unfold breakThreshold
  split
  · split
    · exact .refl s
    · exact .carryOn_same (by simp)
  · exact .refl s

theorem clearThreshold_keepsCycles : s.KeepsCycles (clearThreshold s) := by
  unfold clearThreshold
  split
  · exact .carryOn_same (by simp)
  · exact .refl s

theorem turnaroundGuardExpiry_keepsCycles : s.KeepsCycles (turnaroundGuardExpiry s) :=
  s.onTimer_keepsCycles fun _ => .same (by simp)

theorem characterSent_keepsCycles : s.KeepsCycles (characterSent s) := by
  unfold characterSent State.characterEnds
  dsimp only
  repeat' split
  · exact .carryOn_same (by simp)
  · exact .carryOn_same (by simp)
  · exact .refl s

theorem breakKeyingEnd_keepsCycles : s.KeepsCycles (breakKeyingEnd s) := by
  unfold breakKeyingEnd
  split
  · exact .same (by simp)
  · exact .refl s

theorem callRecognition_keepsCycles : s.KeepsCycles (callRecognition s) :=
  s.onTimer_keepsCycles fun t => t.recognise_keepsCycles.carryOn

theorem withdrawal_keepsCycles : s.KeepsCycles (withdrawal s) :=
  s.onTimer_keepsCycles fun _ => .carryOn_same (by simp)

theorem offerTimeout_keepsCycles : s.KeepsCycles (offerTimeout s) :=
  s.onTimer_keepsCycles fun t => State.KeepsCycles.carryOn (by
    split
    · exact t.enterAnswering_keepsCycles
    · exact .same (by simp))

theorem confirmation_keepsCycles : s.KeepsCycles (confirmation s) :=
  s.onTimer_keepsCycles fun _ => .carryOn_same (by simp)

theorem confirmTimeout_keepsCycles : s.KeepsCycles (confirmTimeout s) :=
  s.onTimer_keepsCycles fun _ => .carryOn_same (by simp)

theorem idleTimeout_keepsCycles : s.KeepsCycles (idleTimeout s) :=
  s.onTimer_keepsCycles fun _ => .carryOn_same (by simp)

theorem enquiryDelayExpiry_keepsCycles : s.KeepsCycles (enquiryDelayExpiry s) :=
  s.onTimer_keepsCycles fun _ => .same (by simp)

theorem captureWindowExpiry_keepsCycles : s.KeepsCycles (captureWindowExpiry s) := by
  unfold captureWindowExpiry
  split <;> exact .same (by simp)

theorem clearingEnd_keepsCycles : s.KeepsCycles (clearingEnd s) :=
  s.onTimer_keepsCycles fun _ => .carryOn_same (by simp)

theorem clearingTimeout_keepsCycles : s.KeepsCycles (clearingTimeout s) :=
  s.onTimer_keepsCycles fun _ => .carryOn_same (by simp)

theorem releasingEnd_keepsCycles : s.KeepsCycles (releasingEnd s) :=
  s.onTimer_keepsCycles fun t => t.endReleasing_keepsCycles.carryOn

/-! ## The motor -/

theorem State.CyclesSound.advance {s : State} (h : s.CyclesSound) (t : Nat) : (s.advance t).CyclesSound :=
  h.of_same (by simp)

/-- A motor that is not RUNNING has no cycle under it (R131, R146). -/
theorem State.CyclesSound.no_cycles {s : State} (h : s.CyclesSound) (hstate : s.motor.state ≠ .running) :
    s.printer.cycle = none ∧ s.punch.cycle = none :=
  ⟨Option.not_isSome_iff_eq_none.mp fun hc => hstate (h.print hc).2.1,
    Option.not_isSome_iff_eq_none.mp fun hc => hstate (h.punch hc).2.1⟩

/-- From any state but RUNNING the motor may go to one in which it follows its demands, with PRINT withdrawn where it
may be (R163, R165). -/
theorem State.CyclesSound.withMotor {s : State} (h : s.CyclesSound) (hstate : s.motor.state ≠ .running)
    {m : MotorState} {w : Bool} (hm : Motor.followsDemand { s.motor with state := m, printWithdrawn := w })
    (hw : w = true → s.motor.demand.print = false ∧ (m = .running ∨ ∃ due, m = .runUp due)) :
    ({ s with motor := { s.motor with state := m, printWithdrawn := w } } : State).CyclesSound := by
  obtain ⟨hprint, hpunch⟩ := h.no_cycles hstate
  exact { h with
    motor := hm
    print := fun hc => by simp [hprint] at hc
    punch := fun hc => by simp [hpunch] at hc
    withdrawn := hw }

/-- R163, R164: the end of the run-up. -/
theorem runUpExpiry_keepsCycles : s.KeepsCycles (runUpExpiry s) := by
  intro h
  unfold runUpExpiry
  split
  · next due hup =>
    have hadvanced := h.advance due
    have hstate : (s.advance due).motor.state ≠ .running := by simp [hup]
    dsimp only
    split
    · next hempty => exact hadvanced.withMotor hstate hempty nofun
    · next hplaced =>
      refine State.CyclesSound.carryOn (.of_same ?_ (State.tryConnect_sameCycles _))
      exact hadvanced.withMotor hstate (Bool.eq_false_iff.mpr hplaced) fun hw => ⟨(h.withdrawn hw).1, .inl rfl⟩
  · exact h

/-- R163: the end of the run-on. -/
theorem runOnExpiry_keepsCycles : s.KeepsCycles (runOnExpiry s) := by
  intro h
  unfold runOnExpiry
  split
  · next due hon =>
    have hempty : s.motor.demand.isEmpty = true := by
      have hmotor := h.motor
      rwa [Motor.followsDemand, hon] at hmotor
    refine (h.advance due).withMotor (by simp [hon]) hempty fun hw => ?_
    simpa [hon] using (h.withdrawn hw).2
  · exact h

/-! ## The phases of a cycle -/

section Phases
variable {s : State} (h : s.CyclesSound)
include h

/-- A print cycle goes from one phase before its settle to another (R118). -/
theorem State.CyclesSound.printPhase {c : PrintCycle} (hc : s.printer.cycle = some c) (hfrom : c.phase ≠ .settle)
    {p : PrintPhase} (hto : p ≠ .settle) : (s.printPhase c p).CyclesSound :=
  { h with
    print := fun _ => h.print (by simp [hc])
    printSettle := by simpa [State.printPhase, Printer.settling, hc, hfrom, hto] using h.printSettle }

/-- A print cycle goes to its settle, and the settle begins (R118, R167). -/
theorem State.CyclesSound.printSettles (hc : s.printer.cycle.isSome = true) (c : PrintCycle) (mode : TimingMode)
    (programmed extra : Nat) :
    ((s.printPhase c .settle).beginSettle .printer mode programmed extra).CyclesSound :=
  { h with print := fun _ => h.print hc, printSettle := ⟨fun _ => rfl, fun _ => nofun⟩ }

/-- A punch cycle goes from one phase before its settle to another (R139). -/
theorem State.CyclesSound.punchPhase {c : PunchCycle} (hc : s.punch.cycle = some c) (hfrom : c.phase ≠ .settle)
    {p : PunchPhase} (hto : p ≠ .settle) : (s.punchPhase c p).CyclesSound :=
  { h with
    punch := fun _ => h.punch (by simp [hc])
    punchSettle := by simpa [State.punchPhase, Punch.settling, hc, hfrom, hto] using h.punchSettle }

/-- A punch cycle goes to its settle, and the settle begins (R139, R167). -/
theorem State.CyclesSound.punchSettles (hc : s.punch.cycle.isSome = true) (c : PunchCycle) (mode : TimingMode)
    (programmed extra : Nat) :
    ((s.punchPhase c .settle).beginSettle .punch mode programmed extra).CyclesSound :=
  { h with punch := fun _ => h.punch hc, punchSettle := ⟨fun _ => rfl, fun _ => nofun⟩ }

theorem State.CyclesSound.beginStrike {c : PrintCycle} (hc : s.printer.cycle = some c) (hfrom : c.phase ≠ .settle) :
    (s.beginStrike c).CyclesSound := by
  have hstruck : (s.printPhase c (.strike (s.now + c.strikePulse * Config.ms))).CyclesSound :=
    h.printPhase hc hfrom nofun
  unfold State.beginStrike
  dsimp only
  split
  · exact hstruck.of_same (by simp)
  · exact hstruck

end Phases

theorem selectEnd_keepsCycles : s.KeepsCycles (selectEnd s) := by
  intro h
  unfold selectEnd
  split
  · next c hc =>
    split
    · next due hphase => exact (h.advance due).beginStrike hc (by simp [hphase])
    · exact h
  · exact h

theorem strikeEnd_keepsCycles : s.KeepsCycles (strikeEnd s) := by
  intro h
  unfold strikeEnd
  split
  · next c hc =>
    split
    · next due _ => exact (h.advance due).printSettles (by simp [hc]) c _ _ _
    · exact h
  · exact h

theorem punchPulseEnd_keepsCycles : s.KeepsCycles (punchPulseEnd s) := by
  intro h
  unfold punchPulseEnd
  split
  · next c hc =>
    split
    · next due hphase => exact (h.advance due).punchPhase hc (by simp [hphase]) nofun
    · exact h
  · exact h

theorem feedPulseEnd_keepsCycles : s.KeepsCycles (feedPulseEnd s) := by
  intro h
  unfold feedPulseEnd
  split
  · next c hc =>
    split
    · next due _ => exact (h.advance due).punchSettles (by simp [hc]) c _ _ _
    · exact h
  · exact h

/-! ## The end of a settle -/

/-- A print cycle ends with its settle; then a fault may stand (R120, R128). -/
theorem State.CyclesSound.withoutPrintCycle {s t : State} (h : s.CyclesSound) (hcycle : t.printer.cycle = none)
    {m : Settle} (hidle : m.phase = .idle) (hmotor : t.motor = { s.motor with printTiming := m })
    (hpunch : t.punch = s.punch) : t.CyclesSound where
  motor := by rw [hmotor]; exact h.motor
  print hc := by simp [hcycle] at hc
  punch := by rw [hmotor, hpunch]; exact h.punch
  printSettle := by simp [hmotor, hidle, Printer.settling, hcycle]
  punchSettle := by rw [hmotor, hpunch]; exact h.punchSettle
  withdrawn := by rw [hmotor]; exact h.withdrawn

/-- A punch cycle ends with its settle; then a fault may stand (R139, R143). -/
theorem State.CyclesSound.withoutPunchCycle {s t : State} (h : s.CyclesSound) (hcycle : t.punch.cycle = none)
    {m : Settle} (hidle : m.phase = .idle) (hmotor : t.motor = { s.motor with punchTiming := m })
    (hprinter : t.printer = s.printer) : t.CyclesSound where
  motor := by rw [hmotor]; exact h.motor
  print := by rw [hmotor, hprinter]; exact h.print
  punch hc := by simp [hcycle] at hc
  printSettle := by rw [hmotor, hprinter]; exact h.printSettle
  punchSettle := by simp [hmotor, hidle, Punch.settling, hcycle]
  withdrawn := by rw [hmotor]; exact h.withdrawn

theorem State.finishPrintCycle_cycle (c : PrintCycle) (fault : Bool) :
    (s.finishPrintCycle c fault).printer.cycle = none := by
  rw [State.finishPrintCycle_eq]
  split <;> simp [Printer.afterCycle, Printer.resetSteps]

@[simp] theorem State.finishPrintCycle_motor (c : PrintCycle) (fault : Bool) :
    (s.finishPrintCycle c fault).motor = s.motor := by
  unfold State.finishPrintCycle State.printEffects
  dsimp only
  split_ifs <;> simp

theorem State.finishPrintCycle_punch (c : PrintCycle) (fault : Bool) : (s.finishPrintCycle c fault).punch = s.punch :=
  congrArg Prod.fst (s.finishPrintCycle_punchWork c fault)

theorem State.finishPunchCycle_cycle (c : PunchCycle) (fault : Bool) :
    (s.finishPunchCycle c fault).punch.cycle = none := by
  unfold State.finishPunchCycle
  dsimp only
  split_ifs <;> simp

@[simp] theorem State.finishPunchCycle_motor (c : PunchCycle) (fault : Bool) :
    (s.finishPunchCycle c fault).motor = s.motor := by
  unfold State.finishPunchCycle
  dsimp only
  split_ifs <;> simp

@[simp] theorem State.finishPunchCycle_printer (c : PunchCycle) (fault : Bool) :
    (s.finishPunchCycle c fault).printer = s.printer := by
  unfold State.finishPunchCycle
  dsimp only
  split_ifs <;> simp

section Settles
variable {s : State} {m : Mechanism} (h : s.CyclesSound) (hbusy : (s.settle m).phase ≠ .idle)
include h hbusy

/-- The report of a busy settle finds the cycle that settles, and ends it (R167). -/
theorem State.CyclesSound.endSettle (elapsed : Nat) (fault : Bool) : (s.endSettle m elapsed fault).CyclesSound := by
  cases m with
  | printer =>
    obtain ⟨c, hc, -⟩ := Option.any_eq_true _ _ |>.mp (h.printSettle.mp hbusy)
    rw [State.endSettle, State.report_printer (c := c) (by simpa using hc)]
    refine State.CyclesSound.carryOn (h.withoutPrintCycle (State.finishPrintCycle_cycle _ c fault) ?_
      (State.finishPrintCycle_motor _ c fault) ?_)
    · rfl
    · exact State.finishPrintCycle_punch _ c fault
  | punch =>
    obtain ⟨c, hc, -⟩ := Option.any_eq_true _ _ |>.mp (h.punchSettle.mp hbusy)
    rw [State.endSettle, State.report_punch (c := c) (by simpa using hc)]
    refine State.CyclesSound.carryOn (h.withoutPunchCycle (State.finishPunchCycle_cycle _ c fault) ?_
      (State.finishPunchCycle_motor _ c fault) ?_)
    · rfl
    · exact State.finishPunchCycle_printer _ c fault

/-- A busy settle goes on in a busy phase (R168, R169). -/
theorem State.CyclesSound.settleAt (elapsed : Nat) {phase : SettlePhase} (hphase : phase ≠ .idle) :
    (s.settleAt m elapsed phase).CyclesSound := by
  cases m with
  | printer => exact { h with printSettle := ⟨fun _ => h.printSettle.mp hbusy, fun _ => hphase⟩ }
  | punch => exact { h with punchSettle := ⟨fun _ => h.punchSettle.mp hbusy, fun _ => hphase⟩ }

end Settles

theorem settleFixedEnd_keepsCycles (m : Mechanism) : s.KeepsCycles (settleFixedEnd m s) := by
  intro h
  unfold settleFixedEnd
  dsimp only
  split
  · next hsettling => exact h.endSettle (by simp [hsettling.1]) _ _
  · exact h

theorem settleSampledReading_keepsCycles (m : Mechanism) (busy : Bool) :
    s.KeepsCycles (settleSampledReading m busy s) := by
  intro h
  unfold settleSampledReading
  dsimp only
  split
  · next hsettling =>
    split
    · exact h.settleAt (by simp [hsettling.1]) _ nofun
    · exact h.endSettle (by simp [hsettling.1]) _ _
  · exact h

theorem settleAddEnd_keepsCycles (m : Mechanism) : s.KeepsCycles (settleAddEnd m s) := by
  intro h
  unfold settleAddEnd
  dsimp only
  split
  · next hadding => exact h.endSettle (by simp [hadding]) _ _
  · exact h

/-- R169: only a busy settle has a reading to come. -/
theorem Settle.busy_of_nextReading {r : Settle} {at0 : Nat} (h : r.nextReading = some at0) : r.phase ≠ .idle := by
  intro hidle
  simp [Settle.nextReading, hidle] at h

theorem extendedReading_keepsCycles (m : Mechanism) (busy : Bool) : s.KeepsCycles (extendedReading m busy s) := by
  intro h
  unfold extendedReading
  dsimp only
  split
  · exact h
  · next elapsed hnext =>
    have hbusy := Settle.busy_of_nextReading hnext
    split
    · exact h.endSettle hbusy _ _
    split
    · exact h.endSettle hbusy _ _
    · exact h.settleAt hbusy _ nofun

/-! ## Paper, tape and the timers of the mechanisms -/

theorem bellTimerExpiry_keepsCycles : s.KeepsCycles (bellTimerExpiry s) :=
  s.onTimer_keepsCycles fun _ => .same (by simp)

theorem holdWaitExpiry_keepsCycles : s.KeepsCycles (holdWaitExpiry s) := by
  unfold holdWaitExpiry
  split
  · dsimp only
    split
    · exact .carryOn_same (by simp)
    · exact .same (by simp)
  · exact .refl s

theorem releaseTimerExpiry_keepsCycles : s.KeepsCycles (releaseTimerExpiry s) :=
  s.onTimer_keepsCycles fun _ => .carryOn_same (by simp)

theorem paperOutChange_keepsCycles (asserted : Bool) (te : Nat) : s.KeepsCycles (paperOutChange asserted te s) := by
  unfold paperOutChange State.paperOutTaken State.paperGone
  dsimp only
  split
  · split
    · split
      · exact .carryOn_same (by simp)
      · exact .same (by simp)
    split <;> exact .same (by simp)
  · exact .refl s

theorem paperRestoreExpiry_keepsCycles : s.KeepsCycles (paperRestoreExpiry s) :=
  s.onTimer_keepsCycles fun _ => .carryOn_same (by simp)

theorem paperLowChange_keepsCycles (asserted : Bool) (te : Nat) : s.KeepsCycles (paperLowChange asserted te s) := by
  unfold paperLowChange
  split <;> exact .same (by simp)

theorem tapeOutChange_keepsCycles (asserted : Bool) (te : Nat) : s.KeepsCycles (tapeOutChange asserted te s) := by
  unfold tapeOutChange State.tapeOutTaken State.tapeGone
  dsimp only
  split
  · split
    · split
      · exact .carryOn_same (by simp)
      · exact .same (by simp)
    split <;> exact .same (by simp)
  · exact .refl s

theorem tapeRestoreExpiry_keepsCycles : s.KeepsCycles (tapeRestoreExpiry s) :=
  s.onTimer_keepsCycles fun _ => .carryOn_same (by simp)

theorem tapeLowChange_keepsCycles (asserted : Bool) (te : Nat) : s.KeepsCycles (tapeLowChange asserted te s) := by
  unfold tapeLowChange
  split <;> exact .same (by simp)

theorem inputFilterStart_keepsCycles (input : InputPin) (asserted : Bool) :
    s.KeepsCycles (inputFilterStart input asserted s) := by
  unfold inputFilterStart
  split
  · cases input <;> exact .carryOn_same (by simp [State.startFilter])
  · exact .refl s

/-! ## The keyboard -/

theorem confirmedPress_keepsCycles (p : Fin 64) : s.KeepsCycles (confirmedPress p s) := by
  unfold confirmedPress State.actOnPress
  split
  · split
    · exact .same (by simp)
    · exact .same (by simp)
    · split
      · exact .same (by simp)
      · exact .carryOn_same (by simp)
  · exact .refl s

theorem confirmedRelease_keepsCycles (p : Fin 64) : s.KeepsCycles (confirmedRelease p s) := by
  unfold confirmedRelease State.actOnRelease
  split
  · split
    · exact .same (by simp)
    · exact .same (by simp)
    · split
      · exact .carryOn_same (by simp)
      · exact .same (by simp)
  · exact .refl s

/-! ## The loader -/

/-- R184: the power-on values are sound whatever the clock, the straps and the queue. -/
theorem State.powerOnValues_cyclesSound (occasion : LoadOccasion) (straps : BitVec 2) (holdOff : Bool)
    (now freeIndex : Nat) (pending : List Instr) :
    (State.powerOnValues occasion straps holdOff now freeIndex pending).CyclesSound :=
  State.reset_cyclesSound.of_same ⟨⟨rfl, rfl, rfl, rfl, rfl⟩, ⟨rfl, rfl⟩, rfl, rfl⟩

theorem storeByte0Read_sameCycles (byte : Option Byte) : s.SameCycles (storeByte0Read byte s) := by
  unfold storeByte0Read
  repeat' split
  all_goals simp

@[simp] theorem State.afterLoad_sameCycles (occasion : LoadOccasion) : s.SameCycles (s.afterLoad occasion) := by
  unfold State.afterLoad
  repeat' split
  all_goals simp

theorem loadEnd_keepsCycles (image : List Byte) : s.KeepsCycles (loadEnd image s) := by
  unfold loadEnd State.endLoad State.loadDone State.handOverKeyboard
  split
  · split
    · exact .carryOn_same (by simp [State.handOverValues, Printer.takeWidth])
    · exact .refl s
  · exact .refl s

theorem storeOperationEnd_sameCycles (acknowledged : Bool) (bytes : List Byte) :
    s.SameCycles (storeOperationEnd acknowledged bytes s) := by
  unfold storeOperationEnd
  repeat' split
  all_goals simp

theorem storeWritePollTimeout_sameCycles : s.SameCycles (storeWritePollTimeout s) := by
  unfold storeWritePollTimeout
  split <;> simp

end Sys2Proof.Machine
end

section
/-! The commands of the host and the Control Link keep cycles under power, and so does every step (R131, R146, R162 to
R167). -/

namespace Sys2Proof.Machine

/-- An owner of a command, or another operation, that keeps the cycles under power in every state. -/
def CyclesKeeping (f : State → State) : Prop := ∀ s : State, s.KeepsCycles (f s)

theorem CyclesKeeping.same {f : State → State} (h : ∀ s : State, s.SameCycles (f s)) : CyclesKeeping f :=
  fun s => .same (h s)

section Commands
variable (s : State)

/-! ## The commands of service, calls and the line -/

theorem startService_sameCycles : s.SameCycles (startService s) := by
  unfold startService
  repeat' split
  all_goals simp

/-- R70, R162: STOP SERVICE removes CALL in ANSWERING. -/
theorem State.stopEffect_keepsCycles : s.KeepsCycles s.stopEffect.1 := by
  intro h
  have hremoved : ((s.demandCall false).endRecord .stopService).CyclesSound := (h.demandCall false).of_same (by simp)
  have hclear : ((s.withStop true).enterClearing .stopService).carryOn.CyclesSound :=
    (h.of_same (by simp)).carryOn
  unfold State.stopEffect
  split <;> dsimp only
  · exact h
  · exact h.of_same (by simp)
  · exact h.of_same (by simp)
  · exact (hremoved.of_same (by simp)).carryOn
  · exact hclear
  · exact hclear
  · exact h.of_same (by simp)
  · exact h.of_same (by simp)

theorem stopService_keepsCycles : s.KeepsCycles (stopService s) := s.stopEffect_keepsCycles.accept

theorem acceptCall_keepsCycles : s.KeepsCycles (acceptCall s) := by
  unfold acceptCall
  split
  · exact s.enterAnswering_keepsCycles.carryOn.accept
  · exact .same (by simp)

theorem declineCall_keepsCycles : s.KeepsCycles (declineCall s) := by
  unfold declineCall
  split
  · exact (State.KeepsCycles.carryOn_same (by simp)).accept
  · exact .same (by simp)

theorem placeCall_keepsCycles : s.KeepsCycles (placeCall s) := by
  unfold placeCall
  split
  · exact s.enterCalling_keepsCycles.carryOn.accept
  · exact .same (by simp)

theorem clearCall_keepsCycles : s.KeepsCycles (clearCall s) := by
  unfold clearCall
  split
  · exact (State.KeepsCycles.carryOn_same (by simp)).accept
  · exact (State.KeepsCycles.carryOn_same (by simp)).accept
  · exact (State.KeepsCycles.carryOn_same (by simp)).accept
  · exact .same (by simp)

theorem sendAnswerback_keepsCycles : s.KeepsCycles (sendAnswerback s) := by
  unfold sendAnswerback
  split
  · split
    · exact (State.KeepsCycles.carryOn_same (by simp)).accept
    · exact .same (by simp)
  · exact .same (by simp)

theorem sendEnquiry_keepsCycles : s.KeepsCycles (sendEnquiry s) := by
  unfold sendEnquiry
  split
  · exact (State.KeepsCycles.carryOn_same (by simp)).accept
  · exact .same (by simp)

theorem sendBreak_keepsCycles : s.KeepsCycles (sendBreak s) := by
  unfold sendBreak
  split
  · exact (State.KeepsCycles.carryOn_same (by simp)).accept
  · exact .same (by simp)

theorem resumeSend_keepsCycles : s.KeepsCycles (resumeSend s) := by
  unfold resumeSend
  split
  · split
    · exact (State.KeepsCycles.carryOn_same (by simp)).accept
    · exact .same (by simp)
  · exact .same (by simp)

theorem getLineQuality_sameCycles (clear : Byte) : s.SameCycles (getLineQuality clear s) := by
  unfold getLineQuality
  repeat' split
  all_goals simp

/-! ## The commands of the options, the routes, the spools and the Message File -/

theorem setOption_sameCycles (offset : Byte) (value : Word16) : s.SameCycles (setOption offset value s) := by
  unfold setOption
  repeat' split
  all_goals simp

theorem getOption_sameCycles (offset : Byte) : s.SameCycles (getOption offset s) := by
  unfold getOption
  split <;> simp

theorem setRoute_sameCycles (route destinations printStandIn punchStandIn : Byte) (reload : Word16) (action : Byte) :
    s.SameCycles (setRoute route destinations printStandIn punchStandIn reload action s) := by
  unfold setRoute
  split <;> simp

theorem getRoute_sameCycles (route clear : Byte) : s.SameCycles (getRoute route clear s) := by
  unfold getRoute
  dsimp only
  repeat' split
  all_goals simp

theorem rearmRoute_sameCycles (route : Byte) : s.SameCycles (rearmRoute route s) := by
  unfold rearmRoute
  split <;> simp

theorem submitText_keepsCycles (target : Byte) (bytes : List Byte) : s.KeepsCycles (submitText target bytes s) := by
  have hclaimed : ∀ t : SubmitTarget, s.SameCycles (s.claimFor t) := fun t => by cases t <;> simp [State.claimFor]
  unfold submitText State.submitCells
  split
  · split
    · exact .same (by simp)
    · dsimp only
      split
      · exact .same (by simp)
      · exact .carryOn_same (by simp [hclaimed])
  · exact .same (by simp)

/-- R11: an emptied spool drops what is committed of it, not the cycle in flight. -/
theorem State.spoolEmptied_sameCycles (n : SpoolName) : s.SameCycles (s.spoolEmptied n) := by
  unfold State.spoolEmptied State.dropPrintCommitment State.dropPunchWork
  dsimp only
  repeat' split
  all_goals simp

theorem clearSpool_keepsCycles (spool : Byte) : s.KeepsCycles (clearSpool spool s) := by
  unfold clearSpool
  split
  · exact .same (by simp)
  · exact .carryOn_same (by simp [State.spoolEmptied_sameCycles _ _])

theorem getMessage_sameCycles (number : Byte) : s.SameCycles (getMessage number s) := by
  unfold getMessage
  repeat' split
  all_goals simp

theorem fetchMessage_sameCycles (number : Byte) (offset : Word16) (count : Byte) :
    s.SameCycles (fetchMessage number offset count s) := by
  unfold fetchMessage
  repeat' split
  all_goals simp

theorem deleteMessage_sameCycles (number : Byte) : s.SameCycles (deleteMessage number s) := by
  unfold deleteMessage
  repeat' split
  all_goals simp

theorem replayMessage_sameCycles (number target : Byte) : s.SameCycles (replayMessage number target s) := by
  unfold replayMessage State.beginReplay
  repeat' split
  all_goals simp

theorem cancelReplay_sameCycles : s.SameCycles (cancelReplay s) := by
  unfold cancelReplay
  split <;> simp

/-! ## The commands of the mechanisms and the keyboard -/

theorem printerHold_keepsCycles : s.KeepsCycles (printerHold s) :=
  (State.KeepsCycles.carryOn_same (t := s.withHold true) (by simp)).accept

theorem printerRelease_keepsCycles : s.KeepsCycles (printerRelease s) :=
  (State.KeepsCycles.carryOn_same (t := s.withHold false) (by simp)).accept

/-- R130: PRINTER RESET waits for the cycle in flight, or clears the fault of a printer without one. -/
theorem State.CyclesSound.resetPrinter {s : State} (h : s.CyclesSound) : s.resetPrinter.CyclesSound := by
  unfold State.resetPrinter
  split
  · exact h.of_same (by simp)
  · next hnone =>
    have hreset : ({ s with printer := s.printer.resetSteps } : State).CyclesSound :=
      { h with print := fun hc => absurd hc hnone }
    exact (hreset.of_same (by simp)).tellPrinter

theorem printerReset_keepsCycles : s.KeepsCycles (printerReset s) :=
  State.KeepsCycles.accept fun h => h.resetPrinter.carryOn

theorem punchOn_keepsCycles : s.KeepsCycles (punchOn s) :=
  (State.KeepsCycles.carryOn_same (s.setSwitch_sameCycles true)).accept

theorem punchOff_keepsCycles : s.KeepsCycles (punchOff s) :=
  (State.KeepsCycles.carryOn_same (s.setSwitch_sameCycles false)).accept

theorem punchFeed_keepsCycles (count : Byte) : s.KeepsCycles (punchFeed count s) := by
  unfold punchFeed State.requestFeed
  split
  · exact .same (by simp)
  split
  · exact .same (by simp)
  split
  · exact .same (by simp)
  · exact .carryOn_same (by simp)

theorem punchRelease_keepsCycles : s.KeepsCycles (punchRelease s) := by
  unfold punchRelease
  split
  · exact .same (by simp)
  · split
    · exact (State.KeepsCycles.carryOn_same (by simp)).accept
    · exact .same (by simp)
  · exact .same (by simp)

/-- R145: PUNCH RESET mutes the cycle in flight, which goes on. -/
theorem State.CyclesSound.resetPunch {s : State} (h : s.CyclesSound) : s.resetPunch.CyclesSound := by
  have hmuted : ({ s with
      store := (s.store.emptySpool .punch).2, punch := s.punch.resetSteps } : State).CyclesSound :=
    { h with
      punch := fun hc => by
        obtain ⟨hplaced, hrunning, -⟩ := h.punch (by simpa [Punch.resetSteps] using hc)
        exact ⟨hplaced, hrunning, rfl⟩
      punchSettle := by simpa [Punch.settling, Punch.resetSteps, Option.any_map] using h.punchSettle }
  exact hmuted.of_same (by simp [State.resetPunch])

theorem punchReset_keepsCycles : s.KeepsCycles (punchReset s) := State.KeepsCycles.accept fun h => h.resetPunch.carryOn

theorem setKeyboardMode_keepsCycles (mode : Byte) : s.KeepsCycles (setKeyboardMode mode s) := by
  unfold setKeyboardMode
  split
  · exact .same (by simp)
  · split
    · exact .same (by simp)
    · exact (State.KeepsCycles.carryOn_same (by simp)).accept

/-! ## The commands of the store and the loader -/

theorem storeRead_sameCycles (offset count : Byte) : s.SameCycles (storeRead offset count s) := by
  unfold storeRead
  repeat' split
  all_goals simp

theorem storeWrite_sameCycles (offset : Byte) (bytes : List Byte) : s.SameCycles (storeWrite offset bytes s) := by
  unfold storeWrite
  repeat' split
  all_goals simp

theorem reload_sameCycles : s.SameCycles (reload s) := by
  unfold reload
  split <;> simp

theorem State.restartPrinter_cycle : s.restartPrinter.printer.cycle = none := by
  simp [State.restartPrinter, Printer.restartSteps]

theorem State.restartPunch_cycle : s.restartPunch.punch.cycle = none := by simp [State.restartPunch]

/-- R166: without a cycle the motor stops with its demands, and the settles with their cycles. -/
theorem State.restartMotor_cyclesSound {s : State} (hprint : s.printer.cycle = none) (hpunch : s.punch.cycle = none) :
    s.restartMotor.CyclesSound where
  motor := s.restartMotor_followsDemand
  print hc := by simp [State.restartMotor, hprint] at hc
  punch hc := by simp [State.restartMotor, hpunch] at hc
  printSettle := by simp [State.restartMotor, Printer.settling, hprint]
  punchSettle := by simp [State.restartMotor, Punch.settling, hpunch]
  withdrawn := nofun

/-- R132, R147, R166: the mechanisms and the motor at RESTART, whatever stood before. -/
theorem State.restartMechanisms_cyclesSound :
    s.restartPrinter.restartPunch.restartMotor.restartKeyboard.CyclesSound := by
  have hprint : s.restartPrinter.restartPunch.printer.cycle = none := by
    simpa [State.restartPunch] using s.restartPrinter_cycle
  exact (State.restartMotor_cyclesSound hprint (State.restartPunch_cycle _)).of_same (by simp)

/-- RESTART leaves sound cycles, for it abandons those in flight (R192). -/
theorem restart_cyclesSound : (restart s).CyclesSound :=
  State.restartMechanisms_cyclesSound _

end Commands

/-! ## The Control Link -/

/-- Every command's owner keeps the cycles under power, whatever the kind and the body (section 10.7). -/
theorem commandOwner_keepsCycles (kind : Byte) (body : List Byte) : CyclesKeeping (commandOwner kind body) := by
  unfold commandOwner
  split
  · exact .same fun _ => by simp [getStatus]
  · exact .same startService_sameCycles
  · exact stopService_keepsCycles
  · exact .same fun s => setOption_sameCycles s _ _
  · exact .same fun s => getOption_sameCycles s _
  · exact .same fun s => setRoute_sameCycles s _ _ _ _ _ _
  · exact .same fun s => getRoute_sameCycles s _ _
  · exact .same fun s => rearmRoute_sameCycles s _
  · exact fun s => submitText_keepsCycles s _ _
  · exact fun s => clearSpool_keepsCycles s _
  · exact acceptCall_keepsCycles
  · exact declineCall_keepsCycles
  · exact placeCall_keepsCycles
  · exact clearCall_keepsCycles
  · exact sendAnswerback_keepsCycles
  · exact sendEnquiry_keepsCycles
  · exact sendBreak_keepsCycles
  · exact resumeSend_keepsCycles
  · exact .same fun _ => by simp [getCall]
  · exact .same fun s => getLineQuality_sameCycles s _
  · exact .same fun _ => by simp [listMessages]
  · exact .same fun s => getMessage_sameCycles s _
  · exact .same fun s => fetchMessage_sameCycles s _ _ _
  · exact .same fun s => deleteMessage_sameCycles s _
  · exact .same fun s => replayMessage_sameCycles s _ _
  · exact .same cancelReplay_sameCycles
  · exact printerHold_keepsCycles
  · exact printerRelease_keepsCycles
  · exact printerReset_keepsCycles
  · exact punchOn_keepsCycles
  · exact punchOff_keepsCycles
  · exact fun s => punchFeed_keepsCycles s _
  · exact punchRelease_keepsCycles
  · exact punchReset_keepsCycles
  · exact fun s => setKeyboardMode_keepsCycles s _
  · exact .same fun s => storeRead_sameCycles s _ _
  · exact .same fun s => storeWrite_sameCycles s _ _
  · exact .same reload_sameCycles
  · exact fun s _ => restart_cyclesSound s
  · exact State.KeepsCycles.refl

section Frames
variable (s : State)

/-- R173: a frame in turn is refused or reaches its owner. -/
theorem State.dispatch_keepsCycles (kind : Byte) (length : Nat) (body : List Byte) :
    s.KeepsCycles (s.dispatch kind length (commandOwner kind body)) := by
  unfold State.dispatch
  dsimp only
  split
  · exact .same (by simp)
  · exact (commandOwner_keepsCycles kind body _).after (by simp)

@[simp] theorem State.frameEnded_sameCycles (turn : Turn) (kind : Byte) : s.SameCycles (s.frameEnded turn kind) := by
  unfold State.frameEnded
  split <;> simp

@[simp] theorem State.frameFails_sameCycles (turn : Turn) (kind : Byte) (r : Reason) :
    s.SameCycles (s.frameFails turn kind r) := by
  unfold State.frameFails
  split <;> simp

theorem State.frameComplete_keepsCycles (turn : Turn) (kind : Byte) (body : List Byte) :
    s.KeepsCycles (s.frameComplete turn kind body) := by
  unfold State.frameComplete
  dsimp only
  split
  · exact (State.dispatch_keepsCycles _ _ _ body).after (by simp)
  · exact .same (by simp)

theorem State.takeByte_keepsCycles (b : Byte) : s.KeepsCycles (s.takeByte b) := by
  unfold State.takeByte
  split
  · exact .same (by simp [State.beginFrame])
  · unfold State.takeLength
    split
    · exact s.frameComplete_keepsCycles _ _ _
    split <;> exact .same (by simp)
  · unfold State.takeBodyByte
    split
    · exact s.frameComplete_keepsCycles _ _ _
    · exact .same (by simp)
  · exact .same (by simp)

/-- Bytes taken one after another (R172). -/
theorem State.foldl_takeByte_keepsCycles (bytes : List Byte) (s : State) :
    s.KeepsCycles (bytes.foldl State.takeByte s) := by
  induction bytes generalizing s with
  | nil => exact .refl s
  | cons b bytes ih => exact (s.takeByte_keepsCycles b).trans (ih _)

theorem State.hostCommand_keepsCycles (kind : Byte) (body : List Byte) :
    s.KeepsCycles (s.hostCommand kind body (commandOwner kind body)) := by
  unfold State.hostCommand
  split
  · exact s.dispatch_keepsCycles kind _ body
  · exact State.foldl_takeByte_keepsCycles _ s

theorem inboundByte_keepsCycles (b : Byte) (stop : Level) : s.KeepsCycles (inboundByte b stop s) := by
  cases stop
  · exact .refl s
  · exact s.takeByte_keepsCycles b

theorem interByteTimeout_sameCycles : s.SameCycles (interByteTimeout s) := by
  unfold interByteTimeout State.abandonFrame
  split <;> simp

theorem discardQuietTimeout_sameCycles : s.SameCycles (discardQuietTimeout s) := by
  unfold discardQuietTimeout
  split <;> simp

theorem outboundFrameEnd_sameCycles : s.SameCycles (outboundFrameEnd s) := by
  unfold outboundFrameEnd
  dsimp only
  repeat' split
  all_goals simp

end Frames

/-! ## Every row and every step -/

/-- Every row completes, and keeps the cycles under power. -/
theorem exec_keepsCycles (s : State) (i : Instr) : ∃ t, exec i s = .next t ∧ s.KeepsCycles t := by
  cases hframe : commandFrame i with
  | some f => exact ⟨_, exec_of_commandFrame hframe s, s.hostCommand_keepsCycles f.1 f.2⟩
  | none =>
    cases i with
    | powerOn | resetPin => exact ⟨_, rfl, fun _ => State.powerOnValues_cyclesSound ..⟩
    | outboundFrameStart => exact ⟨_, rfl, .same (by simp [outboundFrameStart])⟩
    | holdOffAssert => exact ⟨_, rfl, .same (by simp [holdOffAssert])⟩
    | holdOffDeassert => exact ⟨_, rfl, .same (by simp [holdOffDeassert])⟩
    | loadEnd => exact ⟨_, rfl, loadEnd_keepsCycles s _⟩
    | inboundByte => exact ⟨_, rfl, inboundByte_keepsCycles s _ _⟩
    | interByteTimeout => exact ⟨_, rfl, .same (interByteTimeout_sameCycles s)⟩
    | discardQuietTimeout => exact ⟨_, rfl, .same (discardQuietTimeout_sameCycles s)⟩
    | outboundFrameEnd => exact ⟨_, rfl, .same (outboundFrameEnd_sameCycles s)⟩
    | storeByte0Read => exact ⟨_, rfl, .same (storeByte0Read_sameCycles s _)⟩
    | storeOperationEnd => exact ⟨_, rfl, .same (storeOperationEnd_sameCycles s _ _)⟩
    | storeWritePollTimeout => exact ⟨_, rfl, .same (storeWritePollTimeout_sameCycles s)⟩
    | rxFilteredChange => exact ⟨_, rfl, rxFilteredChange_keepsCycles s _ _⟩
    | startSample => exact ⟨_, rfl, startSample_keepsCycles s⟩
    | unitSample => exact ⟨_, rfl, unitSample_keepsCycles s⟩
    | stopSample => exact ⟨_, rfl, stopSample_keepsCycles s⟩
    | breakThreshold => exact ⟨_, rfl, breakThreshold_keepsCycles s⟩
    | clearThreshold => exact ⟨_, rfl, clearThreshold_keepsCycles s⟩
    | turnaroundGuardExpiry => exact ⟨_, rfl, turnaroundGuardExpiry_keepsCycles s⟩
    | characterSent => exact ⟨_, rfl, characterSent_keepsCycles s⟩
    | breakKeyingEnd => exact ⟨_, rfl, breakKeyingEnd_keepsCycles s⟩
    | callRecognition => exact ⟨_, rfl, callRecognition_keepsCycles s⟩
    | withdrawal => exact ⟨_, rfl, withdrawal_keepsCycles s⟩
    | offerTimeout => exact ⟨_, rfl, offerTimeout_keepsCycles s⟩
    | confirmation => exact ⟨_, rfl, confirmation_keepsCycles s⟩
    | confirmTimeout => exact ⟨_, rfl, confirmTimeout_keepsCycles s⟩
    | idleTimeout => exact ⟨_, rfl, idleTimeout_keepsCycles s⟩
    | enquiryDelayExpiry => exact ⟨_, rfl, enquiryDelayExpiry_keepsCycles s⟩
    | captureWindowExpiry => exact ⟨_, rfl, captureWindowExpiry_keepsCycles s⟩
    | clearingEnd => exact ⟨_, rfl, clearingEnd_keepsCycles s⟩
    | clearingTimeout => exact ⟨_, rfl, clearingTimeout_keepsCycles s⟩
    | releasingEnd => exact ⟨_, rfl, releasingEnd_keepsCycles s⟩
    | runUpExpiry => exact ⟨_, rfl, runUpExpiry_keepsCycles s⟩
    | runOnExpiry => exact ⟨_, rfl, runOnExpiry_keepsCycles s⟩
    | selectEnd => exact ⟨_, rfl, selectEnd_keepsCycles s⟩
    | strikeEnd => exact ⟨_, rfl, strikeEnd_keepsCycles s⟩
    | punchPulseEnd => exact ⟨_, rfl, punchPulseEnd_keepsCycles s⟩
    | feedPulseEnd => exact ⟨_, rfl, feedPulseEnd_keepsCycles s⟩
    | settleFixedEnd => exact ⟨_, rfl, settleFixedEnd_keepsCycles s _⟩
    | settleSampledReading => exact ⟨_, rfl, settleSampledReading_keepsCycles s _ _⟩
    | settleAddEnd => exact ⟨_, rfl, settleAddEnd_keepsCycles s _⟩
    | extendedReading => exact ⟨_, rfl, extendedReading_keepsCycles s _ _⟩
    | bellTimerExpiry => exact ⟨_, rfl, bellTimerExpiry_keepsCycles s⟩
    | holdWaitExpiry => exact ⟨_, rfl, holdWaitExpiry_keepsCycles s⟩
    | paperOutChange => exact ⟨_, rfl, paperOutChange_keepsCycles s _ _⟩
    | paperRestoreExpiry => exact ⟨_, rfl, paperRestoreExpiry_keepsCycles s⟩
    | paperLowChange => exact ⟨_, rfl, paperLowChange_keepsCycles s _ _⟩
    | inputFilterStart => exact ⟨_, rfl, inputFilterStart_keepsCycles s _ _⟩
    | tapeOutChange => exact ⟨_, rfl, tapeOutChange_keepsCycles s _ _⟩
    | tapeRestoreExpiry => exact ⟨_, rfl, tapeRestoreExpiry_keepsCycles s⟩
    | tapeLowChange => exact ⟨_, rfl, tapeLowChange_keepsCycles s _ _⟩
    | releaseTimerExpiry => exact ⟨_, rfl, releaseTimerExpiry_keepsCycles s⟩
    | confirmedPress => exact ⟨_, rfl, confirmedPress_keepsCycles s _⟩
    | confirmedRelease => exact ⟨_, rfl, confirmedRelease_keepsCycles s _⟩
    | replayCopy => exact ⟨_, rfl, replayCopy_keepsCycles s⟩
    | unknownCommandKind | getStatus | startService | stopService | setOption | getOption | setRoute |
      getRoute | rearmRoute | submitText | clearSpool | acceptCall | declineCall | placeCall | clearCall |
      sendAnswerback | sendEnquiry | sendBreak | resumeSend | getCall | getLineQuality | listMessages |
      getMessage | fetchMessage | deleteMessage | replayMessage | cancelReplay | printerHold |
      printerRelease | printerReset | punchOn | punchOff | punchFeed | punchRelease | punchReset |
      setKeyboardMode | storeRead | storeWrite | reload | restart => cases hframe

/-- Settles O8: each row leaves the cycles or changes them as the mechanisms may, and the choices that follow start a cycle
only with its member placed, under the RUNNING motor and without a fault. -/
theorem everyStepKeepsCyclesUnderPower : Obligations.EveryStepKeepsCyclesUnderPower := by
  intro s t hsound hstep
  unfold step at hstep
  split at hstep
  · next c rest _ =>
    obtain ⟨u, hexec, hkeeps⟩ := exec_keepsCycles { s with pending := rest } c
    rw [hexec] at hstep
    cases hstep
    exact hkeeps (hsound.of_same (by simp))
  · cases hstep
    exact hsound.of_same (by simp)

end Sys2Proof.Machine
end

section
/-! Power-on, the RESET pin (R184) and the store commands (R190): a taken frame is what its owner does, and the end of the
store operation makes the reply. -/

namespace Sys2Proof.Machine

/-- R2: at power-on every block is free. -/
theorem Store.reset_freeCount : Store.reset.freeCount = 384 := by simp [Store.freeCount, Store.reset, Config.blocks]

/-- R184: the values that power-on and the RESET pin give every block, whatever the clock and the queue. -/
theorem State.powerOnValues_atPowerOn (occasion : LoadOccasion) (straps : BitVec 2) (holdOff : Bool)
    (now freeIndex : Nat) (pending : List Instr) :
    (State.powerOnValues occasion straps holdOff now freeIndex pending).AtPowerOn occasion straps where
  free := ⟨Store.reset_freeCount, rfl⟩
  spools n := by cases n <;> rfl
  routes := rfl
  receiver := ⟨rfl, rfl, rfl, rfl, rfl⟩
  sender := ⟨rfl, rfl, rfl, rfl, rfl⟩
  call := ⟨rfl, rfl, rfl, rfl, rfl⟩
  record := ⟨rfl, rfl, rfl, rfl, rfl, rfl, rfl, rfl, rfl⟩
  file := ⟨rfl, rfl, rfl, rfl⟩
  printer := ⟨rfl, rfl, rfl, rfl, rfl, rfl, rfl, rfl⟩
  arbiter := ⟨rfl, rfl, rfl, fun n => by cases n <;> rfl, rfl, rfl, rfl⟩
  paper := ⟨rfl, ⟨rfl, rfl⟩, rfl, rfl⟩
  punch := ⟨rfl, rfl, rfl, rfl, rfl, rfl, rfl⟩
  releases := ⟨rfl, rfl, rfl, rfl, rfl, rfl, rfl⟩
  tape := ⟨rfl, ⟨rfl, rfl⟩, rfl, rfl⟩
  keyboard := ⟨rfl, rfl, rfl, rfl, rfl, rfl⟩
  motor := ⟨rfl, rfl, rfl, rfl, rfl, rfl⟩
  link := ⟨rfl, rfl, rfl, rfl, rfl, rfl, rfl⟩
  loader := ⟨rfl, rfl, rfl⟩

/-- Settles O2: both rows give the power-on values, and carry over the inputs, the clock and the queue alone. -/
theorem powerOnAndResetPinGivePowerOnValues : Obligations.PowerOnAndResetPinGivePowerOnValues :=
  ⟨fun _ _ => ⟨⟨_, rfl, State.powerOnValues_atPowerOn .., rfl, rfl, rfl, rfl⟩,
    _, rfl, State.powerOnValues_atPowerOn .., rfl, rfl, rfl, rfl⟩, State.powerOnValues_atPowerOn .., rfl⟩

/-! ## The store commands -/

section Frames
variable {s : State} (h : s.TakesCommands)
include h

/-- A STORE READ frame in turn reaches the loader (R173, R190). -/
theorem exec_storeRead (offset count : Byte) :
    exec (.storeRead offset count) s = .next (storeRead offset count (s.withReply (.awaited none))) :=
  congrArg Host.Outcome.next (State.hostCommand_taken h _ rfl rfl (by simp))

/-- A STORE WRITE frame of 1 to 16 bytes in turn reaches the loader (R173, R190). -/
theorem exec_storeWrite (offset : Byte) {bytes : List Byte} (hsome : 1 ≤ bytes.length) (hfew : bytes.length ≤ 16) :
    exec (.storeWrite offset bytes) s = .next (storeWrite offset bytes (s.withReply (.awaited none))) := by
  have hlength : lengthAllowed 0x25 (offset :: bytes).length = true := by
    simp [lengthAllowed, bodyLengths]; omega
  exact congrArg Host.Outcome.next (State.hostCommand_taken h _ rfl hlength (by simp; omega))

end Frames

section Owner
variable {s : State} {offset count : Byte} {bytes : List Byte}

theorem storeRead_of_bad (hbad : count.toNat = 0 ∨ 40 < count.toNat ∨ 256 < offset.toNat + count.toNat) :
    storeRead offset count s = s.refuse 0x24 .badValue := if_pos hbad

/-- R190: bytes within the store are read, where there is one. -/
theorem storeRead_of_good (hsome : 1 ≤ count.toNat) (hfew : count.toNat ≤ 40)
    (hend : offset.toNat + count.toNat ≤ 256) :
    storeRead offset count s =
      if s.isl.presence = .absent then s.refuse 0x24 .absent else s.beginStore (.read offset count) :=
  if_neg (by omega)

/-- R190: a write that leaves its page is refused. -/
theorem storeWrite_of_across (h : 16 < offset.toNat % 16 + bytes.length) :
    storeWrite offset bytes s = s.refuse 0x25 .badValue := if_pos (by simpa [inPage] using h)

/-- R190: a write within its page goes out, where there is a store. -/
theorem storeWrite_of_inPage (h : offset.toNat % 16 + bytes.length ≤ 16) :
    storeWrite offset bytes s =
      if s.isl.presence = .absent then s.refuse 0x25 .absent else s.beginStore (.write offset bytes) :=
  if_neg (by simpa [inPage] using h)

/-- R190: a read ends with its bytes, or as a failure. -/
theorem storeOperationEnd_of_read (h : s.isl.storeOp = some (.read offset count)) (acknowledged : Bool)
    (got : List Byte) : storeOperationEnd acknowledged got s =
      if acknowledged ∧ got.length = count.toNat then s.endStore.accept 0x24 (.storeRead offset got)
      else s.endStore.refuse 0x24 .storeFailed := by
  rw [storeOperationEnd, h]

/-- R190: a write ends with its count, or as a failure. -/
theorem storeOperationEnd_of_write (h : s.isl.storeOp = some (.write offset bytes)) (acknowledged : Bool)
    (got : List Byte) : storeOperationEnd acknowledged got s =
      if acknowledged then s.endStore.accept 0x25 (.storeWritten offset bytes.length)
      else s.endStore.refuse 0x25 .storeFailed := by
  rw [storeOperationEnd, h]

/-- R190: only a write is polled. -/
theorem storeWritePollTimeout_of_write (h : s.isl.storeOp = some (.write offset bytes)) :
    storeWritePollTimeout s = s.endStore.refuse 0x25 .storeFailed := by
  rw [storeWritePollTimeout, h]

theorem State.pageWrite_of_write (h : s.isl.storeOp = some (.write offset bytes)) :
    s.pageWrite = some (offset, bytes) := by
  rw [State.pageWrite, h]

end Owner

/-- Settles O33: a frame reaches the loader, which refuses it or starts the operation; the operation's end makes the
reply. -/
theorem storeCommandsComplete : Obligations.StoreCommandsComplete := by
  refine fun s => ⟨fun h => ⟨fun offset count => ?read, fun offset bytes hsome hfew => ?write⟩,
    fun offset count hop => ⟨fun bytes hlength => ?_, fun bytes => ?_⟩,
    fun offset sent hop => ⟨fun bytes => ⟨?_, ?_⟩, State.pageWrite_of_write hop, ?_⟩⟩
  case read =>
    rw [exec_storeRead h]
    refine ⟨fun hbad => ?_, fun hsome hfew hend => ?_⟩
    · rw [storeRead_of_bad hbad, State.withReply_refuse]
    · rw [storeRead_of_good hsome hfew hend]
      exact ⟨fun habsent => congrArg _ (if_pos habsent), fun hthere => congrArg _ (if_neg hthere)⟩
  case write =>
    rw [exec_storeWrite h offset hsome hfew]
    refine ⟨fun hacross => ?_, fun hpage => ?_⟩
    · rw [storeWrite_of_across hacross, State.withReply_refuse]
    · rw [storeWrite_of_inPage hpage]
      exact ⟨fun habsent => congrArg _ (if_pos habsent), fun hthere => congrArg _ (if_neg hthere)⟩
  · exact congrArg _ ((storeOperationEnd_of_read hop true bytes).trans (if_pos ⟨rfl, hlength⟩))
  · exact congrArg _ ((storeOperationEnd_of_read hop false bytes).trans (if_neg nofun))
  · exact congrArg _ (storeOperationEnd_of_write hop true bytes)
  · exact congrArg _ (storeOperationEnd_of_write hop false bytes)
  · exact congrArg _ (storeWritePollTimeout_of_write hop)

end Sys2Proof.Machine
end

section
/-! SET OPTION and GET OPTION (R189): the value an option takes, by its kind, and what its owner answers. -/

namespace Sys2Proof.Machine

/-! ## The value taken -/

/-- R189, steps 1 and 2: the value that an option of a kind takes. -/
theorem OptionKind.take_eq_some_iff {kind : OptionKind} {v taken : Nat} : kind.take v = some taken ↔
    (∃ lo hi, kind = .numeric lo hi ∧ taken = max lo (min hi v)) ∨
      (∃ k, kind = .codes k ∧ v < k ∧ taken = v) ∨ (kind = .cellByte ∧ v < 64 ∧ taken = v) := by
  cases kind <;> simp [OptionKind.take, clampTo, eq_comm]

/-- R189: a code above those of the option is no value of it. -/
theorem OptionKind.take_of_code_above {k v : Nat} (h : k ≤ v) : (OptionKind.codes k).take v = none :=
  if_neg (by omega)

/-- R189: a cell byte with a mark is no value. -/
theorem OptionKind.take_of_marked {v : Nat} (h : 64 ≤ v) : OptionKind.cellByte.take v = none := if_neg (by omega)

theorem State.optionConflict_iff {s : State} {n : OptionName} {v : Nat} : s.optionConflict n v = true ↔
    n.inOrdering = true ∧ optionsOrdered (optionSet s.isl.options n v) = false := by
  simp [State.optionConflict]

/-! ## The frames and their owner -/

section Owner
variable {s : State} {offset : Byte} {value : Word16}

/-- R189: a byte at which no option begins is refused by both commands. -/
theorem setOption_of_no_option (h : OptionName.ofOffset offset.toNat = none) :
    setOption offset value s = s.refuse 0x04 .badValue := by rw [setOption, h]

theorem getOption_of_no_option (h : OptionName.ofOffset offset.toNat = none) :
    getOption offset s = s.refuse 0x05 .badValue := by rw [getOption, h]

variable {n : OptionName} (hn : OptionName.ofOffset offset.toNat = some n)
include hn

theorem getOption_of_option :
    getOption offset s = s.accept 0x05 (.optionValue offset (s.opt n) (s.optionInEffect n)) := by
  rw [getOption, hn]

theorem setOption_of_bad (h : n.spec.kind.take value.toNat = none) :
    setOption offset value s = s.refuse 0x04 .badValue := by
  rw [setOption, hn]
  dsimp only
  rw [h]

/-- R189, steps 3 and 4: a value taken is written unless it would break the ordering. -/
theorem setOption_of_taken {v : Nat} (h : n.spec.kind.take value.toNat = some v) :
    setOption offset value s = if s.optionConflict n v then s.refuse 0x04 .conflict
      else (s.writeOption n v).accept 0x04 (.optionTaken offset v) := by
  rw [setOption, hn]
  dsimp only
  rw [h]

end Owner

section Frames
variable {s : State} (h : s.TakesCommands)
include h

/-- A SET OPTION frame in turn reaches the loader (R173, R189). -/
theorem exec_setOption (offset : Byte) (value : Word16) :
    exec (.setOption offset value) s = .next (setOption offset value s) := by
  have hreply : setOption offset value (s.withReply (.awaited none)) = setOption offset value s := rfl
  exact congrArg Host.Outcome.next ((State.hostCommand_taken h _ rfl rfl (by simp [wordBytes])).trans hreply)

/-- A GET OPTION frame in turn reaches the loader (R173, R189). -/
theorem exec_getOption (offset : Byte) : exec (.getOption offset) s = .next (getOption offset s) := by
  have hreply : getOption offset (s.withReply (.awaited none)) = getOption offset s := rfl
  exact congrArg Host.Outcome.next ((State.hostCommand_taken h _ rfl rfl (by simp)).trans hreply)

end Frames

/-- Settles O27: the frames reach the loader, which reads the offset and the kind of its option. -/
theorem optionCommandsComplete : Obligations.OptionCommandsComplete := by
  intro offset value s h
  rw [exec_setOption h, exec_getOption h]
  refine ⟨fun hnone => ?_, fun n hn => ⟨?_, fun v hv => ?_, fun k hk habove => ?_, fun hcell habove => ?_⟩⟩
  · rw [setOption_of_no_option hnone, getOption_of_no_option hnone]
    exact ⟨rfl, rfl⟩
  · rw [getOption_of_option hn]
  · rw [setOption_of_taken hn (OptionKind.take_eq_some_iff.mpr hv)]
    refine ⟨fun hordered => ?_, fun hin hbroken => ?_⟩
    · have hfree : ¬ s.optionConflict n v = true := fun hc => by
        obtain ⟨hin, hbroken⟩ := State.optionConflict_iff.mp hc
        simp [hordered hin] at hbroken
      rw [if_neg hfree]
      rfl
    · rw [if_pos (State.optionConflict_iff.mpr ⟨hin, hbroken⟩)]
  · rw [setOption_of_bad hn (by rw [hk]; exact OptionKind.take_of_code_above habove)]
  · rw [setOption_of_bad hn (by rw [hcell]; exact OptionKind.take_of_marked habove)]

end Sys2Proof.Machine
end

section
/-! RELOAD and RESTART (R191, R192): a load begins, and RESTART gives every block its RESTART values. The notices of RESTART
join an empty queue, so that none is lost and none takes another's place. -/

namespace Sys2Proof.Machine

/-! ## Notices that find room -/

/-- R178, R179: with room, no notice of its coalescable kind and no lost one, a notice joins the end of the queue. -/
theorem Link.queueNotice_of_room {l : Link} {b : NoticeBody} (hmark : l.lostMark = false)
    (hroom : l.notices.length < 16) (hnew : ∀ n ∈ l.notices, b.coalesces n.body = false) :
    l.queueNotice b = { l with notices := l.notices ++ [{ body := b, lost := false }] } := by
  have hany : ¬ (l.notices.any fun n => b.coalesces n.body) = true := by
    simpa [List.any_eq_true] using hnew
  rw [Link.queueNotice, if_neg hany]
  refine (if_pos hroom).trans ?_
  rw [hmark, ← hmark]

/-- R178: beside a notice of no coalescable kind every notice is new. -/
theorem NoticeBody.coalesces_of_plain (a : NoticeBody) {b : NoticeBody} (h : b.coalesce = none) :
    a.coalesces b = false := by
  rw [NoticeBody.coalesces, h]
  cases a.coalesce <;> rfl

section Entries
variable {s : State} (hmark : s.link.lostMark = false) (hroom : s.link.notices.length < 16)
include hmark hroom

/-- R125, R178: what entry to NO PAPER adds to a queue with room. -/
theorem State.noticeNoPaper_spec (before : PrinterState)
    (hnew : ∀ n ∈ s.link.notices, ∀ r, (NoticeBody.printerState r).coalesces n.body = false) :
    ∃ (paper : List Notice) (f : Nat),
      s.noticeNoPaper before =
        { s with link := { s.link with notices := s.link.notices ++ paper }, freeIndex := f } ∧
      ((before = .noPaper ∨ s.printer.status ≠ .noPaper ∨ s.printer.paperOut.level = none) → paper = []) ∧
      (before ≠ .noPaper → s.printer.status = .noPaper → s.printer.paperOut.level ≠ none →
        paper = [{ body := .printerState (s.printerReport .paperOut), lost := false }]) := by
  by_cases hentry : before ≠ .noPaper ∧ s.printer.status = .noPaper ∧ s.printer.paperOut.level ≠ none
  · obtain ⟨hbefore, hstatus, hlevel⟩ := hentry
    refine ⟨_, s.freeIndex + 2, ?_, fun hno => ?_, fun _ _ _ => rfl⟩
    · rw [State.noticeNoPaper_of_entry hbefore hstatus hlevel, State.printerNotice, State.notice,
        Link.queueNotice_of_room hmark hroom fun n hn => hnew n hn _]
    · simp [hbefore, hstatus, hlevel] at hno
  · have hno : before = .noPaper ∨ s.printer.status ≠ .noPaper ∨ s.printer.paperOut.level = none := by tauto
    refine ⟨[], s.freeIndex, ?_, fun _ => rfl, fun hbefore hstatus hlevel => absurd ⟨hbefore, hstatus, hlevel⟩ hentry⟩
    rw [State.noticeNoPaper_of_no_entry hno, List.append_nil]

/-- R142, R178: what entry to TAPE OUT adds to a queue with room. -/
theorem State.noticeTapeOut_spec (before : PunchState)
    (hnew : ∀ n ∈ s.link.notices, ∀ r, (NoticeBody.punchState r).coalesces n.body = false) :
    ∃ (tape : List Notice) (f : Nat),
      s.noticeTapeOut before =
        { s with link := { s.link with notices := s.link.notices ++ tape }, freeIndex := f } ∧
      ((before = .tapeOut ∨ s.punch.status ≠ .tapeOut ∨ s.punch.tapeOut.level = none) → tape = []) ∧
      (before ≠ .tapeOut → s.punch.status = .tapeOut → s.punch.tapeOut.level ≠ none →
        tape = [{ body := .punchState (s.punchReport .tapeOut), lost := false }]) := by
  by_cases hentry : before ≠ .tapeOut ∧ s.punch.status = .tapeOut ∧ s.punch.tapeOut.level ≠ none
  · obtain ⟨hbefore, hstatus, hlevel⟩ := hentry
    refine ⟨_, s.freeIndex + 2, ?_, fun hno => ?_, fun _ _ _ => rfl⟩
    · rw [State.noticeTapeOut_of_entry hbefore hstatus hlevel, State.punchNotice, State.notice,
        Link.queueNotice_of_room hmark hroom fun n hn => hnew n hn _]
    · simp [hbefore, hstatus, hlevel] at hno
  · have hno : before = .tapeOut ∨ s.punch.status ≠ .tapeOut ∨ s.punch.tapeOut.level = none := by tauto
    refine ⟨[], s.freeIndex, ?_, fun _ => rfl, fun hbefore hstatus hlevel => absurd ⟨hbefore, hstatus, hlevel⟩ hentry⟩
    rw [State.noticeTapeOut_of_no_entry hno, List.append_nil]

end Entries

/-! ## The blocks at RESTART -/

/-- R18: the blocks of the five spools go to the front of the free list, oldest first, spool by spool (log 39). -/
theorem Store.restart_eq (st : Store) : st.restart =
    { free := st.send.chain.reverse ++ (st.punch.chain.reverse ++ (st.pSubmit.chain.reverse ++
        (st.pLocal.chain.reverse ++ (st.pLine.chain.reverse ++ st.free)))),
      pLine := Spool.empty, pLocal := Spool.empty, pSubmit := Spool.empty, punch := Spool.empty,
      send := Spool.empty, episode := .closed } := by
  simp only [Store.restart, Store.emptySpool_eq]
  rfl

/-- R106, R109: the record of a replay returns to FILED, and there is no replay. -/
theorem File.endReplay_eq (f : File) : f.endReplay = { f with
    replay := none
    records := f.records.map fun m =>
      if f.replay.any (fun r => m.number = r.number) then { m with state := .filed } else m } := by
  obtain ⟨records, last, part, replay⟩ := f
  cases replay <;> simp [File.endReplay]

/-- R91: the call at RESTART, as one next state. -/
theorem State.restartCall_eq (s : State) : s.restartCall = { s with call := { s.call.stopTimers with
    state := .outOfService, enteredAt := s.now, stopPending := false, clearCause := none
    record := if s.call.record.state = .ended then s.call.record
      else { s.call.record with
        state := .ended, outcome := some .restart
        elapsed := min 65535 ((s.now - s.call.record.openedAt) / 100000) } } } := by
  unfold State.restartCall
  by_cases h : s.call.record.state = .ended
  · simp only [if_pos h]
    rfl
  · simp only [if_neg h, State.endRecord, CallRecord.seconds]
    rfl

/-- R91: the call at RESTART is made of the call and the clock. -/
theorem State.restartCall_of_same {s t : State} (hcall : t.call = s.call) (hnow : t.now = s.now) :
    t.restartCall = { t with call := s.restartCall.call } := by
  rw [t.restartCall_eq, s.restartCall_eq, hcall, hnow]

/-- R100, R109: the RECEIVING record is closed into an empty queue, and a replay ends. -/
theorem State.restartFile_eq {s : State} {filed : List Message} {closed : List Notice}
    (hmark : s.link.lostMark = false) (hqueue : s.link.notices = [])
    (hnone : s.file.receiving = none → filed = s.file.records ∧ closed = [])
    (hsome : ∀ m c, s.file.receiving = some m → c = m.close false s.call.record.caller s.now →
      filed = s.file.records.map (fun r => if r.number = m.number then c else r) ∧
      closed = [{ body := .messageFiled (c.summary s.now) .restart, lost := false }]) :
    s.restartFile = { s with
      link := { s.link with notices := closed }
      file := { s.file with
        lastPart := 0, replay := none
        records := filed.map fun m =>
          if s.file.replay.any (fun r => m.number = r.number) then { m with state := .filed } else m } } := by
  unfold State.restartFile State.endFiling
  cases hr : s.file.receiving with
  | none =>
    obtain ⟨rfl, rfl⟩ := hnone hr
    simp only [File.endReplay_eq, ← hqueue]
  | some m =>
    obtain ⟨rfl, rfl⟩ := hsome m _ hr rfl
    have hroom : s.link.notices.length < 16 := by simp [hqueue]
    simp only [State.closeMessage, State.notice, File.endReplay_eq]
    rw [Link.queueNotice_of_room hmark hroom (by simp [hqueue]), hqueue]
    rfl

/-! ## The mechanisms at RESTART -/

/-- The printer at RESTART: the code of an abandoned cycle takes its effects, and the settings and the arbiter their RESTART
values (R120, R121, R132). -/
def Printer.restarted (p : Printer) (lineWidth : Nat) : Printer :=
  match p.cycle with
  | none => p.restartSteps
  | some c => { p.restartSteps with
      column := p.columnAfter c.reading
      width := if c.reading = .carriageReturn then lineWidth else p.width
      mechCase := p.mechCaseAfter c.reading }

/-- The punch at RESTART (R147). -/
def Punch.restarted (p : Punch) : Punch := { p.resetSteps with cycle := none }

/-- R132: what RESTART leaves of a printer is its column, its width, its mechanism case, and its inputs. -/
theorem Printer.restarted_eq (p : Printer) (w : Nat) : p.restarted w = { p.restartSteps with
    column := (p.restarted w).column, width := (p.restarted w).width, mechCase := (p.restarted w).mechCase } := by
  unfold Printer.restarted
  split <;> rfl

/-- R110: a printer at RESTART has paper or is in NO PAPER. -/
theorem Printer.restarted_status_iff {p : Printer} {w : Nat} :
    (p.restarted w).status = .noPaper ↔ p.paper = false := by
  rw [Printer.restarted_eq]
  cases hp : p.paper <;> simp [Printer.restartSteps, Printer.status, hp]

@[simp] theorem Printer.restarted_paperOut (p : Printer) (w : Nat) : (p.restarted w).paperOut = p.paperOut := by
  rw [Printer.restarted_eq]
  rfl

@[simp] theorem Printer.restarted_paperLow (p : Printer) (w : Nat) : (p.restarted w).paperLow = p.paperLow := by
  rw [Printer.restarted_eq]
  rfl

@[simp] theorem Printer.restarted_hold (p : Printer) (w : Nat) : (p.restarted w).hold = false := by
  rw [Printer.restarted_eq]
  rfl

/-- R133: a punch at RESTART is in TAPE OUT when it is switched on without tape. -/
theorem Punch.restarted_status_iff {p : Punch} :
    p.restarted.status = .tapeOut ↔ p.switch = true ∧ p.tape = false := by
  cases hs : p.switch <;> cases ht : p.tape <;> simp [Punch.restarted, Punch.resetSteps, Punch.status, hs, ht]

theorem State.restartPrinter_eq (s : State) : s.restartPrinter =
    State.noticeNoPaper { s with printer := s.printer.restarted (s.opt .lineWidth) } s.printer.status := by
  unfold State.restartPrinter Printer.restarted
  cases s.printer.cycle <;> rfl

theorem State.restartPunch_eq (s : State) : s.restartPunch =
    State.noticeTapeOut { s with punch := s.punch.restarted } s.punch.status := rfl

/-- R166: the motor at RESTART. -/
theorem State.restartMotor_state (s : State) :
    (s.motor.state = .off → s.restartMotor.motor.state = .off) ∧
    (∀ due, s.motor.state = .runOn due → s.restartMotor.motor.state = .runOn due) ∧
    (s.motor.state = .running ∨ (∃ due, s.motor.state = .runUp due) →
      s.restartMotor.motor.state = .runOn (s.now + s.opt .runOnTime * 100000)) := by
  cases h : s.motor.state <;> simp [State.restartMotor, h, State.runOnTicks, Config.second]

/-- R132, R147, R166: the mechanisms at RESTART with their spools empty. From a queue with room for both and no notice of a
coalescable kind, PAPER OUT and TAPE OUT join it in this order (R125, R142, log 41). -/
theorem State.restartMechanisms_spec {s : State} (hmark : s.link.lostMark = false)
    (hroom : s.link.notices.length < 15) (hplain : ∀ n ∈ s.link.notices, n.body.coalesce = none)
    (hspools : ∀ n, s.store.spool n = Spool.empty) :
    ∃ (paper tape : List Notice) (f g h : Nat) (p : Printer) (q : Punch),
      p = s.printer.restarted (s.opt .lineWidth) ∧ q = s.punch.restarted ∧
      s.restartPrinter.restartPunch.restartMotor.restartKeyboard = { s with
        link := { s.link with notices := s.link.notices ++ paper ++ tape }
        printer := p, punch := q, motor := s.restartMotor.motor
        keyboard := { s.keyboard with kbdCase := .letters }, freeIndex := h } ∧
      ((s.printer.status = .noPaper ∨ p.status ≠ .noPaper ∨ p.paperOut.level = none) → paper = []) ∧
      (s.printer.status ≠ .noPaper → p.status = .noPaper → p.paperOut.level ≠ none →
        paper = [Notice.mk (.printerState (PrinterReport.mk .paperOut .noPaper p.column p.mechCase
          (p.paperOut.reported f) (p.paperLow.reported (f + 1)) false 0 0 0)) false]) ∧
      ((s.punch.status = .tapeOut ∨ q.status ≠ .tapeOut ∨ q.tapeOut.level = none) → tape = []) ∧
      (s.punch.status ≠ .tapeOut → q.status = .tapeOut → q.tapeOut.level ≠ none →
        tape = [Notice.mk (.punchState (PunchReport.mk .tapeOut .tapeOut none .unknown
          (q.tapeOut.reported g) (q.tapeLow.reported (g + 1)) 0)) false]) := by
  obtain ⟨p, hp⟩ : ∃ p, p = s.printer.restarted (s.opt .lineWidth) := ⟨_, rfl⟩
  obtain ⟨q, hq⟩ : ∃ q, q = s.punch.restarted := ⟨_, rfl⟩
  obtain ⟨paper, f, hprinter, hnoPaper, hpaper⟩ :=
    State.noticeNoPaper_spec (s := { s with printer := p }) hmark (Nat.lt_succ_of_lt hroom) s.printer.status
      fun n hn r => NoticeBody.coalesces_of_plain _ (hplain n hn)
  have hfew : paper.length ≤ 1 ∧ ∀ n ∈ paper, ∀ r, (NoticeBody.punchState r).coalesces n.body = false := by
    by_cases hentry : s.printer.status = .noPaper ∨ p.status ≠ .noPaper ∨ p.paperOut.level = none
    · simp [hnoPaper hentry]
    · simp only [not_or, ne_eq, not_not] at hentry
      obtain ⟨hbefore, hstatus, hlevel⟩ := hentry
      simp [hpaper hbefore hstatus hlevel, NoticeBody.coalesces, NoticeBody.coalesce]
  obtain ⟨tape, g, hpunch, hnoTape, htape⟩ :=
    State.noticeTapeOut_spec (s := { s with
        printer := p, punch := q, link := { s.link with notices := s.link.notices ++ paper }, freeIndex := f })
      hmark (by simp; omega) s.punch.status fun n hn r => by
        rcases List.mem_append.mp hn with hn | hn
        · exact NoticeBody.coalesces_of_plain _ (hplain n hn)
        · exact hfew.2 n hn r
  refine ⟨paper, tape, s.freeIndex, f, g, p, q, hp, hq, ?_, hnoPaper, fun hbefore hstatus hlevel => ?_, hnoTape,
    fun hbefore hstatus hlevel => ?_⟩
  · rw [State.restartPrinter_eq, ← hp, hprinter, State.restartPunch_eq, ← hq, hpunch]
    rfl
  · have hhold : p.hold = false := by simp [hp]
    rw [hpaper hbefore hstatus hlevel, State.printerReport]
    simp [State.printerState, hstatus, hhold, show s.store.pLine = Spool.empty from hspools .pLine,
      show s.store.pLocal = Spool.empty from hspools .pLocal, show s.store.pSubmit = Spool.empty from hspools .pSubmit,
      Spool.cellCount, Spool.empty]
  · have howner : q.owner = none := by rw [hq]; rfl
    have hcase : q.tapeCase = .unknown := by rw [hq]; rfl
    rw [htape hbefore hstatus hlevel, State.punchReport]
    simp [State.punchState, hstatus, howner, hcase, show s.store.punch = Spool.empty from hspools .punch,
      Spool.cellCount, Spool.empty]

/-! ## RESTART up to the mechanisms -/

/-- The state in which RESTART comes to the mechanisms, from the call and the records it leaves and the notice of the record
it closes: the reply, the queue, the loader, the keyboard's scan, the line, the file and the store (R192, steps 1 and 2). -/
def State.restartedLine (s : State) (filed : List Message) (closed : List Notice) : State :=
  { s with
    link := { s.link with
      pendingReply := .awaited (some (.accepted 0x27 .done)), notices := closed, lostMark := false }
    isl := { s.isl with loader := .loading { occasion := .restart, byte0Read := false,
                                             modeBefore := s.keyboard.mode } }
    keyboard := { s.keyboard with
      positions := Keyboard.allUp, thirdFrom := Keyboard.firstThirds, nextReading := 0, mode := .locked,
      scanStart := none }
    call := s.restartCall.call, ltx := Ltx.reset, lrx := { s.lrx with state := .disabled, guard := none }
    file := { s.file with
      lastPart := 0, replay := none
      records := filed.map fun m =>
        if s.file.replay.any (fun r => m.number = r.number) then { m with state := .filed } else m }
    store := s.store.restart }

section Line
variable {s : State} {filed : List Message} {closed : List Notice}
  (hnone : s.file.receiving = none → filed = s.file.records ∧ closed = [])
  (hsome : ∀ m c, s.file.receiving = some m → c = m.close false s.call.record.caller s.now →
    filed = s.file.records.map (fun r => if r.number = m.number then c else r) ∧
    closed = [{ body := .messageFiled (c.summary s.now) .restart, lost := false }])
include hnone hsome

/-- R178: the one notice that may stand in the queue before the mechanisms is of no coalescable kind. -/
theorem State.restart_closed_cases :
    closed = [] ∨ ∃ a, closed = [{ body := .messageFiled a .restart, lost := false }] := by
  cases hr : s.file.receiving with
  | none => exact .inl (hnone hr).2
  | some m => exact .inr ⟨_, (hsome m _ hr rfl).2⟩

/-- R192: RESTART, as the mechanisms' part after all the others. -/
theorem restart_eq :
    restart s = (s.restartedLine filed closed).restartPrinter.restartPunch.restartMotor.restartKeyboard := by
  have hcaller : s.restartCall.call.record.caller = s.call.record.caller := by
    rw [s.restartCall_eq]
    dsimp only
    split <;> rfl
  have hfile := State.restartFile_eq (s := State.disableReceiver (State.resetSender
    { (s.accept 0x27 .done).emptyNotices.startLoading .restart with call := s.restartCall.call }))
    (filed := filed) (closed := closed) (by simp) (by simp) (by simpa using hnone) (by simpa [hcaller] using hsome)
  unfold restart State.restartBlocks
  rw [State.restartCall_of_same (s := s) (by simp) (by simp), hfile]
  simp [State.restartedLine, State.startLoading, State.emptyNotices, State.accept, State.reply] <;> rfl

end Line

/-! ## The obligation -/

/-- R120, R121, R123: the effects that an abandoned cycle's code takes. -/
theorem Printer.restarted_effects (p : Printer) (w : Nat) :
    (p.cycle = none → (p.restarted w).column = p.column ∧ (p.restarted w).width = p.width ∧
      (p.restarted w).mechCase = p.mechCase) ∧
    (∀ y, p.cycle = some y →
      (p.restarted w).column = p.columnAfter y.reading ∧
      (p.restarted w).width = (if y.reading = .carriageReturn then w else p.width) ∧
      (p.restarted w).mechCase = p.mechCaseAfter y.reading) := by
  unfold Printer.restarted
  split
  · next hnone => exact ⟨fun _ => ⟨rfl, rfl, rfl⟩, fun y hy => by simp [hnone] at hy⟩
  · next c hc =>
    refine ⟨fun hnone => by simp [hc] at hnone, fun y hy => ?_⟩
    obtain rfl := Option.some.inj (hc.symm.trans hy)
    exact ⟨rfl, rfl, rfl⟩

section Frames
variable {s : State} (h : s.TakesCommands)
include h

/-- A RELOAD frame in turn reaches the loader (R173, R191). -/
theorem exec_reload : exec .reload s = .next (reload (s.withReply (.awaited none))) :=
  congrArg Host.Outcome.next (State.hostCommand_taken h _ rfl rfl (by simp))

/-- A RESTART frame in turn reaches the loader (R173, R192). -/
theorem exec_restart : exec .restart s = .next (restart s) :=
  congrArg Host.Outcome.next (State.taken_eq h rfl rfl rfl)

end Frames

/-- Settles O34: RELOAD begins a load; RESTART closes the file's record into an empty queue, empties the spools, and then
the mechanisms add their notices. -/
theorem reloadAndRestartBegin : Obligations.ReloadAndRestartBegin := by
  refine ⟨fun s h hout => ?reloaded, fun s filed closed h hnone hsome => ?restarted⟩
  case reloaded =>
    rw [exec_reload h, reload]
    exact congrArg Host.Outcome.next (if_pos hout)
  case restarted =>
    have hclosed := State.restart_closed_cases hnone hsome
    obtain ⟨paper, tape, f, g, k, p, q, hp, hq, heq, hnoPaper, hpaper, hnoTape, htape⟩ :=
      State.restartMechanisms_spec (s := s.restartedLine filed closed) rfl
        (by rcases hclosed with rfl | ⟨a, rfl⟩ <;> simp [State.restartedLine])
        (by rcases hclosed with rfl | ⟨a, rfl⟩ <;> simp [State.restartedLine, NoticeBody.coalesce])
        (fun n => by simp only [State.restartedLine, Store.restart_eq]; cases n <;> rfl)
    rw [exec_restart h, restart_eq hnone hsome, heq]
    have hlevel : p.paperOut = s.printer.paperOut ∧ p.paperLow = s.printer.paperLow := by simp [hp, State.restartedLine]
    have hinput : q.tapeOut = s.punch.tapeOut ∧ q.tapeLow = s.punch.tapeLow := by rw [hq]; exact ⟨rfl, rfl⟩
    have hpaperGone : p.status = .noPaper ↔ s.printer.paper = false := by rw [hp]; exact Printer.restarted_status_iff
    have htapeGone : q.status = .tapeOut ↔ s.punch.switch = true ∧ s.punch.tape = false := by
      rw [hq]; exact Punch.restarted_status_iff
    obtain ⟨hoff, hon, hrunning⟩ := (s.restartedLine filed closed).restartMotor_state
    refine ⟨_, paper, tape, rfl, rfl, fun hstill => ?_, fun out hbefore hgone hout => ?_, fun hstill => ?_,
      fun out hbefore hon hgone hout => ?_, rfl, ?_, rfl, rfl, rfl, ?_, ?_, fun hcycle => ?_, fun y hcycle => ?_, ?_, rfl,
      ?_, ?_, ?_, rfl, rfl, rfl, rfl, rfl⟩
    · refine hnoPaper (hstill.imp_right (Or.imp (fun hpaper => ?_) fun hnone => ?_))
      · simp [hpaperGone, hpaper]
      · rw [hlevel.1, hnone]
    · refine ⟨p.paperLow.reported (f + 1), fun l hl => ?_, ?_⟩
      · rw [hlevel.2, Filter.reported_of_level hl]
      · rw [hpaper hbefore (hpaperGone.mpr hgone) (by simp [hlevel.1, hout]), hlevel.1, Filter.reported_of_level hout]
    · refine hnoTape (hstill.imp_right ?_)
      rw [hinput.1, ne_eq, htapeGone]
      rintro (hoff | htape | hnone)
      · simp [hoff]
      · simp [htape]
      · exact .inr hnone
    · refine ⟨q.tapeLow.reported (g + 1), fun l hl => ?_, ?_⟩
      · rw [hinput.2, Filter.reported_of_level hl]
      · rw [htape hbefore (htapeGone.mpr ⟨hon, hgone⟩) (by simp [hinput.1, hout]), hinput.1,
          Filter.reported_of_level hout]
    · exact congrArg State.call s.restartCall_eq
    · exact s.store.restart_eq
    · rw [hp]
      exact Printer.restarted_eq s.printer _
    · rw [hp]
      exact (s.printer.restarted_effects _).1 hcycle
    · obtain ⟨hcolumn, hwidth, hcase⟩ := (s.printer.restarted_effects (s.opt .lineWidth)).2 y hcycle
      obtain rfl : p = s.printer.restarted (s.opt .lineWidth) := hp
      dsimp only [State.restartKeyboard]
      refine ⟨fun hcr => ⟨?_, ?_⟩, fun hcr => ?_, fun hmoves => ?_, fun hcr hprinting hspace => ?_, ?_⟩
      · rw [hcolumn, hcr]
        rfl
      · rw [hwidth, if_pos hcr]
      · rw [hwidth, if_neg hcr]
      · rw [hcolumn, Printer.columnAfter_of_advance hmoves]
      · rw [hcolumn, Printer.columnAfter_of_still hcr hprinting hspace]
      · rw [hcase, Printer.mechCaseAfter_eq]
    · rw [hq]
      rfl
    · exact hoff
    · exact hon
    · exact hrunning

end Sys2Proof.Machine
end

section
/-! The rows of a load (R184, R187): byte 0, and the end of a load as one next state. -/

namespace Sys2Proof.Machine

/-- R184: byte 0 gives the presence and the load kind. -/
theorem storeByte0Read_of_first {s : State} {l : Loading} (hl : s.isl.loader = .loading l) (hfirst : l.byte0Read = false)
    (byte : Option Byte) : storeByte0Read byte s = { s with isl := { s.isl with
      loader := .loading { l with byte0Read := true }, presence := (byte0Result byte).1
      loadKind := (byte0Result byte).2 } } := by
  rw [storeByte0Read, hl]
  exact if_neg (by simp [hfirst])

/-- R187: a load ends once byte 0 has been read. -/
theorem loadEnd_of_read {s : State} {l : Loading} (hl : s.isl.loader = .loading l) (hread : l.byte0Read = true)
    (image : List Byte) : loadEnd image s = s.endLoad l image := by
  rw [loadEnd, hl]
  exact if_pos hread

/-- R184, R192: what a load takes, by its occasion. -/
theorem State.loaded_eq (s : State) (l : Loading) (image : List Byte) : s.loaded l image =
    if l.occasion = .restart then loadOptionsSection s.isl.presence s.isl.loadKind image
    else loadImage s.isl.presence s.isl.loadKind image := by
  unfold State.loaded
  cases l.occasion <;> rfl

/-- R187, R192: the loader's items after a load; RESTART keeps function map, answerback and key map. -/
theorem Isl.take_eq (i : Isl) (o : LoadOccasion) (d : Loaded) : i.take o d = { i with
    presence := d.presence, loadKind := d.kind, defaulted := d.defaulted, options := d.options
    functionMap := if o = .restart then i.functionMap else d.functionMap
    answerback := if o = .restart then i.answerback else d.answerback
    keyMap := if o = .restart then i.keyMap else d.keyMap } := by
  unfold Isl.take
  cases o <;> rfl

/-- R160: the mode after a load is RAW without a key map. -/
theorem State.loadedMode_eq (s : State) : s.loadedMode =
    if s.isl.keyMap = none then .raw else keyboardModeOf (s.opt .keyboardMode) := by
  unfold State.loadedMode
  cases s.isl.keyMap <;> rfl

/-- R158: the effects of a mode set in place of another; the same mode again has none. -/
theorem State.modeEffects_eq (s : State) (b m : KeyboardMode) : s.modeEffects b m = { s with
    routes := if m = .loc ∧ b ≠ .loc then { s.routes with keyedLocal := s.routes.keyedLocal.rearm } else s.routes
    punch := { s.punch with
      localRelease := if m = .loc ∧ b ≠ .loc then false
        else if b = .loc ∧ m ≠ .loc ∧ s.punch.owner = some .loc then true else s.punch.localRelease
      feedHeld := s.punch.feedHeld && !(decide (b = .loc ∨ b = .line) && decide (m = .raw ∨ m = .locked)) } } := by
  have hchanged := congrArg (fun t : State => { t with keyboard := s.keyboard })
    (State.changeMode_eq { s with keyboard := { s.keyboard with mode := b } } m rfl)
  refine Eq.trans ?_ hchanged
  unfold State.changeMode State.modeEffects
  dsimp only
  repeat' split
  all_goals rfl

/-- R142: the routes have no part in a TAPE OUT notice. -/
theorem State.noticeTapeOut_withRoutes (s : State) (r : Routes) (b : PunchState) :
    State.noticeTapeOut { s with routes := r } b = { s.noticeTapeOut b with routes := r } := by
  unfold State.noticeTapeOut
  split
  · next h => exact (if_pos h).symm ▸ rfl
  · next h => exact (if_neg h).symm ▸ rfl

section EndLoad
variable {s : State} {l : Loading} {image : List Byte} {d : Loaded} {i : Isl} {m : KeyboardMode} {on : Bool} {v u : State}

/-- R187: the end of a load up to the reply or the entry to IDLE: what is taken, what is handed over, PUNCH STATE where the
switch brings the punch to TAPE OUT (log 10), and LOAD DONE. -/
theorem State.endLoad_eq (hd : d = s.loaded l image) (hi : i = { s.isl.take l.occasion d with loader := .ready })
    (hm : m = if i.keyMap = none then .raw else keyboardModeOf (optionGet d.options .keyboardMode))
    (hon : on = (optionGet d.options .punchEnabled == 1))
    (hv : v = State.noticeTapeOut { s with
      isl := { i with loader := s.isl.loader }
      timing := timingOf d.options
      routes := if m = .loc ∧ l.modeBefore ≠ .loc then
        { d.routes with keyedLocal := d.routes.keyedLocal.rearm } else d.routes
      printer := s.printer.takeWidth (optionGet d.options .lineWidth)
      punch := { s.punch with switch := on } } s.punch.status)
    (hu : u = { v with
      isl := i
      punch := { v.punch with
        feedHeld := s.punch.feedHeld && !s.punch.fault && (s.punch.cycle.isSome || (on && s.punch.tape)) &&
          !(decide (l.modeBefore = .loc ∨ l.modeBefore = .line) && decide (m = .raw ∨ m = .locked))
        localRelease :=
          if m = .loc ∧ l.modeBefore ≠ .loc then false
          else if l.modeBefore = .loc ∧ m ≠ .loc ∧ s.punch.owner = some .loc then true
          else s.punch.localRelease }
      keyboard := { s.keyboard with
        positions := Keyboard.allUp, thirdFrom := Keyboard.firstThirds, nextReading := 0,
        mode := m, scanStart := some s.now }
      link := v.link.queueNotice (.loadDone l.occasion d.kind d.presence d.defaulted) }) :
    s.endLoad l image = (u.afterLoad l.occasion).carryOn := by
  obtain ⟨x, hx⟩ : ∃ x, x = State.handOverValues { s with isl := s.isl.take l.occasion d } d := ⟨_, rfl⟩
  obtain ⟨y, hy⟩ : ∃ y, y = State.noticeTapeOut { x with punch := { x.punch with switch := on } } x.punch.status :=
    ⟨_, rfl⟩
  have hvalues : x = { s with
      isl := { i with loader := s.isl.loader }, timing := timingOf d.options, routes := d.routes
      printer := s.printer.takeWidth (optionGet d.options .lineWidth) } := by
    simp only [hx, hi, Isl.take_eq]
    rfl
  have hnoticed : v = { y with routes := if m = .loc ∧ l.modeBefore ≠ .loc then
      { d.routes with keyedLocal := d.routes.keyedLocal.rearm } else d.routes } := by
    have hroutes := State.noticeTapeOut_withRoutes { x with punch := { x.punch with switch := on } }
      (if m = .loc ∧ l.modeBefore ≠ .loc then { d.routes with keyedLocal := d.routes.keyedLocal.rearm } else d.routes)
      x.punch.status
    rw [← hy] at hroutes
    rw [hv, ← hroutes, hvalues]
  have hyisl : y.isl = { i with loader := s.isl.loader } := by simp [hy, hvalues]
  have hypunch : y.punch = { s.punch with switch := on } := by simp [hy, hvalues]
  have hothers : x.punch = s.punch ∧ y.routes = d.routes ∧ y.keyboard = s.keyboard ∧ y.now = s.now := by
    simp [hy, hvalues]
  have hreport : NoticeBody.loadDone l.occasion i.loadKind i.presence i.defaulted =
      .loadDone l.occasion d.kind d.presence d.defaulted := by simp [hi, Isl.take_eq]
  have hready : { i with loader := .ready } = i := by rw [hi]
  have hswitch : State.flag { s with isl := s.isl.take l.occasion d } .punchEnabled = on := by
    simp [State.flag, State.opt, Isl.take_eq, hon]
  have hset := State.setSwitch_eq x on hy
  unfold State.endLoad
  rw [← hd]
  dsimp only
  rw [hswitch, ← hx, hset]
  refine congrArg (fun t : State => (t.afterLoad l.occasion).carryOn) ?_
  have hmode : State.loadedMode { y with punch := { y.punch with feedHeld := x.punch.feedHeld &&
      !x.punch.fault && (x.punch.cycle.isSome || (on && x.punch.tape)) } } = m := by
    have hoptions : i.options = d.options := by simp [hi, Isl.take_eq]
    rw [State.loadedMode_eq, hm]
    simp [hyisl, State.opt, hoptions]
  unfold State.handOverKeyboard State.loadDone
  rw [hmode]
  simp only [State.modeEffects_eq, State.notice]
  rw [hu, hnoticed]
  simp [hyisl, hypunch, hothers, hreport, hready]

end EndLoad

end Sys2Proof.Machine
end

section
/-! What a load reads from the bytes of the store (R185, R186, section 10.7): each section as the values its bytes give, and
the sections together. -/

namespace Sys2Proof.Machine

/-! ## Bytes -/

/-- R184: a byte within what was acknowledged. -/
theorem storeByte_of_lt {image : List Byte} {offset : Nat} (h : offset - 1 < image.length) :
    storeByte image offset = some (image.getD (offset - 1) 0) := by
  simp [storeByte, List.getD_eq_getElem?_getD, h]

/-- R184: a byte beyond what was acknowledged. -/
theorem storeByte_of_ge {image : List Byte} {offset : Nat} (h : image.length ≤ offset - 1) :
    storeByte image offset = none := List.getElem?_eq_none h

/-- Section 10.7: two bytes, the most significant first. -/
theorem word16_toNat (hi lo : Byte) : (word16 hi lo).toNat = 256 * hi.toNat + lo.toNat := by
  rw [word16, BitVec.toNat_append, ← Nat.shiftLeft_add_eq_or_of_lt lo.isLt, Nat.shiftLeft_eq]
  omega

/-- A list of readings that all succeed. -/
theorem mapM_of_some {α β : Type} {f : α → Option β} {g : α → β} {l : List α} (h : ∀ a ∈ l, f a = some (g a)) :
    l.mapM f = some (l.map g) := by
  induction l with
  | nil => rfl
  | cons a l ih =>
    obtain ⟨ha, hl⟩ := List.forall_mem_cons.mp h
    simp [List.mapM_cons, ha, ih hl]

/-- The bytes of a stretch, counted from its first. -/
theorem map_range_getD (l : List Byte) (at0 : Nat) {n : Nat} (h : at0 + n ≤ l.length) :
    (List.range n).map (fun k => l.getD (at0 + k) 0) = (l.drop at0).take n := by
  refine List.ext_getElem (by simp; omega) fun k hk _ => ?_
  have hlt : at0 + k < l.length := by simp at hk; omega
  simp [List.getD_eq_getElem?_getD, hlt]

/-! ## Options -/

/-- R188: where the options stand in the store. -/
theorem OptionName.offset_bounds (n : OptionName) :
    1 ≤ n.spec.offset ∧ n.spec.offset ≤ 0x3E ∧ (n.spec.bytes = 2 → n.spec.offset < 0x3E) := by
  cases n <;> decide

/-- The set values listed in the order of the options are read back by their names. -/
theorem optionGet_map_all (f : OptionName → Nat) (n : OptionName) : optionGet (OptionName.all.map f) n = f n := by
  cases n <;> rfl

/-- R185: the raw value of an option, of one byte or of two. -/
theorem rawOption_eq {image : List Byte} (h : 0x3E ≤ image.length) (n : OptionName) :
    rawOption image n = some (if n.spec.bytes = 2
      then 256 * (image.getD (n.spec.offset - 1) 0).toNat + (image.getD n.spec.offset 0).toNat
      else (image.getD (n.spec.offset - 1) 0).toNat) := by
  obtain ⟨hfirst, hlast, htwo⟩ := n.offset_bounds
  unfold rawOption
  rw [storeByte_of_lt (by omega)]
  dsimp only
  split
  · next hbytes =>
    have hlt := htwo hbytes
    rw [storeByte_of_lt (by omega), Option.map_some, word16_toNat, Nat.add_sub_cancel]
  · rfl

section Options
variable {image : List Byte} {raw value : OptionName → Nat} (h : 0x3E ≤ image.length)
  (hraw : ∀ n, raw n = if n.spec.bytes = 2
    then 256 * (image.getD (n.spec.offset - 1) 0).toNat + (image.getD n.spec.offset 0).toNat
    else (image.getD (n.spec.offset - 1) 0).toNat)
  (hvalue : ∀ n, value n = if n.spec.kind.admits (raw n) then raw n else n.spec.default)
include h hraw hvalue

/-- R185: a value outside its option takes the default, and is counted. -/
theorem loadOption_eq (n : OptionName) :
    loadOption image n = some (value n, !n.spec.kind.admits (raw n)) := by
  rw [loadOption, rawOption_eq h, ← hraw, Option.map_some, hvalue]
  cases n.spec.kind.admits (raw n) <;> rfl

omit h hraw hvalue in
/-- R185: the ordering of the values listed in the order of the options. -/
theorem optionsOrdered_map_all : optionsOrdered (OptionName.all.map value) = true ↔
    6 * value .unitTime + value .stopLength * value .unitTime / 16 < value .breakRecognition * 1000 ∧
      value .breakRecognition < value .breakLength ∧ value .breakLength < value .clearRecognition := by
  simp [optionsOrdered, timingOrdered, optionGet_map_all, Config.tenMs, and_assoc]

omit h hraw hvalue in
/-- R185: what the ordering leaves of the values. -/
theorem enforceOrdering_map_all (g : OptionName → Nat × Bool) : enforceOrdering (OptionName.all.map g) =
    if optionsOrdered (OptionName.all.map fun n => (g n).1) then OptionName.all.map g
    else OptionName.all.map fun n => if n.inOrdering then (n.spec.default, true) else g n := by
  have hzip : OptionName.all.zip (OptionName.all.map g) = OptionName.all.map fun n => (n, g n) := by
    simpa using List.zip_map' (f := id) (g := g) (l := OptionName.all)
  simp only [enforceOrdering, hzip, List.map_map, Function.comp_def]

/-- R185: the options of a load whose values stand in the ordering. -/
theorem loadOptions_of_ordered (hordered : optionsOrdered (OptionName.all.map value) = true) :
    loadOptions image =
      some (OptionName.all.map value, OptionName.all.countP fun n => !n.spec.kind.admits (raw n)) := by
  rw [loadOptions, mapM_of_some fun n _ => loadOption_eq h hraw hvalue n, Option.map_some, enforceOrdering_map_all,
    if_pos hordered]
  dsimp only
  rw [List.map_map, List.countP_map]
  rfl

/-- R185: the options of a load whose values do not. -/
theorem loadOptions_of_unordered (hbroken : ¬ optionsOrdered (OptionName.all.map value) = true) :
    loadOptions image =
      some (OptionName.all.map fun n => if n.inOrdering then n.spec.default else value n,
        OptionName.all.countP fun n => n.inOrdering || !n.spec.kind.admits (raw n)) := by
  rw [loadOptions, mapM_of_some fun n _ => loadOption_eq h hraw hvalue n, Option.map_some, enforceOrdering_map_all,
    if_neg hbroken]
  dsimp only
  rw [List.map_map, List.countP_map]
  rfl

end Options

end Sys2Proof.Machine
end

section
/-! The routes, the function map, the answerback and the key map of a load (R185, R186, section 10.7), and the sections
together (R184, R192). -/

namespace Sys2Proof.Machine

/-! ## Routes -/

/-- R185: a route's record as its six bytes give it. -/
theorem loadRoute_eq {image : List Byte} {at0 : Nat} {b : Nat → Byte} (n : RouteName) (hat : 1 ≤ at0)
    (hlen : at0 + 5 ≤ image.length) (hb : ∀ k, b k = image.getD (at0 - 1 + k) 0) {base : Route}
    (hbase : base = Routes.defaultOf n) {dest : Destinations × Nat} {print punch : Option Place × Nat}
    {action : QuotaAction × Nat} (hdest : dest = orDefault (destinationsFor n (b 0)) base.destinations)
    (hprint : print = orDefault (standInFor n (printStandInOf (b 1))) base.printStandIn)
    (hpunch : punch = orDefault (standInFor n (punchStandInOf (b 2))) base.punchStandIn)
    (haction : action = orDefault (quotaActionOf (b 5)) base.action) :
    loadRoute image n at0 = some ({ base with
      destinations := dest.1, printStandIn := print.1, punchStandIn := punch.1
      reload := 256 * (b 3).toNat + (b 4).toNat, counter := 256 * (b 3).toNat + (b 4).toNat, action := action.1 },
      dest.2 + print.2 + punch.2 + action.2) := by
  have hbyte (k : Nat) (hk : k ≤ 5) : storeByte image (at0 + k) = some (b k) := by
    rw [storeByte_of_lt (by omega), hb, Nat.sub_add_comm hat]
  have hfirst : storeByte image at0 = some (b 0) := hbyte 0 (by omega)
  rw [loadRoute, hfirst, hbyte 1 (by omega), hbyte 2 (by omega), hbyte 3 (by omega), hbyte 4 (by omega),
    hbyte 5 (by omega)]
  simp only [hdest, hprint, hpunch, haction, hbase, word16_toNat]

/-- R22: what every default route holds besides its print stand-in. -/
theorem Routes.defaultOf_eq (n : RouteName) :
    Routes.defaultOf n = Route.default (if n = .received then some .file else none) := by
  cases n <;> rfl

/-- R185: a field that is valid is taken. -/
@[simp] theorem orDefault_some {α : Type} (v d : α) : orDefault (some v) d = (v, 0) := rfl

/-- R185: a field that is not takes its default, and is counted. -/
@[simp] theorem orDefault_none {α : Type} (d : α) : orDefault none d = (d, 1) := rfl

/-- R34, R185: destinations that a route may have. -/
theorem orDefault_destinationsFor_of_valid {n : RouteName} {b : Byte} {d : Destinations}
    (h : b.toNat < 8 ∧ (n = .keyedLocal → b.getLsbD 2 = false)) : orDefault (destinationsFor n b) d =
      ({ print := b.getLsbD 0, punch := b.getLsbD 1, file := b.getLsbD 2 }, 0) := by
  rw [destinationsFor_eq_some.mpr ⟨if_pos h.1, h.2⟩, orDefault_some]

/-- R34, R185: destinations that it may not have. -/
theorem orDefault_destinationsFor_of_invalid {n : RouteName} {b : Byte} {d : Destinations}
    (h : ¬ (b.toNat < 8 ∧ (n = .keyedLocal → b.getLsbD 2 = false))) :
    orDefault (destinationsFor n b) d = (d, 1) := by
  have hnone : destinationsFor n b = none := by
    refine Option.eq_none_iff_forall_ne_some.mpr fun x hx => h ?_
    obtain ⟨hof, hfile⟩ := destinationsFor_eq_some.mp hx
    unfold destinationsOf at hof
    split at hof
    · next hlt => exact ⟨hlt, fun hn => by simpa [← Option.some.inj hof] using hfile hn⟩
    · cases hof
  rw [hnone, orDefault_none]

/-- R34, R185: a stand-in that a route may have. -/
theorem orDefault_standInFor_of_valid {n : RouteName} {x : Option (Option Place)} {p d : Option Place}
    (hx : x = some p) (hfile : n = .keyedLocal → p ≠ some .file) : orDefault (standInFor n x) d = (p, 0) := by
  rw [standInFor_eq_some.mpr ⟨hx, hfile⟩, orDefault_some]

/-- R34, R185: no stand-in, or FILE for KEYED LOCAL. -/
theorem orDefault_standInFor_of_invalid {n : RouteName} {x : Option (Option Place)} {d : Option Place}
    (h : x = none ∨ x = some (some .file) ∧ n = .keyedLocal) : orDefault (standInFor n x) d = (d, 1) := by
  obtain rfl | ⟨rfl, rfl⟩ := h <;> rfl

/-- Section 10.7: a byte above the codes of a field has none of its values. -/
theorem standInOf_of_ge {b : Byte} (h : 3 ≤ b.toNat) :
    printStandInOf b = none ∧ punchStandInOf b = none ∧ quotaActionOf b = none := by
  obtain ⟨k, hk⟩ : ∃ k, b.toNat = k + 3 := ⟨_, (Nat.sub_add_cancel h).symm⟩
  simp [printStandInOf, punchStandInOf, quotaActionOf, hk]

/-- R34, R185: the stand-ins of a byte that a route may not have. -/
theorem standInOf_invalid {b : Byte} {n : RouteName} (h : 3 ≤ b.toNat ∨ b.toNat = 2 ∧ n = .keyedLocal) :
    (printStandInOf b = none ∨ printStandInOf b = some (some .file) ∧ n = .keyedLocal) ∧
      (punchStandInOf b = none ∨ punchStandInOf b = some (some .file) ∧ n = .keyedLocal) := by
  obtain h | ⟨h, hn⟩ := h
  · obtain ⟨hprint, hpunch, -⟩ := standInOf_of_ge h
    exact ⟨.inl hprint, .inl hpunch⟩
  · exact ⟨.inr ⟨printStandInOf_two h, hn⟩, .inr ⟨punchStandInOf_two h, hn⟩⟩

/-- R22: the routes need the bytes to 0x55. -/
theorem loadRoute_of_short {image : List Byte} {n : RouteName} {at0 : Nat} (h : image.length ≤ at0 + 4) :
    loadRoute image n at0 = none := by
  have hlast : storeByte image (at0 + 5) = none := storeByte_of_ge (by omega)
  unfold loadRoute
  rw [hlast]
  split
  · contradiction
  · rfl

/-- R22: the three routes when their bytes are read. -/
theorem loadRoutes_of_ge {image : List Byte} (h : 0x55 ≤ image.length) : ∃ a b c : Route × Nat,
    loadRoute image .received 0x40 = some a ∧ loadRoute image .sentCopy 0x48 = some b ∧
    loadRoute image .keyedLocal 0x50 = some c ∧
    loadRoutes image = some ({ received := a.1, sentCopy := b.1, keyedLocal := c.1 }, a.2 + b.2 + c.2) := by
  have hroute (n : RouteName) (at0 : Nat) (hfrom : 1 ≤ at0) (hto : at0 + 5 ≤ 0x55) :
      ∃ a, loadRoute image n at0 = some a :=
    ⟨_, loadRoute_eq n hfrom (by omega) (fun _ => rfl) rfl rfl rfl rfl rfl⟩
  obtain ⟨a, ha⟩ := hroute .received 0x40 (by omega) (by omega)
  obtain ⟨b, hb⟩ := hroute .sentCopy 0x48 (by omega) (by omega)
  obtain ⟨c, hc⟩ := hroute .keyedLocal 0x50 (by omega) (by omega)
  exact ⟨a, b, c, ha, hb, hc, by rw [loadRoutes, ha, hb, hc]⟩

/-- R22: no routes when they are not. -/
theorem loadRoutes_of_lt {image : List Byte} (h : image.length < 0x55) : loadRoutes image = none := by
  have hlast : loadRoute image .keyedLocal 0x50 = none := loadRoute_of_short (by omega)
  unfold loadRoutes
  rw [hlast]
  split
  · contradiction
  · rfl

/-! ## The function map -/

/-- R186: the map as its eight bytes give it. -/
theorem loadFunctionMap_eq {image : List Byte} {c : Nat → Code} (h : 0x67 ≤ image.length)
    (hc : ∀ k, c k = (image.getD (0x5F + k) 0).setWidth 5) {m : FunctionMap}
    (hm : m = FunctionMap.mk (c 0) (c 1) (c 2) (c 3) (c 4) (c 5) (c 6) (c 7)) :
    loadFunctionMap image = some (if m.valid then (m, 0) else (FunctionMap.default, 1)) := by
  have hbytes : (List.range 8).mapM (fun k => (storeByte image (0x60 + k)).map (BitVec.setWidth 5)) =
      some ((List.range 8).map c) := mapM_of_some fun k hk => by
    have hk := List.mem_range.mp hk
    rw [storeByte_of_lt (by omega), hc, Nat.sub_add_comm (by omega)]
    rfl
  rw [loadFunctionMap, hbytes, hm]
  rfl

/-- R186: six codes that differ, and neither ENQUIRY nor BELL among them. -/
theorem FunctionMap.valid_iff {c : Nat → Code} :
    (FunctionMap.mk (c 0) (c 1) (c 2) (c 3) (c 4) (c 5) (c 6) (c 7)).valid = true ↔
      [c 0, c 1, c 2, c 3, c 4, c 5].Nodup ∧ c 6 ∉ [c 0, c 1, c 2, c 3, c 4, c 5] ∧
        c 7 ∉ [c 0, c 1, c 2, c 3, c 4, c 5] := by
  simp only [FunctionMap.valid, Bool.and_eq_true, decide_eq_true_eq, Bool.not_eq_true', List.contains_eq_mem,
    decide_eq_false_iff_not, and_assoc]

/-! ## The answerback -/

/-- R62: the cases leave the codes. -/
theorem map_fst_resolveCases (m : FunctionMap) (k : Case) (codes : List Code) :
    (resolveCases m k codes).map Prod.fst = codes := by
  induction codes generalizing k with
  | nil => rfl
  | cons c rest ih => simp only [resolveCases, List.map_cons, ih]

/-- R62: a code's case is its own where it is a shift, and else that of the code before it. -/
theorem case_of_resolveCases {m : FunctionMap} {codes : List Code} {k : Case} {pre post : List (Code × Case)}
    {x : Code × Case} (h : resolveCases m k codes = pre ++ x :: post) :
    x.2 = if x.1 = m.lettersShift then .letters else if x.1 = m.figuresShift then .figures
      else (pre.getLast?.map Prod.snd).getD k := by
  induction codes generalizing k pre with
  | nil => simp [resolveCases] at h
  | cons c rest ih =>
    rw [resolveCases] at h
    cases pre with
    | nil =>
      obtain ⟨hx, -⟩ := List.cons.inj h
      rw [← hx]
      rfl
    | cons y pre =>
      obtain ⟨hy, hrest⟩ := List.cons.inj h
      rw [ih hrest, ← hy, List.getLast?_cons, Option.map_some, Option.getD_some]
      cases pre.getLast? <;> rfl

/-- R186: an answerback of at most 20 codes. -/
theorem loadAnswerback_of_le {image : List Byte} (map : FunctionMap) (h : 0x7C ≤ image.length)
    (hn : (image.getD 0x67 0).toNat ≤ 20) : loadAnswerback image map =
      some (resolveCases map .letters
        (((image.drop 0x68).take (image.getD 0x67 0).toNat).map (BitVec.setWidth 5)), 0) := by
  have hlength : storeByte image 0x68 = some (image.getD 0x67 0) := storeByte_of_lt (by omega)
  have hcodes : (List.range (image.getD 0x67 0).toNat).mapM
      (fun k => (storeByte image (0x69 + k)).map (BitVec.setWidth 5)) =
      some (((image.drop 0x68).take (image.getD 0x67 0).toNat).map (BitVec.setWidth 5)) := by
    rw [← map_range_getD image 0x68 (by omega), List.map_map]
    refine mapM_of_some fun k hk => ?_
    have hk := List.mem_range.mp hk
    rw [storeByte_of_lt (by omega), Nat.sub_add_comm (by omega)]
    rfl
  rw [loadAnswerback, hlength]
  dsimp only
  rw [if_pos hn, hcodes]
  rfl

/-- R186: a longer one is none at all, and is counted. -/
theorem loadAnswerback_of_gt {image : List Byte} (map : FunctionMap) (h : 0x7C ≤ image.length)
    (hn : 20 < (image.getD 0x67 0).toNat) : loadAnswerback image map = some ([], 1) := by
  have hlength : storeByte image 0x68 = some (image.getD 0x67 0) := storeByte_of_lt (by omega)
  rw [loadAnswerback, hlength]
  exact if_neg (by omega)

/-! ## The key map -/

/-- R186: the entries as their bytes give them. -/
theorem loadKeyMap_eq {image : List Byte} (h : 0xBF ≤ image.length) : loadKeyMap image =
    some (((image.drop 0x7F).take 64).map fun b => (keyEntryOf b).1,
      (((image.drop 0x7F).take 64).map fun b => (keyEntryOf b).2).sum) := by
  have hitems : (List.range Config.keyPositions).mapM (fun k => (storeByte image (0x80 + k)).map keyEntryOf) =
      some (((image.drop 0x7F).take 64).map keyEntryOf) := by
    rw [← map_range_getD image 0x7F (n := 64) (by omega), List.map_map]
    refine mapM_of_some fun k hk => ?_
    have hk : k < 64 := List.mem_range.mp hk
    rw [storeByte_of_lt (by omega), Nat.sub_add_comm (by omega)]
    rfl
  rw [loadKeyMap, hitems, Option.map_some, List.map_map, List.map_map]
  rfl

/-- A list of readings of which one fails. -/
theorem mapM_of_none {α β : Type} {f : α → Option β} {a : α} {l : List α} (ha : a ∈ l) (h : f a = none) :
    l.mapM f = none := by
  induction l with
  | nil => cases ha
  | cons x l ih =>
    obtain rfl | ha := List.mem_cons.mp ha
    · simp [List.mapM_cons, h]
    · cases hx : f x <;> simp [List.mapM_cons, hx, ih ha]

/-- R186: no key map when a byte of it is not read. -/
theorem loadKeyMap_of_lt {image : List Byte} (h : image.length < 0xBF) : loadKeyMap image = none := by
  have hitems : (List.range Config.keyPositions).mapM (fun k => (storeByte image (0x80 + k)).map keyEntryOf) = none := by
    refine mapM_of_none (List.mem_range.mpr (by decide : 63 < Config.keyPositions)) ?_
    rw [storeByte_of_ge (by omega), Option.map_none]
  rw [loadKeyMap, hitems, Option.map_none]

/-- Section 10.7: the five low bits of a byte. -/
theorem toNat_setWidth_five (b : Byte) : (b.setWidth 5).toNat = b.toNat % 32 := by
  rw [BitVec.toNat_setWidth]

/-- R186: the counts of a list of entries. -/
theorem sum_map_eq_countP {α : Type} {f : α → Nat} {p : α → Bool} (h : ∀ a, f a = if p a then 1 else 0) (l : List α) :
    (l.map f).sum = l.countP p := by
  induction l with
  | nil => rfl
  | cons a l ih => rw [List.map_cons, List.sum_cons, ih, List.countP_cons, h, Nat.add_comm]

/-- Section 10.7: a byte counts when its kind or its function is not one. -/
theorem keyEntryOf_count (b : Byte) : (keyEntryOf b).2 =
    if decide (5 ≤ b.toNat / 32 ∨ (b.toNat / 32 = 4 ∧ 4 ≤ b.toNat % 32)) then 1 else 0 := by
  have hc := toNat_setWidth_five b
  unfold keyEntryOf
  dsimp only
  rw [hc]
  repeat' split
  all_goals simp_all <;> omega

/-- Section 10.7: the entry of a key map byte. -/
theorem keyEntryOf_entry {b : Byte} {c : Code} (hc : c = b.setWidth 5) :
    (b.toNat / 32 = 0 → (keyEntryOf b).1 = .none) ∧
    (b.toNat / 32 = 1 → (keyEntryOf b).1 = .code c none) ∧
    (b.toNat / 32 = 2 → (keyEntryOf b).1 = .code c (some .letters)) ∧
    (b.toNat / 32 = 3 → (keyEntryOf b).1 = .code c (some .figures)) ∧
    (b.toNat = 0x80 → (keyEntryOf b).1 = .function .hereIs) ∧
    (b.toNat = 0x81 → (keyEntryOf b).1 = .function .brk) ∧
    (b.toNat = 0x82 → (keyEntryOf b).1 = .function .mode) ∧
    (b.toNat = 0x83 → (keyEntryOf b).1 = .function .feed) ∧
    (0x84 ≤ b.toNat → (keyEntryOf b).1 = .none) := by
  have hkind (k : Nat) (h : b.toNat / 32 = k) (hk : k < 4) : (keyEntryOf b).1 =
      [.none, .code c none, .code c (some .letters), .code c (some .figures)].getD k .none := by
    interval_cases k <;> simp [keyEntryOf, h, hc]
  have hfunction (k : Nat) (h : b.toNat = 0x80 + k) (hk : k < 4) : (keyEntryOf b).1 =
      [.function .hereIs, .function .brk, .function .mode, .function .feed].getD k .none := by
    have hfour : b.toNat / 32 = 4 := by omega
    have hlow : (b.setWidth 5).toNat = k := by rw [toNat_setWidth_five]; omega
    simp only [keyEntryOf, hfour, hlow]
    interval_cases k <;> rfl
  refine ⟨fun h => hkind 0 h (by decide), fun h => hkind 1 h (by decide), fun h => hkind 2 h (by decide),
    fun h => hkind 3 h (by decide), fun h => hfunction 0 h (by decide), fun h => hfunction 1 h (by decide),
    fun h => hfunction 2 h (by decide), fun h => hfunction 3 h (by decide), fun h => ?_⟩
  by_cases hfour : b.toNat / 32 = 4
  · obtain ⟨k, hk⟩ : ∃ k, (b.setWidth 5).toNat = k + 4 :=
      ⟨b.toNat % 32 - 4, by rw [toNat_setWidth_five]; omega⟩
    simp only [keyEntryOf, hfour, hk]
  · obtain ⟨k, hk⟩ : ∃ k, b.toNat / 32 = k + 5 := ⟨b.toNat / 32 - 5, by omega⟩
    simp only [keyEntryOf, hk]

/-! ## The sections together -/

/-- R184: a load cut short before the routes' last byte gives no section. -/
theorem loadBasic_of_lt {image : List Byte} (h : image.length < 0x55) : loadBasic image = none := by
  unfold loadBasic
  rw [loadRoutes_of_lt h]
  split
  · contradiction
  · rfl

/-- R184: a FULL load cut short before the key map's last byte gives none either. -/
theorem loadFull_of_lt {image : List Byte} (h : image.length < 0xBF) : loadFull image = none := by
  unfold loadFull
  rw [loadKeyMap_of_lt h]
  split
  · contradiction
  · rfl

/-- R184: the load kind NONE takes the defaults. -/
theorem load_none (p : Presence) (image : List Byte) :
    loadImage p .none image = Loaded.defaults p ∧ loadOptionsSection p .none image = Loaded.defaults p := ⟨rfl, rfl⟩

/-- R192: the options section by itself, whatever the load kind. -/
theorem loadOptionsSection_eq {p : Presence} {k : LoadKind} (hk : k ≠ .none) (image : List Byte) :
    loadOptionsSection p k image =
      ((loadBasic image).map fun l => { l with kind := k }).getD (Loaded.defaults .absent) := by
  cases k with
  | none => exact absurd rfl hk
  | basic => unfold loadOptionsSection; cases loadBasic image <;> rfl
  | full => unfold loadOptionsSection; cases loadBasic image <;> rfl

/-- R184: a load cut short before the routes' last byte takes the defaults, ABSENT. -/
theorem load_of_lt {p : Presence} {k : LoadKind} {image : List Byte} (hk : k ≠ .none) (h : image.length < 0x55) :
    loadImage p k image = Loaded.defaults .absent ∧ loadOptionsSection p k image = Loaded.defaults .absent := by
  have hsection : loadOptionsSection p k image = Loaded.defaults .absent := by
    rw [loadOptionsSection_eq hk, loadBasic_of_lt h]
    rfl
  refine ⟨?_, hsection⟩
  cases k with
  | none => exact absurd rfl hk
  | basic => rw [loadImage, loadBasic_of_lt h]; rfl
  | full => rw [loadImage, loadFull_of_lt (by omega)]; rfl

/-- R185: the options of a load whose bytes were read. -/
theorem loadOptions_of_ge {image : List Byte} (h : 0x3E ≤ image.length) :
    ∃ options count, loadOptions image = some (options, count) := by
  obtain ⟨raw, hraw⟩ : ∃ raw : OptionName → Nat, ∀ n, raw n = if n.spec.bytes = 2
      then 256 * (image.getD (n.spec.offset - 1) 0).toNat + (image.getD n.spec.offset 0).toNat
      else (image.getD (n.spec.offset - 1) 0).toNat := ⟨_, fun _ => rfl⟩
  obtain ⟨value, hvalue⟩ : ∃ value : OptionName → Nat, ∀ n, value n =
      if n.spec.kind.admits (raw n) then raw n else n.spec.default := ⟨_, fun _ => rfl⟩
  by_cases hordered : optionsOrdered (OptionName.all.map value) = true
  · exact ⟨_, _, loadOptions_of_ordered h hraw hvalue hordered⟩
  · exact ⟨_, _, loadOptions_of_unordered h hraw hvalue hordered⟩

/-- R184: the sections of a load whose bytes to 0x55 were read, put together. -/
theorem load_of_ge {p : Presence} {k : LoadKind} {image : List Byte} (hk : k ≠ .none) (h : 0x55 ≤ image.length) :
    ∃ o r : Nat, ∃ options routes,
      loadOptions image = some (options, o) ∧ loadRoutes image = some (routes, r) ∧
      (∃ d, loadOptionsSection p k image = d ∧ d.presence = .present ∧ d.kind = k ∧
        d.options = options ∧ d.routes = routes ∧ d.defaulted = min 255 (o + r)) ∧
      (k = .basic → loadImage p k image = { Loaded.defaults .present with
        kind := .basic, defaulted := min 255 (o + r), options := options, routes := routes }) ∧
      (k = .full → image.length < 0xBF → loadImage p k image = Loaded.defaults .absent) ∧
      (k = .full → 0xBF ≤ image.length → ∃ f a e : Nat, ∃ map answer keys,
        loadFunctionMap image = some (map, f) ∧ loadAnswerback image map = some (answer, a) ∧
        loadKeyMap image = some (keys, e) ∧
        loadImage p k image =
          { presence := .present, kind := .full, defaulted := min 255 (o + r + f + a + e)
            options := options, routes := routes, functionMap := map, answerback := answer
            keyMap := some keys }) := by
  obtain ⟨options, o, hoptions⟩ := loadOptions_of_ge (show 0x3E ≤ image.length by omega)
  obtain ⟨a, b, c, -, -, -, hroutes⟩ := loadRoutes_of_ge h
  have hbasic : loadBasic image = some { Loaded.defaults .present with
      kind := .basic, defaulted := min 255 (o + (a.2 + b.2 + c.2)), options := options
      routes := { received := a.1, sentCopy := b.1, keyedLocal := c.1 } } := by
    rw [loadBasic, hoptions, hroutes]
    rfl
  refine ⟨o, a.2 + b.2 + c.2, options, _, hoptions, hroutes, ⟨_, rfl, ?_⟩, ?_, ?_, ?_⟩
  · rw [loadOptionsSection_eq hk, hbasic]
    exact ⟨rfl, rfl, rfl, rfl, rfl⟩
  · rintro rfl
    rw [loadImage, hbasic]
    rfl
  · rintro rfl hshort
    rw [loadImage, loadFull_of_lt hshort]
    rfl
  · rintro rfl hwhole
    obtain ⟨map, f, hmap⟩ : ∃ map f, loadFunctionMap image = some (map, f) :=
      ⟨_, _, loadFunctionMap_eq (by omega) (fun _ => rfl) rfl⟩
    obtain ⟨answer, e, hanswer⟩ : ∃ answer e, loadAnswerback image map = some (answer, e) := by
      obtain hlong | hshort := Nat.lt_or_ge 20 (image.getD 0x67 0).toNat
      · exact ⟨_, _, loadAnswerback_of_gt map (by omega) hlong⟩
      · exact ⟨_, _, loadAnswerback_of_le map (by omega) hshort⟩
    refine ⟨f, e, _, map, answer, _, hmap, hanswer, loadKeyMap_eq hwhole, ?_⟩
    rw [loadImage, loadFull, hoptions, hroutes, hmap, loadKeyMap_eq hwhole]
    dsimp only
    rw [hanswer]
    rfl

end Sys2Proof.Machine
end

section
/-! The rows of a load, and what a load reads, settled together (R184 to R188). -/

namespace Sys2Proof.Machine

/-- R187: after a RELOAD load its reply is ready. -/
theorem State.afterLoad_reload (u : State) :
    u.afterLoad .reload = u.accept 0x26 (.reloaded u.isl.loadKind u.isl.presence u.isl.defaulted) := rfl

/-- R187: after any other, START IN SERVICE makes the call IDLE. -/
theorem State.afterLoad_of_ne_reload {u : State} {o : LoadOccasion} (h : o ≠ .reload) :
    u.afterLoad o = if u.flag .startInService then u.enterCall .idle else u := by
  cases o with
  | reload => exact absurd rfl h
  | powerOn => rfl
  | resetPin => rfl
  | restart => rfl

/-- Settles O35: the rows as one next state by the ends of `State.endLoad_eq`, and each section of the store as its bytes
give it. -/
theorem loadRowsComplete : Obligations.LoadRowsComplete := by
  refine ⟨fun l s hl => ⟨fun hfirst byte => ?byte0, fun hread image d i m on v u hd hi hm hon hv hu => ?loadEnd⟩,
    ⟨fun _ => rfl, load_none, fun p k image hk => ⟨load_of_lt hk, load_of_ge hk⟩⟩,
    fun image raw value h hraw hvalue => ?options, fun image n at0 b hat hlen hb => ?route,
    fun image => loadRoutes_of_ge, fun image c h hc => ?functionMap, fun image map n h hn => ?answerback,
    fun image h => ?keyMap⟩
  case byte0 =>
    refine ⟨_, _, congrArg Host.Outcome.next (storeByte0Read_of_first hl hfirst byte), ?_, ?_, ?_, ?_⟩
    · rintro rfl
      exact ⟨rfl, rfl⟩
    · rintro rfl
      exact ⟨rfl, rfl⟩
    · rintro rfl
      exact ⟨rfl, rfl⟩
    · rintro b rfl hbasic hfull
      exact ⟨rfl, (if_neg hbasic).trans (if_neg hfull)⟩
  case loadEnd =>
    have hend : exec (.loadEnd image) s = .next (u.afterLoad l.occasion).carryOn := by
      refine congrArg Host.Outcome.next ((loadEnd_of_read hl hread image).trans ?_)
      refine State.endLoad_eq (hd.trans (s.loaded_eq l image).symm) (hi.trans ?_) hm hon hv hu
      rw [Isl.take_eq]
    have hitems : u.isl = i := by rw [hu]
    have hreport : i.loadKind = d.kind ∧ i.presence = d.presence ∧ i.defaulted = d.defaulted ∧ i.options = d.options := by
      rw [hi]
      exact ⟨rfl, rfl, rfl, rfl⟩
    have hflag : u.flag .startInService = (optionGet d.options .startInService == 1) := by
      simp [State.flag, State.opt, hitems, hreport]
    have hcall : u.call = s.call ∧ u.now = s.now := by simp [hu, hv]
    rw [hend]
    refine ⟨fun ho => ?_, fun ho hout => ?_, fun ho hin => ?_⟩
    · obtain ⟨hkind, hpresence, hdefaulted, -⟩ := hreport
      rw [ho, State.afterLoad_reload, hitems, hkind, hpresence, hdefaulted, ← hitems]
      rfl
    · rw [State.afterLoad_of_ne_reload ho, hflag, if_neg (by simpa using hout)]
    · rw [State.afterLoad_of_ne_reload ho, hflag, if_pos (by simpa using hin), State.enterCall, hcall.1, hcall.2]
  case options =>
    by_cases hordered : optionsOrdered (OptionName.all.map value) = true
    · exact ⟨_, _, loadOptions_of_ordered h hraw hvalue hordered, by rw [List.length_map]; rfl,
        fun _ => ⟨optionGet_map_all value, rfl⟩, fun hbroken => absurd (optionsOrdered_map_all.mp hordered) hbroken⟩
    · exact ⟨_, _, loadOptions_of_unordered h hraw hvalue hordered, by rw [List.length_map]; rfl,
        fun hkept => absurd (optionsOrdered_map_all.mpr hkept) hordered,
        fun _ => ⟨optionGet_map_all fun n => if n.inOrdering then n.spec.default else value n, rfl⟩⟩
  case route =>
    have taken {α : Type} {field : α × Nat} {v : α} {k : Nat} (h : field = (v, k)) : field.2 = k ∧ field.1 = v :=
      ⟨congrArg Prod.snd h, congrArg Prod.fst h⟩
    obtain ⟨base, hbase⟩ : ∃ base, base = Routes.defaultOf n := ⟨_, rfl⟩
    have hdefault : base = Route.default (if n = .received then some .file else none) :=
      hbase.trans (Routes.defaultOf_eq n)
    refine ⟨_, _, loadRoute_eq n hat hlen hb hbase rfl rfl rfl rfl, rfl, rfl, by rw [hdefault]; rfl,
      by rw [hdefault]; rfl, by rw [hdefault]; rfl, _, _, _, _, rfl, fun hvalid => ?_, fun hinvalid => ?_,
      fun hcode => ?_, fun hcode => ?_, fun hcode hn => ?_, fun hcode => ?_,
      fun hcode => ?_, fun hcode => ?_, fun hcode hn => ?_, fun hcode => ?_,
      fun hcode => ?_, fun hcode => ?_, fun hcode => ?_, fun hcode => ?_⟩
    · exact taken (orDefault_destinationsFor_of_valid hvalid)
    · exact taken ((orDefault_destinationsFor_of_invalid hinvalid).trans (by rw [hdefault]; rfl))
    · exact taken (orDefault_standInFor_of_valid (by simp [printStandInOf, hcode]) (by simp))
    · exact taken (orDefault_standInFor_of_valid (by simp [printStandInOf, hcode]) (by simp))
    · exact taken (orDefault_standInFor_of_valid (printStandInOf_two hcode) fun h => absurd h hn)
    · exact taken ((orDefault_standInFor_of_invalid (standInOf_invalid hcode).1).trans (by rw [hdefault]; rfl))
    · exact taken (orDefault_standInFor_of_valid (by simp [punchStandInOf, hcode]) (by simp))
    · exact taken (orDefault_standInFor_of_valid (by simp [punchStandInOf, hcode]) (by simp))
    · exact taken (orDefault_standInFor_of_valid (punchStandInOf_two hcode) fun h => absurd h hn)
    · exact taken ((orDefault_standInFor_of_invalid (standInOf_invalid hcode).2).trans (by rw [hdefault]; rfl))
    · exact taken (by simp [quotaActionOf, hcode])
    · exact taken (by simp [quotaActionOf, hcode])
    · exact taken (by simp [quotaActionOf, hcode])
    · exact taken (by rw [(standInOf_of_ge hcode).2.2, hdefault]; rfl)
  case functionMap =>
    refine ⟨fun hvalid => ?_, fun hinvalid => ?_⟩
    · rw [loadFunctionMap_eq h hc rfl, if_pos (FunctionMap.valid_iff.mpr hvalid)]
    · rw [loadFunctionMap_eq h hc rfl, if_neg fun hv => hinvalid (FunctionMap.valid_iff.mp hv)]
      rfl
  case answerback =>
    rw [hn]
    refine ⟨loadAnswerback_of_gt map h, fun hle => ⟨_, loadAnswerback_of_le map h hle, map_fst_resolveCases _ _ _, ?_⟩⟩
    exact fun pre post x hx => case_of_resolveCases hx
  case keyMap =>
    refine ⟨_, _, loadKeyMap_eq h, ?_, sum_map_eq_countP keyEntryOf_count _, fun k b c hk hb hc => ?_⟩
    · rw [List.length_map, List.length_take, List.length_drop]
      omega
    · have hentry : (((image.drop 0x7F).take 64).map fun b => (keyEntryOf b).1)[k]? = some (keyEntryOf b).1 := by
        rw [← map_range_getD image 0x7F (by omega)]
        simp [hk, hb]
      rw [hentry]
      simpa only [Option.some.injEq] using keyEntryOf_entry hc

end Sys2Proof.Machine
end

section
/-! The carriage and the arbiter (R111 to R116, R121, R185). An operation keeps them if it leaves the options, the line timing
in effect, the carriage, the print spools and what the arbiter stands at, or changes them as the rules allow. Before the
choices that follow a step a hold-wait may be for a spool that a cell has reached; the choices review it (R114). A lemma
`f_sameCarriage` says that the operation `f` leaves all of this; a lemma `f_brings` that it brings a sound state to where the
choices may follow; a lemma `f_keepsCarriage` that a sound state is sound after `f`. -/

namespace Sys2Proof.Machine

/-! ## What the invariants speak of -/

/-- The options, the timing in effect, the carriage, the arbiter's items and the print spools are as they were. Reducible, so
that such a fact rewrites each of them. -/
@[simp, reducible] def State.SameCarriage (s t : State) : Prop :=
  (t.isl.options = s.isl.options ∧ t.timing = s.timing) ∧
  (t.printer.width = s.printer.width ∧ t.printer.column = s.printer.column) ∧
  (t.printer.committed = s.printer.committed ∧ t.printer.current = s.printer.current ∧
    t.printer.holdWait = s.printer.holdWait) ∧
  ∀ n : PrintSpool, t.store.spool n.toSpool = s.store.spool n.toSpool

/-- R114, R116: what stands of a sound arbiter once cells have reached the spools: a commitment is to the head cell of the
current spool, and there is no hold-wait without a current spool. -/
structure State.ArbiterOpen (s : State) : Prop where
  committed : s.printer.committed = true → ∃ n ∈ s.printer.current, s.printSpoolEmpty n = false
  waiting : s.printer.holdWait ≠ .notWaiting → s.printer.current ≠ none

/-- An operation after which the choices may follow: from sound options and a sound carriage to such, and from an arbiter
that stands where the review finds it to such. -/
structure State.Brings (s t : State) : Prop where
  options : s.OptionsSound → t.OptionsSound
  carriage : s.CarriageSound → t.CarriageSound
  arbiter : s.ArbiterOpen → t.ArbiterOpen

/-- An operation after which a state is sound that was sound before it. -/
structure State.KeepsCarriage (s t : State) : Prop where
  options : s.OptionsSound → t.OptionsSound
  carriage : s.CarriageSound → t.CarriageSound
  arbiter : s.ArbiterSound → t.ArbiterSound

section Keeps
variable {s t u : State}

theorem State.ArbiterSound.toOpen (h : s.ArbiterSound) : s.ArbiterOpen where
  committed := h.committed
  waiting hw := by
    obtain ⟨n, hn, -⟩ := h.waiting hw
    exact Option.ne_none_iff_exists'.mpr ⟨n, hn⟩

/-- Whether a print spool is empty is a matter of the spool. -/
theorem State.printSpoolEmpty_congr {n : PrintSpool} (h : t.store.spool n.toSpool = s.store.spool n.toSpool) :
    t.printSpoolEmpty n = s.printSpoolEmpty n := by
  rw [State.printSpoolEmpty, h, State.printSpoolEmpty]

theorem State.OptionsSound.of_same (h : s.OptionsSound) (hoptions : t.isl.options = s.isl.options)
    (htiming : t.timing = s.timing) : t.OptionsSound where
  count := by rw [hoptions]; exact h.count
  each n hn := by rw [State.opt, hoptions]; exact h.each n hn
  ordered := by rw [hoptions]; exact h.ordered
  inEffect := by rw [htiming]; exact h.inEffect

/-- With the options sound, the carriage is when its width and its column are. -/
theorem State.CarriageSound.of_options (h : s.CarriageSound) (ht : t.OptionsSound)
    (hwidth : t.printer.width = s.printer.width) (hcolumn : t.printer.column = s.printer.column) : t.CarriageSound where
  options := ht
  width := by rw [hwidth]; exact h.width
  column := by rw [hwidth, hcolumn]; exact h.column

theorem State.ArbiterOpen.of_same (h : s.ArbiterOpen) (hcommitted : t.printer.committed = s.printer.committed)
    (hcurrent : t.printer.current = s.printer.current) (hwait : t.printer.holdWait = s.printer.holdWait)
    (hspools : ∀ n, s.printSpoolEmpty n = false → t.printSpoolEmpty n = false) : t.ArbiterOpen where
  committed hc := by
    obtain ⟨n, hn, hholds⟩ := h.committed (hcommitted.symm.trans hc)
    exact ⟨n, hcurrent.trans hn, hspools n hholds⟩
  waiting hw := by rw [hcurrent]; exact h.waiting (hwait ▸ hw)

theorem State.ArbiterSound.of_same (h : s.ArbiterSound) (hcommitted : t.printer.committed = s.printer.committed)
    (hcurrent : t.printer.current = s.printer.current) (hwait : t.printer.holdWait = s.printer.holdWait)
    (hspools : ∀ n : PrintSpool, t.store.spool n.toSpool = s.store.spool n.toSpool) : t.ArbiterSound where
  committed hc := by
    obtain ⟨n, hn, hholds⟩ := h.committed (hcommitted.symm.trans hc)
    exact ⟨n, hcurrent.trans hn, (State.printSpoolEmpty_congr (hspools n)).trans hholds⟩
  waiting hw := by
    obtain ⟨n, hn, hempty⟩ := h.waiting (hwait ▸ hw)
    exact ⟨n, hcurrent.trans hn, (State.printSpoolEmpty_congr (hspools n)).trans hempty⟩

theorem State.Brings.refl (s : State) : s.Brings s := ⟨id, id, id⟩

theorem State.Brings.trans (h : s.Brings t) (k : t.Brings u) : s.Brings u :=
  ⟨k.options ∘ h.options, k.carriage ∘ h.carriage, k.arbiter ∘ h.arbiter⟩

theorem State.Brings.same (h : s.SameCarriage t) : s.Brings t := by
  obtain ⟨⟨hoptions, htiming⟩, ⟨hwidth, hcolumn⟩, ⟨hcommitted, hcurrent, hwait⟩, hspools⟩ := h
  exact {
    options := fun h => h.of_same hoptions htiming
    carriage := fun h => h.of_options (h.options.of_same hoptions htiming) hwidth hcolumn
    arbiter := fun h => h.of_same hcommitted hcurrent hwait fun n hn => (State.printSpoolEmpty_congr (hspools n)).trans hn }

theorem State.KeepsCarriage.same (h : s.SameCarriage t) : s.KeepsCarriage t := by
  have hbrings := State.Brings.same h
  obtain ⟨-, -, ⟨hcommitted, hcurrent, hwait⟩, hspools⟩ := h
  exact ⟨hbrings.options, hbrings.carriage, fun h => h.of_same hcommitted hcurrent hwait hspools⟩

theorem State.KeepsCarriage.refl (s : State) : s.KeepsCarriage s := ⟨id, id, id⟩

theorem State.KeepsCarriage.trans (h : s.KeepsCarriage t) (k : t.KeepsCarriage u) : s.KeepsCarriage u :=
  ⟨k.options ∘ h.options, k.carriage ∘ h.carriage, k.arbiter ∘ h.arbiter⟩

/-- Followed by what leaves the carriage. -/
theorem State.Brings.leaving (h : s.Brings t) (hu : t.SameCarriage u) : s.Brings u := h.trans (.same hu)

/-- Preceded by what leaves the carriage. -/
theorem State.Brings.after (h : t.Brings u) (ht : s.SameCarriage t) : s.Brings u := State.Brings.trans (.same ht) h

/-- Preceded by what leaves the carriage. -/
theorem State.KeepsCarriage.after (h : t.KeepsCarriage u) (ht : s.SameCarriage t) : s.KeepsCarriage u :=
  State.KeepsCarriage.trans (.same ht) h

/-- Followed by a reply (R174). -/
theorem State.KeepsCarriage.accept (h : s.KeepsCarriage t) {kind : Byte} {r : Result} :
    s.KeepsCarriage (t.accept kind r) := h.trans (.same (by simp))

end Keeps

/-! ## The review of the hold-wait -/

section Review
variable {s : State}

/-- R112, R114: the arbiter when the printer chooses: sound, and without a rival to a hold-wait that has EXPIRED. -/
structure State.ArbiterReviewed (s : State) : Prop extends s.ArbiterSound where
  unrivalled : s.printer.holdWait = .expired → s.rivalWaits = false

/-- What a cut-in leaves of the carriage and the commitment, and that no hold-wait stands after it (R115). -/
@[simp] theorem Printer.cutIn_carriage (p : Printer) : p.cutIn.width = p.width ∧ p.cutIn.column = p.column ∧
    p.cutIn.committed = p.committed ∧ p.cutIn.holdWait = .notWaiting := by
  rw [p.cutIn_spec.1]
  exact ⟨rfl, rfl, rfl, rfl⟩

/-- R114: the review ends a hold-wait that a cell in the current spool, a rival once it has EXPIRED, or a printer that has
left IDLE ends. -/
theorem State.ArbiterOpen.reviewHoldWait (h : s.ArbiterOpen) : s.reviewHoldWait.ArbiterReviewed := by
  unfold State.reviewHoldWait
  split_ifs with hnone hended hcut
  · exact ⟨⟨h.committed, fun hw => absurd hnone hw⟩, fun hw => by simp [hnone] at hw⟩
  · exact ⟨⟨h.committed, fun hw => absurd rfl hw⟩, nofun⟩
  all_goals
    obtain ⟨-, hempty⟩ := not_or.mp hended
    have hfree : s.printer.committed ≠ true := fun hc => hempty (by
      obtain ⟨n, hn, hholds⟩ := h.committed hc
      exact State.currentHolds_iff.mpr ⟨n, hn, State.printSpoolEmpty_eq_false_iff.mp hholds⟩)
  · exact ⟨⟨fun hc => absurd (by simpa using hc) hfree, fun hw => absurd (by simp) hw⟩, by simp⟩
  · refine ⟨⟨fun hc => absurd hc hfree, fun hw => ?_⟩, fun hw => by simpa [hw] using hcut⟩
    obtain ⟨n, hn⟩ := Option.ne_none_iff_exists'.mp (h.waiting hw)
    exact ⟨n, hn, by simpa [State.currentHolds, hn] using hempty⟩

/-- What leaves the printer and the print spools leaves the review. -/
theorem State.ArbiterReviewed.of_same {t : State} (h : s.ArbiterReviewed) (hprinter : t.printer = s.printer)
    (hspools : ∀ n : PrintSpool, t.store.spool n.toSpool = s.store.spool n.toSpool) : t.ArbiterReviewed where
  toArbiterSound := h.toArbiterSound.of_same (by rw [hprinter]) (by rw [hprinter]) (by rw [hprinter]) hspools
  unrivalled hw := by
    simpa only [State.rivalWaits, State.printSpoolEmpty_congr (hspools _), hprinter] using
      h.unrivalled (hprinter ▸ hw)

/-! ## The choice of the printer -/

/-- Without work for the current spool or for a rival there is none (R111). -/
theorem State.printWork_of_unrivalled {n : PrintSpool} (hcurrent : s.printer.current = some n)
    (hempty : s.printSpoolEmpty n = true) (hrival : s.rivalWaits = false) : s.printWork = false := by
  rw [← Bool.not_eq_true, State.printWork_iff]
  rintro ⟨m, hm⟩
  by_cases hcase : m = n
  · exact hm (hcase ▸ State.printSpoolEmpty_iff.mp hempty)
  · refine Bool.false_ne_true (hrival.symm.trans (State.rivalWaits_iff.mpr ⟨m, ?_, hm⟩))
    rw [hcurrent]
    exact fun heq => hcase (Option.some.inj heq).symm

/-- A commitment to the head cell of the current spool, until its own cycle takes it (R112, R117). -/
theorem State.printCell_arbiterSound {n : PrintSpool} {c : Cell} (hcurrent : s.printer.current = some n)
    (hhead : s.printHead n = some c) (hwait : s.printer.holdWait = .notWaiting) : (s.printCell n c).ArbiterSound := by
  rw [State.printCell_eq]
  refine ⟨fun hc => ⟨n, hcurrent, ?_⟩, fun hw => absurd hwait hw⟩
  have hinserted : s.neededKind c ≠ .own := by simpa using hc
  refine Eq.trans (State.printSpoolEmpty_congr (s := s) ?_) (State.printSpoolEmpty_eq_false_iff.mpr (by simp [hhead]))
  rw [if_neg hinserted]

/-- An IDLE printer goes on with the current spool only when it holds a cell. -/
theorem State.ArbiterSound.printFrom {n : PrintSpool} (h : s.ArbiterSound) (hcurrent : s.printer.current = some n)
    (hwait : s.printHead n ≠ none → s.printer.holdWait = .notWaiting) : (s.printFrom n).ArbiterSound := by
  cases hhead : s.printHead n with
  | none => rwa [State.printFrom_of_empty hhead]
  | some c =>
    rw [State.printFrom_of_head hhead]
    exact State.printCell_arbiterSound hcurrent hhead (hwait (by simp [hhead]))

@[simp] theorem Printer.grant_holdWait (p : Printer) (n : PrintSpool) : (p.grant n).holdWait = p.holdWait := by
  by_cases hn : p.current = some n
  · rw [Printer.grant_of_current hn]
  · rw [Printer.grant_of_other hn]

@[simp] theorem Printer.grant_current (p : Printer) (n : PrintSpool) : (p.grant n).current = some n := by
  by_cases hn : p.current = some n
  · rw [Printer.grant_of_current hn, hn]
  · rw [Printer.grant_of_other hn]

/-- A grant starts the cycle of the spool that re-arbitration yields (R113). -/
theorem State.ArbiterSound.grantItem (h : s.ArbiterSound) (hwait : s.printWork = true → s.printer.holdWait = .notWaiting) :
    s.grantItem.ArbiterSound := by
  obtain ⟨hyields, hnone⟩ := s.arbitrate_spec
  cases hn : s.arbitrate with
  | none => rwa [State.grantItem_of_no_work (hnone.mp hn)]
  | some n =>
    obtain ⟨c, hhead⟩ := Option.ne_none_iff_exists'.mp (hyields n hn)
    rw [State.grantItem_of_head hn hhead]
    exact State.printCell_arbiterSound (by simp) hhead
      (by simpa using hwait (State.printWork_iff.mpr ⟨n, hyields n hn⟩))

/-- R112: the choice that the printer makes is sound after the review. -/
theorem State.ArbiterReviewed.printChoiceItem (h : s.ArbiterReviewed) (hchooses : s.printerChooses = true) :
    s.printChoiceItem.ArbiterSound := by
  obtain ⟨-, -, hnever, -⟩ := State.printerChooses_iff.mp hchooses
  have hwait : s.printWork = true → s.printer.holdWait = .notWaiting := by
    intro hwork
    cases hw : s.printer.holdWait with
    | notWaiting => rfl
    | waiting due => exact absurd hw (hnever due)
    | expired =>
      obtain ⟨n, hn, hempty⟩ := h.waiting (by simp [hw])
      simp [State.printWork_of_unrivalled hn hempty (h.unrivalled hw)] at hwork
  have hnewline (hwork : s.printWork = true) (hfree : s.printer.committed ≠ true) : s.newlineItem.ArbiterSound := by
    unfold State.newlineItem
    split <;> exact ⟨fun hc => absurd hc hfree, fun hw => absurd (hwait hwork) hw⟩
  have hfrom (n : PrintSpool) (hn : s.printer.current = some n) : (s.printFrom n).ArbiterSound :=
    h.toArbiterSound.printFrom hn fun hhead => hwait (State.printWork_iff.mpr ⟨n, hhead⟩)
  cases hcurrent : s.printer.current with
  | none =>
    rw [State.printChoiceItem_of_no_current hcurrent]
    split_ifs with howed
    · refine hnewline howed.2 fun hc => ?_
      obtain ⟨n, hn, -⟩ := h.committed hc
      exact Option.not_mem_none n (hcurrent ▸ hn)
    · exact h.toArbiterSound.grantItem hwait
  | some n =>
    rw [State.printChoiceItem_of_current hcurrent]
    split_ifs with hcommitted howed hclosed hholds hnone
    · exact hfrom n hcurrent
    · exact hnewline howed.2 hcommitted
    · exact h.toArbiterSound.grantItem hwait
    · exact hfrom n hcurrent
    · have hempty : s.printSpoolEmpty n = true := by simpa using hholds
      exact ⟨h.committed, fun _ => ⟨n, hcurrent, hempty⟩⟩
    · exact h.toArbiterSound

theorem State.ArbiterReviewed.printChoice (h : s.ArbiterReviewed) : s.printChoice.ArbiterSound := by
  rcases s.printChoice_cases with heq | ⟨hchooses, heq, -⟩ <;> rw [heq]
  · exact h.toArbiterSound
  · exact h.printChoiceItem hchooses

end Review

/-! ## The choices that follow a step -/

section Choices
variable {s t : State}

/-- The Line Sender's choice is not of the printer (R57). -/
@[simp] theorem State.sendChoice_sameCarriage (s : State) : s.SameCarriage s.sendChoice := by
  obtain ⟨l, st, heq, hspools⟩ := s.sendChoice_eq
  simp [heq, hspools]

/-- What leaves the printer and takes no cell out of the print spools leaves a sound arbiter. -/
theorem State.ArbiterSound.of_takesUp {heads : Set SpoolName} (h : s.ArbiterSound) (hprinter : t.printer = s.printer)
    (ht : s.TakesUp heads t) (hheads : ∀ n : PrintSpool, n.toSpool ∉ heads) : t.ArbiterSound :=
  h.of_same (by rw [hprinter]) (by rw [hprinter]) (by rw [hprinter]) fun n => ht.store.kept _ (hheads n)

theorem State.ArbiterOpen.carryOn (h : s.ArbiterOpen) : s.carryOn.ArbiterSound := by
  have hopen : s.testReleases.ArbiterOpen := (State.Brings.same (by
    unfold State.testReleases State.startTrailer
    dsimp only
    split_ifs <;> simp)).arbiter h
  have hplaced : s.testReleases.reviewHoldWait.reviewWithdrawn.placeDemands.ArbiterReviewed :=
    hopen.reviewHoldWait.of_same (by simp) fun n => by simp
  have hchosen : s.chosen.ArbiterSound :=
    hplaced.printChoice.of_takesUp (State.punchChoice_printer _) (State.punchChoice_takesUp _) (by simp)
  have hlapsed : s.chosen.lapseDemands.runReleaseTimer.ArbiterSound :=
    hchosen.of_same (by simp) (by simp) (by simp) fun n => by simp
  rw [State.carryOn_eq]
  exact hlapsed.of_same (by simp) (by simp) (by simp) fun n => by simp

/-- The choices end what a step begins (R112 to R115). -/
theorem State.KeepsCarriage.carryOn_of (hoptions : s.OptionsSound → t.OptionsSound)
    (hcarriage : s.CarriageSound → t.CarriageSound) (harbiter : s.ArbiterSound → t.ArbiterOpen) :
    s.KeepsCarriage t.carryOn := by
  have hkept := t.carryOn_takesUp.choicesKeep
  have hchosen : t.OptionsSound → t.carryOn.OptionsSound := fun h => h.of_same (by rw [hkept.isl]) hkept.timing
  exact {
    options := fun hs => hchosen (hoptions hs)
    carriage := fun hs => (hcarriage hs).of_options (hchosen (hcarriage hs).options) hkept.printer.width
      hkept.printer.column
    arbiter := fun hs => (harbiter hs).carryOn }

/-- The choices after an operation that brings them. -/
theorem State.Brings.carryOn (h : s.Brings t) : s.KeepsCarriage t.carryOn :=
  .carryOn_of h.options h.carriage fun hs => h.arbiter hs.toOpen

/-- The choices after what leaves the carriage. -/
theorem State.KeepsCarriage.carryOn_same (h : s.SameCarriage t) : s.KeepsCarriage t.carryOn :=
  (State.Brings.same h).carryOn

end Choices

end Sys2Proof.Machine
end

section
/-! SUPPORT. The operations of the routes, the Message File, the line, the calls and the keyboard leave the carriage; those that
place cells let the print spools grow, and the entry to CONNECTED takes the timing of the options (R66). -/

namespace Sys2Proof.Machine

variable (s : State)

/-! ## The print spools -/

/-- An append to another spool. -/
@[simp] theorem Store.append_print (st : Store) {n : SpoolName} (m : PrintSpool) (h : m.toSpool ≠ n) (e : Entry) :
    (st.append n e).spool m.toSpool = st.spool m.toSpool := st.append_other h e

/-- The emptying of another spool (R11). -/
@[simp] theorem Store.emptySpool_print (st : Store) {n : SpoolName} (m : PrintSpool) (h : m.toSpool ≠ n) :
    (st.emptySpool n).2.spool m.toSpool = st.spool m.toSpool := st.emptySpool_other h

/-- The episode is not of the spools (R15). -/
@[simp] theorem Store.spool_episode (st : Store) (e : Episode) (n : SpoolName) :
    ({ st with episode := e } : Store).spool n = st.spool n := by cases n <;> rfl

/-- A spool that holds a cell holds one after an append to any (R6). -/
theorem Store.append_holds {st : Store} {m : SpoolName} (h : (st.spool m).isEmpty = false) (n : SpoolName) (e : Entry) :
    ((st.append n e).spool m).isEmpty = false := by
  by_cases hm : m = n
  · subst hm
    rcases st.append_cases m e with ⟨-, h'⟩ | ⟨-, -, h'⟩ | ⟨-, -, b, rest, -, h'⟩ <;> rw [h']
    · exact h
    · simp [Spool.isEmpty]
    · simp [Spool.isEmpty]
  · rwa [st.append_other hm]

/-- And after a batch (R7). -/
theorem Store.appendAll_holds {m : SpoolName} (n : SpoolName) (es : List Entry) {st : Store}
    (h : (st.spool m).isEmpty = false) : ((st.appendAll n es).spool m).isEmpty = false := by
  induction es generalizing st with
  | nil => exact h
  | cons e es ih => exact ih (Store.append_holds h n e)

theorem Store.batch_holds {m n : SpoolName} {es : List Entry} {st st' : Store} (hbatch : st.batch n es = .ok st')
    (h : (st.spool m).isEmpty = false) : (st'.spool m).isEmpty = false := by
  rcases st.batch_cases n es with ⟨-, heq⟩ | ⟨-, heq⟩
  · obtain rfl := Except.ok.inj (heq.symm.trans hbatch)
    exact Store.appendAll_holds n es h
  · cases heq.symm.trans hbatch

/-- The spools may grow before the choices (R114). -/
theorem State.Brings.growing {st : Store}
    (h : ∀ n : PrintSpool, (s.store.spool n.toSpool).isEmpty = false → (st.spool n.toSpool).isEmpty = false) :
    s.Brings { s with store := st } :=
  ⟨fun hs => hs.of_same rfl rfl, fun hs => hs.of_options (hs.options.of_same rfl rfl) rfl rfl,
    fun hs => hs.of_same rfl rfl rfl h⟩

/-! ## The punch and its spool -/

@[simp] theorem State.claimPunch_sameCarriage (k : Stream) : s.SameCarriage (s.claimPunch k) := by
  unfold State.claimPunch
  split <;> simp

@[simp] theorem State.lineCellPlaced_sameCarriage (k : Stream) : s.SameCarriage (s.lineCellPlaced k) := by
  unfold State.lineCellPlaced
  split <;> simp

@[simp] theorem State.dropFeedHeld_sameCarriage : s.SameCarriage s.dropFeedHeld := by
  unfold State.dropFeedHeld
  split <;> simp

@[simp] theorem State.setSwitch_sameCarriage (on : Bool) : s.SameCarriage (s.setSwitch on) := by
  simp [State.setSwitch]

@[simp] theorem State.lineReleaseDue_sameCarriage : s.SameCarriage s.lineReleaseDue := by
  unfold State.lineReleaseDue
  split <;> simp

@[simp] theorem State.markLineRelease_sameCarriage : s.SameCarriage s.markLineRelease := by
  unfold State.markLineRelease
  split <;> simp

/-! ## The Message File and the routes -/

@[simp] theorem State.offerFile_sameCarriage (c : Cell) : s.SameCarriage (s.offerFile c).1 := by
  have h := s.offerFile_sameButTraffic c
  have hspools (n : SpoolName) : (s.offerFile c).1.store.spool n = s.store.spool n := by
    unfold State.offerFile State.fileInto State.openMessage
    repeat' split
    all_goals simp [State.fileFullNotice]
  simp [h.isl, h.timing, h.printer, hspools]

@[simp] theorem State.endFiling_sameCarriage (cause : FilingCause) : s.SameCarriage (s.endFiling cause) := by
  unfold State.endFiling State.closeMessage
  dsimp only
  split <;> simp

@[simp] theorem State.advanceReplay_sameCarriage (r : Replay) (total : Nat) : s.SameCarriage (s.advanceReplay r total) := by
  unfold State.advanceReplay
  split <;> simp

theorem State.replayCell_brings (t : ReplayTarget) (c : Cell) : s.Brings (s.replayCell t c) := by
  cases t with
  | print => exact .growing s fun n hn => Store.append_holds hn _ _
  | punch => exact .same (by simp [State.replayCell, State.appendPunch])

theorem State.tryPlace_brings (n : RouteName) (p : Place) (c : Cell) : s.Brings (s.tryPlace n p c).1 := by
  cases p with
  | print =>
    unfold State.tryPlace State.tryPrint
    dsimp only
    split
    · exact .refl s
    split
    · exact .refl s
    split
    · exact .refl s
    · exact .growing s fun n hn => Store.append_holds hn _ _
  | punch =>
    unfold State.tryPlace State.tryPunch
    dsimp only
    split
    · exact .refl s
    split
    · exact .refl s
    split
    · exact .refl s
    · exact .same (by simp [State.appendPunch])
  | file => exact .same (s.offerFile_sameCarriage c)

theorem Delivery.tryStandIn_brings (d : Delivery) (n : RouteName) (r : Route) (p : Place) (c : Cell) :
    d.state.Brings (d.tryStandIn n r p c).state := by
  unfold Delivery.tryStandIn
  split
  · exact .refl _
  · dsimp only
    split <;> exact State.tryPlace_brings ..

theorem Delivery.deliverTo_brings (n : RouteName) (r : Route) (c : Cell) (d : Delivery) (p : Place) :
    d.state.Brings (d.deliverTo n r c p).state := by
  unfold Delivery.deliverTo
  split
  · dsimp only
    split
    · exact State.tryPlace_brings ..
    · next e _ => exact (d.state.tryPlace_brings n p c).trans (Delivery.tryStandIn_brings
        { d with state := (d.state.tryPlace n p c).1, loss := firstLoss d.loss (some e) } n r p c)
  · exact .refl _

/-- A presentation lets the print spools grow (R23). -/
theorem State.present_brings (n : RouteName) (c : Cell) : s.Brings (s.present n c).1 := by
  have hto := Delivery.deliverTo_brings n (s.routes.get n) c
  have hall (d : Delivery) :
      d.state.Brings ([Place.print, .punch, .file].foldl (Delivery.deliverTo n (s.routes.get n) c) d).state :=
    ((hto d .print).trans (hto _ .punch)).trans (hto _ .file)
  have hdelivered : s.Brings (s.deliver n c).state := by
    unfold State.deliver
    dsimp only
    split
    · exact .refl s
    · exact hall { state := s, placed := 0, lost := 0, tried := [], loss := none }
  exact hdelivered.leaving (by simp [State.present])

theorem replayCopy_keepsCarriage : s.KeepsCarriage (replayCopy s) := by
  unfold replayCopy
  split
  · exact .refl s
  split
  · exact .refl s
  split
  · next r _ _ _ c _ _ => exact ((s.replayCell_brings r.target c).leaving (by simp)).carryOn
  · exact .refl s

/-! ## Calls -/

@[simp] theorem State.reportLoss_sameCarriage (loss : Option (SpaceTarget × SpaceReason)) :
    s.SameCarriage (s.reportLoss loss) := by
  unfold State.reportLoss
  dsimp only
  repeat' split
  all_goals simp

/-- R66: the timing of the options is ordered as they are. -/
theorem State.copyTiming_brings : s.Brings s.copyTiming := by
  have hoptions (h : s.OptionsSound) : s.copyTiming.OptionsSound := { h with inEffect := h.ordered }
  exact ⟨hoptions, fun h => h.of_options (hoptions h.options) rfl rfl, fun h => h.of_same rfl rfl rfl fun _ => id⟩

theorem State.tryConnect_brings : s.Brings s.tryConnect := by
  unfold State.tryConnect State.enterConnected
  split
  · exact s.copyTiming_brings.leaving (by simp)
  · exact .refl s

theorem State.enterAnswering_brings : s.Brings s.enterAnswering := (State.tryConnect_brings _).after (by simp)

theorem State.enterCalling_brings : s.Brings s.enterCalling := (State.tryConnect_brings _).after (by simp)

@[simp] theorem State.failAttempt_sameCarriage (o : CallOutcome) : s.SameCarriage (s.failAttempt o) := by
  simp [State.failAttempt, State.clearedNotice]

@[simp] theorem State.declineOffer_sameCarriage : s.SameCarriage s.declineOffer := by simp [State.declineOffer]

@[simp] theorem State.endClearing_sameCarriage : s.SameCarriage s.endClearing := by
  unfold State.endClearing State.clearedNotice
  split <;> simp

@[simp] theorem State.endReleasing_sameCarriage : s.SameCarriage s.endReleasing := by
  unfold State.endReleasing
  dsimp only
  split <;> simp

@[simp] theorem State.enterClearing_sameCarriage (cause : CallOutcome) : s.SameCarriage (s.enterClearing cause) := by
  unfold State.enterClearing State.beginClearing State.leaveLine State.timeClearing State.emptySend
  dsimp only
  split <;> simp

@[simp] theorem State.takeClear_sameCarriage : s.SameCarriage s.takeClear := by
  unfold State.takeClear
  split <;> simp

@[simp] theorem State.callLevelChange_sameCarriage (level : Level) (te : Nat) :
    s.SameCarriage (s.callLevelChange level te) := by
  unfold State.callLevelChange
  split <;> simp

theorem State.recognise_brings : s.Brings s.recognise := by
  unfold State.recognise
  split
  · exact (State.enterAnswering_brings _).after (by simp)
  · exact .same (by simp [State.enterOffered])
  · exact .same (by simp)

@[simp] theorem State.withdrawn_sameCarriage : s.SameCarriage s.withdrawn := by
  unfold State.withdrawn
  split <;> simp

/-! ## The Line Receiver -/

@[simp] theorem State.tellDelivered_sameCarriage (cell : Cell) (enquiry : Bool) :
    s.SameCarriage (s.tellDelivered cell enquiry) := by
  unfold State.tellDelivered State.takeEnquiry
  dsimp only
  repeat' split
  all_goals simp

@[simp] theorem State.recordDelivery_sameCarriage (k : Quality) : s.SameCarriage (s.recordDelivery k) := by
  unfold State.recordDelivery State.poorCharacter
  dsimp only
  repeat' split
  all_goals simp

@[simp] theorem State.reachBreak_sameCarriage (r : SpaceRun) : s.SameCarriage (s.reachBreak r) := by
  unfold State.reachBreak State.discardPending State.poorCharacter
  dsimp only
  repeat' split
  all_goals simp

@[simp] theorem State.ensureBreak_sameCarriage (r : SpaceRun) : s.SameCarriage (s.ensureBreak r) := by
  unfold State.ensureBreak
  split <;> simp

theorem State.handOn_brings (c : Cell) (enquiry : Bool) : s.Brings (s.handOn c enquiry) :=
  (s.present_brings .received c).leaving (by simp [State.handOn])

theorem State.markInRun_brings (r : SpaceRun) (te : Nat) : s.Brings (s.markInRun r te) := by
  unfold State.markInRun
  dsimp only
  split
  · split
    · exact (State.handOn_brings _ _ _).after (by simp)
    · exact .same (by simp)
  · split <;> exact .same (by simp)

theorem State.startEdge_sameCarriage (te : Nat) : s.SameCarriage (s.startEdge te) := by
  unfold State.startEdge
  dsimp only
  split <;> simp

theorem State.receiverChange_brings (level : Level) (te : Nat) : s.Brings (s.receiverChange level te) := by
  unfold State.receiverChange
  split
  · exact .refl s
  · split
    · exact .same (s.startEdge_sameCarriage te)
    · exact .refl s
  · exact .same (by simp)
  · split
    · exact s.markInRun_brings _ te
    · exact .refl s

/-! ## The keyboard -/

@[simp] theorem State.modeEffects_sameCarriage (before after : KeyboardMode) :
    s.SameCarriage (s.modeEffects before after) := by
  unfold State.modeEffects
  dsimp only
  split_ifs <;> simp

@[simp] theorem State.changeMode_sameCarriage (mode : KeyboardMode) : s.SameCarriage (s.changeMode mode) := by
  simp [State.changeMode]

theorem State.pressKey_brings (e : KeyEntry) : s.Brings (s.pressKey e) := by
  unfold State.pressKey
  split
  · exact .refl s
  · unfold State.pressCode State.keyToSend State.keyToLocal
    dsimp only
    split
    · split <;> exact .same (by simp)
    · next c requirement _ =>
      have hpresented := s.present_brings .keyedLocal (s.keyCell c requirement)
      split <;> exact hpresented.leaving (by simp)
  · unfold State.pressHereIs
    split
    · exact .same (by simp)
    split
    · exact .refl s
    split
    · next hbatch => exact .growing s fun n hn => Store.batch_holds hbatch hn
    · exact .same (by simp)
  · unfold State.pressBreak
    split <;> exact .same (by simp)
  · unfold State.pressMode
    split <;> exact .same (by simp)
  · unfold State.pressFeed
    dsimp only
    split <;> exact .same (by simp)

end Sys2Proof.Machine
end

section
/-! The set values after SET OPTION and after a load (R185, R188, R189): values of their options, in the ordering. -/

namespace Sys2Proof.Machine

/-! ## Lists of set values -/

/-- R185, R188: 43 set values, each a value of its option, in the ordering. -/
structure OptionValues (options : List Nat) : Prop where
  count : options.length = 43
  each : ∀ n : OptionName, n.spec.kind.admits (optionGet options n) = true
  ordered : optionsOrdered options = true

theorem OptionName.mem_all (n : OptionName) : n ∈ OptionName.all := by cases n <;> decide

/-- Section 10.7: the options stand in the list by their places. -/
theorem OptionName.all_getElem (n : OptionName) : OptionName.all[n.ctorIdx]? = some n := by cases n <;> rfl

theorem OptionName.ctorIdx_inj {n m : OptionName} (h : n.ctorIdx = m.ctorIdx) : n = m := by
  have hn := n.all_getElem
  rw [h, m.all_getElem] at hn
  exact (Option.some.inj hn).symm

theorem OptionName.ctorIdx_lt (n : OptionName) : n.ctorIdx < 43 := by cases n <;> decide

/-- R188: the default of an option is one of its values. -/
theorem OptionName.admits_default (n : OptionName) : n.spec.kind.admits n.spec.default = true := by cases n <;> rfl

/-- R188: a range is not empty. -/
theorem OptionName.range_le {n : OptionName} {lo hi : Nat} (h : n.spec.kind = .numeric lo hi) : lo ≤ hi := by
  have hdefault := n.admits_default
  rw [h] at hdefault
  simp only [OptionKind.admits, Bool.and_eq_true, decide_eq_true_eq] at hdefault
  omega

/-- R189: what SET OPTION takes is a value of the option. -/
theorem OptionName.admits_taken {n : OptionName} {v taken : Nat} (h : n.spec.kind.take v = some taken) :
    n.spec.kind.admits taken = true := by
  obtain ⟨lo, hi, hkind, rfl⟩ | ⟨k, hkind, hlt, rfl⟩ | ⟨hkind, hlt, rfl⟩ := OptionKind.take_eq_some_iff.mp h
  · have hle := OptionName.range_le hkind
    rw [hkind]
    simp only [OptionKind.admits, Bool.and_eq_true, decide_eq_true_eq]
    omega
  · rw [hkind]
    exact decide_eq_true hlt
  · rw [hkind]
    exact decide_eq_true hlt

/-- R189: one set value is written, the others stay. -/
theorem optionGet_optionSet {options : List Nat} (hcount : options.length = 43) (n m : OptionName) (v : Nat) :
    optionGet (optionSet options n v) m = if m = n then v else optionGet options m := by
  unfold optionGet optionSet
  split
  · next h =>
    subst h
    have hlt : m.ctorIdx < options.length := hcount ▸ m.ctorIdx_lt
    simp [List.getD_eq_getElem?_getD, hlt]
  · next h =>
    have hne : n.ctorIdx ≠ m.ctorIdx := fun heq => h (OptionName.ctorIdx_inj heq).symm
    simp [List.getD_eq_getElem?_getD, List.getElem?_set_ne hne]

/-- R185: the ordering speaks of its five values alone. -/
theorem optionsOrdered_congr {a b : List Nat} (h : ∀ n : OptionName, n.inOrdering = true → optionGet a n = optionGet b n) :
    optionsOrdered a = optionsOrdered b := by
  unfold optionsOrdered
  rw [h .unitTime rfl, h .stopLength rfl, h .breakRecognition rfl, h .breakLength rfl, h .clearRecognition rfl]

/-- R189: SET OPTION writes a value that its option has and the ordering bears. -/
theorem OptionValues.write {options : List Nat} (h : OptionValues options) {n : OptionName} {v : Nat}
    (hv : n.spec.kind.admits v = true) (hordered : n.inOrdering = true → optionsOrdered (optionSet options n v) = true) :
    OptionValues (optionSet options n v) where
  count := (List.length_set ..).trans h.count
  each m := by
    rw [optionGet_optionSet h.count]
    split
    · next hm => exact hm ▸ hv
    · exact h.each m
  ordered := by
    cases hn : n.inOrdering with
    | true => exact hordered hn
    | false =>
      refine (optionsOrdered_congr fun m hm => ?_).trans h.ordered
      rw [optionGet_optionSet h.count, if_neg]
      rintro rfl
      exact Bool.false_ne_true (hn.symm.trans hm)

/-- R184: the defaults are such values. -/
theorem OptionValues.defaults : OptionValues Isl.defaultOptions where
  count := rfl
  each n := (congrArg n.spec.kind.admits (optionGet_map_all (fun n => n.spec.default) n)).trans n.admits_default
  ordered := by decide

/-- The values listed in the order of the options. -/
theorem OptionValues.map_all {f : OptionName → Nat} (hf : ∀ n : OptionName, n.spec.kind.admits (f n) = true)
    (hordered : optionsOrdered (OptionName.all.map f) = true) : OptionValues (OptionName.all.map f) where
  count := by rw [List.length_map]; rfl
  each n := by rw [optionGet_map_all]; exact hf n
  ordered := hordered

/-- R185: a load takes such values. -/
theorem loadOptions_values {image : List Byte} {options : List Nat} {count : Nat} (hlen : 0x3E ≤ image.length)
    (h : loadOptions image = some (options, count)) : OptionValues options := by
  obtain ⟨raw, hraw⟩ : ∃ raw : OptionName → Nat, ∀ n, raw n = if n.spec.bytes = 2
      then 256 * (image.getD (n.spec.offset - 1) 0).toNat + (image.getD n.spec.offset 0).toNat
      else (image.getD (n.spec.offset - 1) 0).toNat := ⟨_, fun _ => rfl⟩
  obtain ⟨value, hvalue⟩ : ∃ value : OptionName → Nat, ∀ n, value n =
      if n.spec.kind.admits (raw n) then raw n else n.spec.default := ⟨_, fun _ => rfl⟩
  have hadmits (n : OptionName) : n.spec.kind.admits (value n) = true := by
    rw [hvalue]
    split
    · assumption
    · exact n.admits_default
  by_cases hordered : optionsOrdered (OptionName.all.map value) = true
  · obtain ⟨rfl, -⟩ := Prod.mk.inj (Option.some.inj ((loadOptions_of_ordered hlen hraw hvalue hordered).symm.trans h))
    exact .map_all hadmits hordered
  · obtain ⟨rfl, -⟩ := Prod.mk.inj (Option.some.inj ((loadOptions_of_unordered hlen hraw hvalue hordered).symm.trans h))
    refine .map_all (fun n => ?_) ?_
    · split
      · exact n.admits_default
      · exact hadmits n
    · refine (optionsOrdered_congr (b := Isl.defaultOptions) fun n hn => ?_).trans OptionValues.defaults.ordered
      rw [optionGet_map_all, if_pos hn]
      exact (optionGet_map_all (fun n => n.spec.default) n).symm

/-- R184, R192: whatever a load reads, its options are such values. -/
theorem load_values (p : Presence) (k : LoadKind) (image : List Byte) :
    OptionValues (loadImage p k image).options ∧ OptionValues (loadOptionsSection p k image).options := by
  have hdefaults (p : Presence) : OptionValues (Loaded.defaults p).options := .defaults
  by_cases hk : k = .none
  · subst hk
    exact ⟨hdefaults p, hdefaults p⟩
  obtain hshort | hlong := Nat.lt_or_ge image.length 0x55
  · obtain ⟨hwhole, hsection⟩ := load_of_lt (p := p) hk hshort
    rw [hwhole, hsection]
    exact ⟨hdefaults .absent, hdefaults .absent⟩
  · obtain ⟨o, r, options, routes, hoptions, -, ⟨d, hd, -, -, hsection, -⟩, hbasic, hcut, hfull⟩ :=
      load_of_ge (p := p) hk hlong
    have hvalues := loadOptions_values (by omega) hoptions
    refine ⟨?_, by rw [hd, hsection]; exact hvalues⟩
    cases k with
    | none => exact absurd rfl hk
    | basic => rw [hbasic rfl]; exact hvalues
    | full =>
      obtain hshort | hwhole := Nat.lt_or_ge image.length 0xBF
      · rw [hcut rfl hshort]
        exact hdefaults .absent
      · obtain ⟨f, a, e, map, answer, keys, -, -, -, heq⟩ := hfull rfl hwhole
        rw [heq]
        exact hvalues

theorem State.loaded_values (s : State) (l : Loading) (image : List Byte) : OptionValues (s.loaded l image).options := by
  obtain ⟨hwhole, hsection⟩ := load_values s.isl.presence s.isl.loadKind image
  rw [State.loaded_eq]
  split
  · exact hsection
  · exact hwhole

/-! ## The values of a state -/

section Values
variable {s t : State}

theorem State.OptionsSound.values (h : s.OptionsSound) : OptionValues s.isl.options :=
  ⟨h.count, fun n => h.each n n.mem_all, h.ordered⟩

theorem OptionValues.sound (h : OptionValues s.isl.options) (hinEffect : timingOrdered s.timing.unit s.timing.stop
    s.timing.breakRec s.timing.breakLen s.timing.clearRec = true) : s.OptionsSound :=
  ⟨h.count, fun n _ => h.each n, h.ordered, hinEffect⟩

/-- R188: LINE WIDTH is 40 to 80. -/
theorem OptionValues.lineWidth {options : List Nat} (h : OptionValues options) :
    40 ≤ optionGet options .lineWidth ∧ optionGet options .lineWidth ≤ 80 := by
  have hadmits := h.each .lineWidth
  simpa [OptionName.spec, OptionKind.admits] using hadmits

theorem State.OptionsSound.lineWidth (h : s.OptionsSound) : 40 ≤ s.opt .lineWidth ∧ s.opt .lineWidth ≤ 80 :=
  h.values.lineWidth

/-- R189: SET OPTION keeps the set values, and takes none of them into effect. -/
theorem setOption_keepsCarriage (offset : Byte) (value : Word16) : s.KeepsCarriage (setOption offset value s) := by
  cases hn : OptionName.ofOffset offset.toNat with
  | none =>
    rw [setOption_of_no_option hn]
    exact .same (by simp)
  | some n =>
    cases hv : n.spec.kind.take value.toNat with
    | none =>
      rw [setOption_of_bad hn hv]
      exact .same (by simp)
    | some v =>
      rw [setOption_of_taken hn hv]
      split
      · exact .same (by simp)
      · next hconflict =>
        have hwritten (h : s.OptionsSound) : (s.writeOption n v).OptionsSound := by
          refine OptionValues.sound (h.values.write (OptionName.admits_taken hv) fun hin => ?_) h.inEffect
          rw [State.optionConflict_iff] at hconflict
          simpa [hin] using hconflict
        exact State.KeepsCarriage.accept ⟨hwritten, fun h => h.of_options (hwritten h.options) rfl rfl,
          fun h => h.of_same rfl rfl rfl fun _ => rfl⟩

/-- R121, R187: at the end of a load the values go to their users, with the timing and the width of the options. -/
theorem State.handOverValues_brings {i : Isl} {d : Loaded} (h : OptionValues i.options) :
    s.Brings (State.handOverValues { s with isl := i } d) := by
  have hoptions : (State.handOverValues { s with isl := i } d).OptionsSound := h.sound h.ordered
  refine ⟨fun _ => hoptions, fun _ => ⟨hoptions, h.lineWidth, fun c hc => ?_⟩, fun h => h.of_same rfl rfl rfl fun _ => id⟩
  simpa [State.handOverValues, Printer.takeWidth] using (Option.mem_filter_iff.mp hc).2

@[simp] theorem State.afterLoad_sameCarriage (s : State) (occasion : LoadOccasion) :
    s.SameCarriage (s.afterLoad occasion) := by
  unfold State.afterLoad
  repeat' split
  all_goals simp

theorem loadEnd_keepsCarriage (image : List Byte) : s.KeepsCarriage (loadEnd image s) := by
  unfold loadEnd
  split
  · next l _ =>
    split
    · have htaken : OptionValues (s.isl.take l.occasion (s.loaded l image)).options := by
        rw [Isl.take_eq]
        exact s.loaded_values l image
      refine State.Brings.carryOn ((State.handOverValues_brings (d := s.loaded l image) htaken).leaving ?_)
      simp [State.loadDone, State.handOverKeyboard]
    · exact .refl s
  · exact .refl s

end Values

end Sys2Proof.Machine
end


section
/-! SUPPORT. The rows of the line, the calls, the motor, the mechanisms, the keyboard and the loader keep the carriage and the
arbiter: the end of a print cycle moves the carriage within the width (R121), a hold-wait that has EXPIRED stands without a
rival or ends in a cut-in (R114, R115), and the rest leaves them. -/

namespace Sys2Proof.Machine

variable (s : State)

/-! ## The rows of the line and of the call timers -/

/-- What a timer does on its expiry (log 1). -/
theorem State.onTimer_keepsCarriage {timer : Option Nat} {act : State → State}
    (hact : ∀ t : State, t.KeepsCarriage (act t)) : s.KeepsCarriage (s.onTimer timer act) := by
  unfold State.onTimer
  split
  · exact (hact _).after (by simp)
  · exact .refl s

/-- What a sample does in its place (R41). -/
theorem State.atSample_keepsCarriage {act : State → Assembly → State} (k : Nat)
    (hact : ∀ (t : State) a, t.KeepsCarriage (act t a)) : s.KeepsCarriage (s.atSample k act) := by
  unfold State.atSample
  split
  · split
    · exact (hact _ _).after (by simp)
    · exact .refl s
  · exact .refl s

theorem rxFilteredChange_keepsCarriage (level : Level) (te : Nat) : s.KeepsCarriage (rxFilteredChange level te s) := by
  unfold rxFilteredChange
  split
  · exact .refl s
  · exact ((State.receiverChange_brings _ level te).after (by simp)).carryOn

theorem startSample_keepsCarriage : s.KeepsCarriage (startSample s) :=
  s.atSample_keepsCarriage 0 fun t a => by
    unfold State.readStart
    split
    · exact .carryOn_same (by simp)
    · exact .same (by simp)

theorem unitSample_keepsCarriage : s.KeepsCarriage (unitSample s) := by
  unfold unitSample
  split
  · split
    · exact s.atSample_keepsCarriage _ fun t a => .same (by simp [State.readUnit])
    · exact .refl s
  · exact .refl s

theorem stopSample_keepsCarriage : s.KeepsCarriage (stopSample s) :=
  s.atSample_keepsCarriage 6 fun t a => by
    unfold State.readStop State.recordDistortion State.deliverReceived
    dsimp only
    split
    · exact ((State.handOn_brings _ _ _).after (by simp)).carryOn
    · exact .same (by simp)

theorem breakThreshold_keepsCarriage : s.KeepsCarriage (breakThreshold s) := by
  unfold breakThreshold
  split
  · split
    · exact .refl s
    · exact .carryOn_same (by simp)
  · exact .refl s

theorem clearThreshold_keepsCarriage : s.KeepsCarriage (clearThreshold s) := by
  unfold clearThreshold
  split
  · exact .carryOn_same (by simp)
  · exact .refl s

theorem turnaroundGuardExpiry_keepsCarriage : s.KeepsCarriage (turnaroundGuardExpiry s) :=
  s.onTimer_keepsCarriage fun _ => .same (by simp)

theorem characterSent_keepsCarriage : s.KeepsCarriage (characterSent s) := by
  unfold characterSent
  split
  · next k _ =>
    unfold State.characterEnds
    have hpresented : s.Brings (((s.advance k.due).keyingDone k).present .sentCopy k.cell).1 :=
      (State.present_brings _ _ _).after (by simp)
    dsimp only
    split <;> exact (hpresented.leaving (by simp)).carryOn
  · exact .refl s

theorem breakKeyingEnd_keepsCarriage : s.KeepsCarriage (breakKeyingEnd s) := by
  unfold breakKeyingEnd
  split
  · exact .same (by simp)
  · exact .refl s

theorem callRecognition_keepsCarriage : s.KeepsCarriage (callRecognition s) :=
  s.onTimer_keepsCarriage fun t => t.recognise_brings.carryOn

theorem withdrawal_keepsCarriage : s.KeepsCarriage (withdrawal s) :=
  s.onTimer_keepsCarriage fun _ => .carryOn_same (by simp)

theorem offerTimeout_keepsCarriage : s.KeepsCarriage (offerTimeout s) :=
  s.onTimer_keepsCarriage fun t => State.Brings.carryOn (by
    split
    · exact t.enterAnswering_brings
    · exact .same (by simp))

theorem confirmation_keepsCarriage : s.KeepsCarriage (confirmation s) :=
  s.onTimer_keepsCarriage fun t => t.tryConnect_brings.carryOn

theorem confirmTimeout_keepsCarriage : s.KeepsCarriage (confirmTimeout s) :=
  s.onTimer_keepsCarriage fun _ => .carryOn_same (by simp)

theorem idleTimeout_keepsCarriage : s.KeepsCarriage (idleTimeout s) :=
  s.onTimer_keepsCarriage fun _ => .carryOn_same (by simp)

theorem enquiryDelayExpiry_keepsCarriage : s.KeepsCarriage (enquiryDelayExpiry s) :=
  s.onTimer_keepsCarriage fun _ => .same (by simp)

theorem captureWindowExpiry_keepsCarriage : s.KeepsCarriage (captureWindowExpiry s) := by
  unfold captureWindowExpiry
  split <;> exact .same (by simp)

theorem clearingEnd_keepsCarriage : s.KeepsCarriage (clearingEnd s) :=
  s.onTimer_keepsCarriage fun _ => .carryOn_same (by simp)

theorem clearingTimeout_keepsCarriage : s.KeepsCarriage (clearingTimeout s) :=
  s.onTimer_keepsCarriage fun _ => .carryOn_same (by simp)

theorem releasingEnd_keepsCarriage : s.KeepsCarriage (releasingEnd s) :=
  s.onTimer_keepsCarriage fun t => .carryOn_same (by simp)

/-! ## The motor -/

theorem runUpExpiry_keepsCarriage : s.KeepsCarriage (runUpExpiry s) := by
  unfold runUpExpiry
  split
  · dsimp only
    split
    · exact .same (by simp)
    · exact ((State.tryConnect_brings _).after (by simp)).carryOn
  · exact .refl s

theorem runOnExpiry_keepsCarriage : s.KeepsCarriage (runOnExpiry s) := by
  unfold runOnExpiry
  split <;> exact .same (by simp)

/-! ## The phases of a cycle -/

@[simp] theorem State.beginSettle_sameCarriage (m : Mechanism) (mode : TimingMode) (programmed extra : Nat) :
    s.SameCarriage (s.beginSettle m mode programmed extra) := by simp [State.beginSettle]

theorem selectEnd_keepsCarriage : s.KeepsCarriage (selectEnd s) := by
  unfold selectEnd State.beginStrike
  dsimp only
  repeat' split
  all_goals exact .same (by simp)

theorem strikeEnd_keepsCarriage : s.KeepsCarriage (strikeEnd s) := by
  unfold strikeEnd
  repeat' split
  all_goals exact .same (by simp)

theorem punchPulseEnd_keepsCarriage : s.KeepsCarriage (punchPulseEnd s) := by
  unfold punchPulseEnd
  repeat' split
  all_goals exact .same (by simp)

theorem feedPulseEnd_keepsCarriage : s.KeepsCarriage (feedPulseEnd s) := by
  unfold feedPulseEnd
  repeat' split
  all_goals exact .same (by simp)

/-! ## The end of a cycle -/

/-- R121: a cycle moves the carriage within the width; a CARRIAGE RETURN takes LINE WIDTH. -/
theorem Printer.columnAfter_inWidth {p : Printer} {w : Nat} (hw : 40 ≤ w ∧ w ≤ 80) (hp : 40 ≤ p.width ∧ p.width ≤ 80)
    (hcolumn : ∀ c ∈ p.column, c < p.width) (r : CodeClass) :
    (40 ≤ (if r = .carriageReturn then w else p.width) ∧ (if r = .carriageReturn then w else p.width) ≤ 80) ∧
      ∀ k ∈ p.columnAfter r, k < if r = .carriageReturn then w else p.width := by
  by_cases hreturn : r = .carriageReturn
  · rw [if_pos hreturn]
    refine ⟨hw, fun k hk => ?_⟩
    have hzero : 0 = k := by simpa [Printer.columnAfter, hreturn] using hk
    omega
  · rw [if_neg hreturn]
    refine ⟨hp, fun k hk => ?_⟩
    unfold Printer.columnAfter at hk
    split at hk
    case h_1 => contradiction
    case h_4 => exact hcolumn k hk
    all_goals
      obtain ⟨x, hx, rfl⟩ := Option.mem_map.mp hk
      have hlt := hcolumn x hx
      split <;> omega

/-- R120, R121: the end of a print cycle. -/
theorem State.printCycleEnded_brings (c : PrintCycle) (fault : Bool) : s.Brings (s.printCycleEnded c fault) := by
  have hended : s.Brings { s with printer := s.printer.afterCycle c fault (s.opt .lineWidth) } := by
    have hoptions (h : s.OptionsSound) :
        ({ s with printer := s.printer.afterCycle c fault (s.opt .lineWidth) } : State).OptionsSound := h.of_same rfl rfl
    refine ⟨hoptions, fun h => ?_, fun h => h.of_same rfl rfl rfl fun _ => id⟩
    obtain ⟨hwidth, hcolumn⟩ :=
      Printer.columnAfter_inWidth h.options.lineWidth h.width h.column c.reading
    exact ⟨hoptions h.options, hwidth, hcolumn⟩
  unfold State.printCycleEnded
  split
  · exact hended.leaving (by simp)
  · exact hended

/-- R130: PRINTER RESET makes the column UNKNOWN and ends the hold-wait. -/
theorem State.resetSteps_brings : s.Brings { s with printer := s.printer.resetSteps } where
  options h := h.of_same rfl rfl
  carriage h := ⟨h.options.of_same rfl rfl, h.width, fun c hc => absurd hc (Option.not_mem_none c)⟩
  arbiter h := ⟨h.committed, fun hw => absurd rfl hw⟩

theorem State.finishPrintCycle_brings (c : PrintCycle) (fault : Bool) : s.Brings (s.finishPrintCycle c fault) := by
  have hreset : s.Brings (if (s.printCycleEnded c fault).printer.resetPending then
      { s.printCycleEnded c fault with printer := (s.printCycleEnded c fault).printer.resetSteps }
    else s.printCycleEnded c fault) := by
    split
    · exact (s.printCycleEnded_brings c fault).trans (State.resetSteps_brings _)
    · exact s.printCycleEnded_brings c fault
  rw [State.finishPrintCycle_eq]
  exact hreset.leaving (by simp)

@[simp] theorem State.finishPunchCycle_sameCarriage (c : PunchCycle) (fault : Bool) :
    s.SameCarriage (s.finishPunchCycle c fault) := by
  unfold State.finishPunchCycle
  dsimp only
  split_ifs <;> simp

theorem State.endSettle_keepsCarriage (m : Mechanism) (elapsed : Nat) (fault : Bool) :
    s.KeepsCarriage (s.endSettle m elapsed fault) := by
  unfold State.endSettle State.report
  split
  · split
    · exact ((State.finishPrintCycle_brings _ _ fault).after (by simp)).carryOn
    · exact .same (by simp)
  · split
    · exact .carryOn_same (by simp)
    · exact .same (by simp)

theorem settleFixedEnd_keepsCarriage (m : Mechanism) : s.KeepsCarriage (settleFixedEnd m s) := by
  unfold settleFixedEnd
  dsimp only
  split
  · exact s.endSettle_keepsCarriage m _ _
  · exact .refl s

theorem settleSampledReading_keepsCarriage (m : Mechanism) (busy : Bool) :
    s.KeepsCarriage (settleSampledReading m busy s) := by
  unfold settleSampledReading
  dsimp only
  split
  · split
    · exact .same (by simp)
    · exact s.endSettle_keepsCarriage m _ _
  · exact .refl s

theorem settleAddEnd_keepsCarriage (m : Mechanism) : s.KeepsCarriage (settleAddEnd m s) := by
  unfold settleAddEnd
  dsimp only
  split
  · exact s.endSettle_keepsCarriage m _ _
  · exact .refl s

theorem extendedReading_keepsCarriage (m : Mechanism) (busy : Bool) :
    s.KeepsCarriage (extendedReading m busy s) := by
  unfold extendedReading
  dsimp only
  split
  · exact .refl s
  · split
    · exact s.endSettle_keepsCarriage m _ _
    split
    · exact s.endSettle_keepsCarriage m _ _
    · exact .same (by simp)

/-! ## Paper, tape and the timers of the mechanisms -/

theorem bellTimerExpiry_keepsCarriage : s.KeepsCarriage (bellTimerExpiry s) :=
  s.onTimer_keepsCarriage fun _ => .same (by simp)

/-- R114, R115: a hold-wait that has EXPIRED stands for its empty spool, or a rival cuts in. -/
theorem holdWaitExpiry_keepsCarriage : s.KeepsCarriage (holdWaitExpiry s) := by
  unfold holdWaitExpiry
  split
  · next due hwaiting =>
    have hstands (h : s.ArbiterSound) : ∃ n ∈ s.printer.current, s.printSpoolEmpty n = true :=
      h.waiting (by simp [hwaiting])
    dsimp only
    split
    · refine .carryOn_of (fun h => h.of_same rfl rfl)
        (fun h => h.of_options (h.options.of_same rfl rfl) (by simp) (by simp))
        fun h => ⟨fun hc => ?_, fun hw => absurd (by simp) hw⟩
      obtain ⟨n, hn, hempty⟩ := hstands h
      obtain ⟨m, hm, hholds⟩ := h.committed (by simpa using hc)
      obtain rfl := Option.mem_unique hn hm
      exact absurd (hempty.symm.trans hholds) (by decide)
    · exact ⟨fun h => h.of_same rfl rfl, fun h => h.of_options (h.options.of_same rfl rfl) rfl rfl,
        fun h => ⟨h.committed, fun _ => hstands h⟩⟩
  · exact .refl s

theorem releaseTimerExpiry_keepsCarriage : s.KeepsCarriage (releaseTimerExpiry s) :=
  s.onTimer_keepsCarriage fun _ => .carryOn_same (by simp)

theorem paperOutChange_keepsCarriage (asserted : Bool) (te : Nat) : s.KeepsCarriage (paperOutChange asserted te s) := by
  unfold paperOutChange State.paperOutTaken State.paperGone
  dsimp only
  split
  · split
    · split
      · exact .carryOn_same (by simp)
      · exact .same (by simp)
    split <;> exact .same (by simp)
  · exact .refl s

theorem paperRestoreExpiry_keepsCarriage : s.KeepsCarriage (paperRestoreExpiry s) :=
  s.onTimer_keepsCarriage fun _ => .carryOn_same (by simp)

theorem paperLowChange_keepsCarriage (asserted : Bool) (te : Nat) : s.KeepsCarriage (paperLowChange asserted te s) := by
  unfold paperLowChange
  split <;> exact .same (by simp)

theorem tapeOutChange_keepsCarriage (asserted : Bool) (te : Nat) : s.KeepsCarriage (tapeOutChange asserted te s) := by
  unfold tapeOutChange State.tapeOutTaken State.tapeGone
  dsimp only
  split
  · split
    · split
      · exact .carryOn_same (by simp)
      · exact .same (by simp)
    split <;> exact .same (by simp)
  · exact .refl s

theorem tapeRestoreExpiry_keepsCarriage : s.KeepsCarriage (tapeRestoreExpiry s) :=
  s.onTimer_keepsCarriage fun _ => .carryOn_same (by simp)

theorem tapeLowChange_keepsCarriage (asserted : Bool) (te : Nat) : s.KeepsCarriage (tapeLowChange asserted te s) := by
  unfold tapeLowChange
  split <;> exact .same (by simp)

theorem inputFilterStart_keepsCarriage (input : InputPin) (asserted : Bool) :
    s.KeepsCarriage (inputFilterStart input asserted s) := by
  unfold inputFilterStart
  split
  · cases input <;> exact .carryOn_same (by simp [State.startFilter])
  · exact .refl s

/-! ## The keyboard -/

theorem confirmedPress_keepsCarriage (p : Fin 64) : s.KeepsCarriage (confirmedPress p s) := by
  unfold confirmedPress State.actOnPress
  split
  · split
    · exact .same (by simp)
    · exact .same (by simp)
    · split
      · exact .same (by simp)
      · exact ((State.pressKey_brings _ _).after (by simp)).carryOn
  · exact .refl s

theorem confirmedRelease_keepsCarriage (p : Fin 64) : s.KeepsCarriage (confirmedRelease p s) := by
  unfold confirmedRelease State.actOnRelease
  split
  · split
    · exact .same (by simp)
    · exact .same (by simp)
    · split
      · exact .carryOn_same (by simp)
      · exact .same (by simp)
  · exact .refl s

/-! ## The loader -/

/-- R184: the power-on values are sound whatever the clock, the straps and the queue. -/
theorem State.powerOnValues_sound (occasion : LoadOccasion) (straps : BitVec 2) (holdOff : Bool)
    (now freeIndex : Nat) (pending : List Instr) :
    (State.powerOnValues occasion straps holdOff now freeIndex pending).CarriageSound ∧
      (State.powerOnValues occasion straps holdOff now freeIndex pending).ArbiterSound :=
  ⟨State.reset_carriageSound.of_options (State.reset_optionsSound.of_same rfl rfl) rfl rfl,
    State.reset_arbiterSound.of_same rfl rfl rfl fun _ => rfl⟩

theorem storeByte0Read_sameCarriage (byte : Option Byte) : s.SameCarriage (storeByte0Read byte s) := by
  unfold storeByte0Read
  repeat' split
  all_goals simp

theorem storeOperationEnd_sameCarriage (acknowledged : Bool) (bytes : List Byte) :
    s.SameCarriage (storeOperationEnd acknowledged bytes s) := by
  unfold storeOperationEnd
  repeat' split
  all_goals simp

theorem storeWritePollTimeout_sameCarriage : s.SameCarriage (storeWritePollTimeout s) := by
  unfold storeWritePollTimeout
  split <;> simp

end Sys2Proof.Machine
end


section
/-! The commands of the host and the Control Link keep the options, the carriage and the arbiter, and so does every step (R111
to R116, R121, R185, R189, R192). -/

namespace Sys2Proof.Machine

/-- An owner of a command, or another operation, that keeps the carriage in every state. -/
def CarriageKeeping (f : State → State) : Prop := ∀ s : State, s.KeepsCarriage (f s)

theorem CarriageKeeping.same {f : State → State} (h : ∀ s : State, s.SameCarriage (f s)) : CarriageKeeping f :=
  fun s => .same (h s)

section Commands
variable (s : State)

/-! ## The commands of service, calls and the line -/

theorem startService_sameCarriage : s.SameCarriage (startService s) := by
  unfold startService
  repeat' split
  all_goals simp

theorem State.stopEffect_keepsCarriage : s.KeepsCarriage s.stopEffect.1 := by
  unfold State.stopEffect
  split <;> dsimp only
  · exact .refl s
  · exact .same (by simp)
  · exact .same (by simp)
  · exact .carryOn_same (by simp)
  · exact .carryOn_same (by simp)
  · exact .carryOn_same (by simp)
  · exact .same (by simp)
  · exact .same (by simp)

theorem stopService_keepsCarriage : s.KeepsCarriage (stopService s) := s.stopEffect_keepsCarriage.accept

theorem acceptCall_keepsCarriage : s.KeepsCarriage (acceptCall s) := by
  unfold acceptCall
  split
  · exact s.enterAnswering_brings.carryOn.accept
  · exact .same (by simp)

theorem declineCall_keepsCarriage : s.KeepsCarriage (declineCall s) := by
  unfold declineCall
  split
  · exact (State.KeepsCarriage.carryOn_same (by simp)).accept
  · exact .same (by simp)

theorem placeCall_keepsCarriage : s.KeepsCarriage (placeCall s) := by
  unfold placeCall
  split
  · exact s.enterCalling_brings.carryOn.accept
  · exact .same (by simp)

theorem clearCall_keepsCarriage : s.KeepsCarriage (clearCall s) := by
  unfold clearCall
  split
  · exact (State.KeepsCarriage.carryOn_same (by simp)).accept
  · exact (State.KeepsCarriage.carryOn_same (by simp)).accept
  · exact (State.KeepsCarriage.carryOn_same (by simp)).accept
  · exact .same (by simp)

theorem sendAnswerback_keepsCarriage : s.KeepsCarriage (sendAnswerback s) := by
  unfold sendAnswerback
  split
  · split
    · exact (State.KeepsCarriage.carryOn_same (by simp)).accept
    · exact .same (by simp)
  · exact .same (by simp)

theorem sendEnquiry_keepsCarriage : s.KeepsCarriage (sendEnquiry s) := by
  unfold sendEnquiry
  split
  · exact (State.KeepsCarriage.carryOn_same (by simp)).accept
  · exact .same (by simp)

theorem sendBreak_keepsCarriage : s.KeepsCarriage (sendBreak s) := by
  unfold sendBreak
  split
  · exact (State.KeepsCarriage.carryOn_same (by simp)).accept
  · exact .same (by simp)

theorem resumeSend_keepsCarriage : s.KeepsCarriage (resumeSend s) := by
  unfold resumeSend
  split
  · split
    · exact (State.KeepsCarriage.carryOn_same (by simp)).accept
    · exact .same (by simp)
  · exact .same (by simp)

theorem getLineQuality_sameCarriage (clear : Byte) : s.SameCarriage (getLineQuality clear s) := by
  unfold getLineQuality
  repeat' split
  all_goals simp

/-! ## The commands of the options, the routes, the spools and the Message File -/

theorem getOption_sameCarriage (offset : Byte) : s.SameCarriage (getOption offset s) := by
  unfold getOption
  split <;> simp

theorem setRoute_sameCarriage (route destinations printStandIn punchStandIn : Byte) (reload : Word16) (action : Byte) :
    s.SameCarriage (setRoute route destinations printStandIn punchStandIn reload action s) := by
  unfold setRoute
  split <;> simp

theorem getRoute_sameCarriage (route clear : Byte) : s.SameCarriage (getRoute route clear s) := by
  unfold getRoute
  dsimp only
  repeat' split
  all_goals simp

theorem rearmRoute_sameCarriage (route : Byte) : s.SameCarriage (rearmRoute route s) := by
  unfold rearmRoute
  split <;> simp

theorem submitText_keepsCarriage (target : Byte) (bytes : List Byte) : s.KeepsCarriage (submitText target bytes s) := by
  have hclaimed : ∀ t : SubmitTarget, s.SameCarriage (s.claimFor t) := fun t => by cases t <;> simp [State.claimFor]
  unfold submitText State.submitCells
  split
  · next t _ _ _ =>
    split
    · exact .same (by simp)
    · dsimp only
      split
      · exact .same (by simp)
      · next hbatch =>
        have hgrown := (State.Brings.growing (s.claimFor t) fun n hn =>
          Store.batch_holds hbatch (by rwa [(hclaimed t).2.2.2 n] at hn)).after (hclaimed t)
        exact (hgrown.leaving (by simp)).carryOn
  · exact .same (by simp)

/-- R11: an emptied print spool drops the commitment to its head cell. -/
theorem State.clearedPrint_brings (m : PrintSpool) :
    s.Brings (State.dropPrintCommitment { s with store := (s.store.emptySpool m.toSpool).2 } m) := by
  have hothers (n : PrintSpool) (hn : n ≠ m) :
      (s.store.emptySpool m.toSpool).2.spool n.toSpool = s.store.spool n.toSpool :=
    s.store.emptySpool_other (by cases n <;> cases m <;> simp_all [PrintSpool.toSpool])
  unfold State.dropPrintCommitment
  split
  · exact ⟨fun h => h.of_same rfl rfl, fun h => h.of_options (h.options.of_same rfl rfl) rfl rfl,
      fun h => ⟨nofun, h.waiting⟩⟩
  · next hcurrent =>
    refine ⟨fun h => h.of_same rfl rfl, fun h => h.of_options (h.options.of_same rfl rfl) rfl rfl,
      fun h => ⟨fun hc => ?_, h.waiting⟩⟩
    obtain ⟨n, hn, hholds⟩ := h.committed hc
    refine ⟨n, hn, (State.printSpoolEmpty_congr (s := s) (hothers n ?_)).trans hholds⟩
    rintro rfl
    exact hcurrent hn

/-- R11: an emptied spool drops what is committed of it. -/
theorem State.spoolEmptied_brings (n : SpoolName) :
    s.Brings (State.spoolEmptied { s with store := (s.store.emptySpool n).2 } n) := by
  unfold State.spoolEmptied
  cases n with
  | pLine => exact s.clearedPrint_brings .pLine
  | pLocal => exact s.clearedPrint_brings .pLocal
  | pSubmit => exact s.clearedPrint_brings .pSubmit
  | punch =>
    unfold State.dropPunchWork
    dsimp only
    split <;> exact .same (by simp)
  | send => exact .same (by simp)

theorem clearSpool_keepsCarriage (spool : Byte) : s.KeepsCarriage (clearSpool spool s) := by
  unfold clearSpool
  split
  · exact .same (by simp)
  · next n _ => exact ((s.spoolEmptied_brings n).leaving (by simp)).carryOn

theorem getMessage_sameCarriage (number : Byte) : s.SameCarriage (getMessage number s) := by
  unfold getMessage
  repeat' split
  all_goals simp

theorem fetchMessage_sameCarriage (number : Byte) (offset : Word16) (count : Byte) :
    s.SameCarriage (fetchMessage number offset count s) := by
  unfold fetchMessage
  repeat' split
  all_goals simp

theorem deleteMessage_sameCarriage (number : Byte) : s.SameCarriage (deleteMessage number s) := by
  unfold deleteMessage
  repeat' split
  all_goals simp [State.deleteRecord]

theorem replayMessage_sameCarriage (number target : Byte) : s.SameCarriage (replayMessage number target s) := by
  unfold replayMessage State.beginReplay
  repeat' split
  all_goals simp

theorem cancelReplay_sameCarriage : s.SameCarriage (cancelReplay s) := by
  unfold cancelReplay
  split <;> simp

/-! ## The commands of the mechanisms and the keyboard -/

theorem printerHold_keepsCarriage : s.KeepsCarriage (printerHold s) :=
  (State.KeepsCarriage.carryOn_same (t := s.withHold true) (by simp)).accept

theorem printerRelease_keepsCarriage : s.KeepsCarriage (printerRelease s) :=
  (State.KeepsCarriage.carryOn_same (t := s.withHold false) (by simp)).accept

/-- R130: PRINTER RESET waits for the cycle in flight, or clears the fault of a printer without one. -/
theorem State.resetPrinter_brings : s.Brings s.resetPrinter := by
  unfold State.resetPrinter
  split
  · exact .same (by simp)
  · exact s.resetSteps_brings.leaving (by simp)

theorem printerReset_keepsCarriage : s.KeepsCarriage (printerReset s) := s.resetPrinter_brings.carryOn.accept

theorem punchOn_keepsCarriage : s.KeepsCarriage (punchOn s) :=
  (State.KeepsCarriage.carryOn_same (s.setSwitch_sameCarriage true)).accept

theorem punchOff_keepsCarriage : s.KeepsCarriage (punchOff s) :=
  (State.KeepsCarriage.carryOn_same (s.setSwitch_sameCarriage false)).accept

theorem punchFeed_keepsCarriage (count : Byte) : s.KeepsCarriage (punchFeed count s) := by
  unfold punchFeed State.requestFeed
  split
  · exact .same (by simp)
  split
  · exact .same (by simp)
  split
  · exact .same (by simp)
  · exact .carryOn_same (by simp)

theorem punchRelease_keepsCarriage : s.KeepsCarriage (punchRelease s) := by
  unfold punchRelease
  split
  · exact .same (by simp)
  · split
    · exact (State.KeepsCarriage.carryOn_same (by simp)).accept
    · exact .same (by simp)
  · exact .same (by simp)

theorem punchReset_keepsCarriage : s.KeepsCarriage (punchReset s) :=
  (State.KeepsCarriage.carryOn_same (t := s.resetPunch) (by simp [State.resetPunch])).accept

theorem setKeyboardMode_keepsCarriage (mode : Byte) : s.KeepsCarriage (setKeyboardMode mode s) := by
  unfold setKeyboardMode
  split
  · exact .same (by simp)
  · split
    · exact .same (by simp)
    · exact (State.KeepsCarriage.carryOn_same (by simp)).accept

/-! ## The commands of the store and the loader -/

theorem storeRead_sameCarriage (offset count : Byte) : s.SameCarriage (storeRead offset count s) := by
  unfold storeRead
  repeat' split
  all_goals simp

theorem storeWrite_sameCarriage (offset : Byte) (bytes : List Byte) : s.SameCarriage (storeWrite offset bytes s) := by
  unfold storeWrite
  repeat' split
  all_goals simp

theorem reload_sameCarriage : s.SameCarriage (reload s) := by
  unfold reload
  split <;> simp [State.startLoading]

/-- R132: at RESTART the arbiter is at rest. -/
theorem State.restartPrinter_arbiterSound : s.restartPrinter.ArbiterSound := by
  have hrest : (s.printer.restarted (s.opt .lineWidth)).committed = false ∧
      (s.printer.restarted (s.opt .lineWidth)).holdWait = .notWaiting := by
    rw [Printer.restarted_eq]
    exact ⟨rfl, rfl⟩
  obtain ⟨hcommitted, hwait⟩ := hrest
  rw [State.restartPrinter_eq]
  exact ⟨fun hc => by simp [hcommitted] at hc, fun hw => absurd (by simpa using hwait) hw⟩

/-- R120, R121: RESTART abandons the print cycle with the effects of its code. -/
theorem State.CarriageSound.restartPrinter {s : State} (h : s.CarriageSound) : s.restartPrinter.CarriageSound := by
  have hrestarted : ({ s with printer := s.printer.restarted (s.opt .lineWidth) } : State).CarriageSound := by
    cases hcycle : s.printer.cycle with
    | none =>
      have hnone : s.printer.restarted (s.opt .lineWidth) = s.printer.restartSteps := by
        simp [Printer.restarted, hcycle]
      exact h.of_options (h.options.of_same rfl rfl) (by rw [hnone]; rfl) (by rw [hnone]; rfl)
    | some c =>
      obtain ⟨hwidth, hcolumn⟩ :=
        Printer.columnAfter_inWidth h.options.lineWidth h.width h.column c.reading
      exact ⟨h.options.of_same rfl rfl, by simpa [Printer.restarted, hcycle] using hwidth,
        by simpa [Printer.restarted, hcycle] using hcolumn⟩
  rw [State.restartPrinter_eq]
  exact (State.KeepsCarriage.same (by simp)).carriage hrestarted

/-- R192: RESTART keeps the options and the timing, which its load changes; the carriage stays within the width. -/
theorem restart_keepsCarriage : s.KeepsCarriage (restart s) := by
  obtain ⟨x, hx, hoptions, htiming, hwidth, hcolumn⟩ : ∃ x : State,
      restart s = x.restartPrinter.restartPunch.restartMotor.restartKeyboard ∧ x.isl.options = s.isl.options ∧
        x.timing = s.timing ∧ x.printer.width = s.printer.width ∧ x.printer.column = s.printer.column := by
    refine ⟨_, rfl, ?_, ?_, ?_, ?_⟩ <;> simp [State.startLoading, State.restartCall_eq, State.restartFile]
  have hlast : x.restartPrinter.KeepsCarriage x.restartPrinter.restartPunch.restartMotor.restartKeyboard :=
    .same (by simp [State.restartPunch])
  have hfrom (h : s.OptionsSound) : x.OptionsSound := h.of_same hoptions htiming
  have hprinted (h : x.OptionsSound) : x.restartPrinter.OptionsSound := by
    rw [State.restartPrinter_eq]
    exact h.of_same (by simp) (by simp)
  rw [hx]
  exact ⟨fun h => hlast.options (hprinted (hfrom h)),
    fun h => hlast.carriage (h.of_options (hfrom h.options) hwidth hcolumn).restartPrinter,
    fun _ => hlast.arbiter x.restartPrinter_arbiterSound⟩

end Commands

/-! ## The Control Link -/

/-- Every command's owner keeps the carriage, whatever the kind and the body (section 10.7). -/
theorem commandOwner_keepsCarriage (kind : Byte) (body : List Byte) : CarriageKeeping (commandOwner kind body) := by
  unfold commandOwner
  split
  · exact .same fun _ => by simp [getStatus]
  · exact .same startService_sameCarriage
  · exact stopService_keepsCarriage
  · exact fun s => setOption_keepsCarriage _ _
  · exact .same fun s => getOption_sameCarriage s _
  · exact .same fun s => setRoute_sameCarriage s _ _ _ _ _ _
  · exact .same fun s => getRoute_sameCarriage s _ _
  · exact .same fun s => rearmRoute_sameCarriage s _
  · exact fun s => submitText_keepsCarriage s _ _
  · exact fun s => clearSpool_keepsCarriage s _
  · exact acceptCall_keepsCarriage
  · exact declineCall_keepsCarriage
  · exact placeCall_keepsCarriage
  · exact clearCall_keepsCarriage
  · exact sendAnswerback_keepsCarriage
  · exact sendEnquiry_keepsCarriage
  · exact sendBreak_keepsCarriage
  · exact resumeSend_keepsCarriage
  · exact .same fun _ => by simp [getCall]
  · exact .same fun s => getLineQuality_sameCarriage s _
  · exact .same fun _ => by simp [listMessages]
  · exact .same fun s => getMessage_sameCarriage s _
  · exact .same fun s => fetchMessage_sameCarriage s _ _ _
  · exact .same fun s => deleteMessage_sameCarriage s _
  · exact .same fun s => replayMessage_sameCarriage s _ _
  · exact .same cancelReplay_sameCarriage
  · exact printerHold_keepsCarriage
  · exact printerRelease_keepsCarriage
  · exact printerReset_keepsCarriage
  · exact punchOn_keepsCarriage
  · exact punchOff_keepsCarriage
  · exact fun s => punchFeed_keepsCarriage s _
  · exact punchRelease_keepsCarriage
  · exact punchReset_keepsCarriage
  · exact fun s => setKeyboardMode_keepsCarriage s _
  · exact .same fun s => storeRead_sameCarriage s _ _
  · exact .same fun s => storeWrite_sameCarriage s _ _
  · exact .same reload_sameCarriage
  · exact restart_keepsCarriage
  · exact State.KeepsCarriage.refl

section Frames
variable (s : State)

/-- R173: a frame in turn is refused or reaches its owner. -/
theorem State.dispatch_keepsCarriage (kind : Byte) (length : Nat) (body : List Byte) :
    s.KeepsCarriage (s.dispatch kind length (commandOwner kind body)) := by
  unfold State.dispatch
  dsimp only
  split
  · exact .same (by simp)
  · exact (commandOwner_keepsCarriage kind body _).after (by simp)

@[simp] theorem State.frameEnded_sameCarriage (turn : Turn) (kind : Byte) : s.SameCarriage (s.frameEnded turn kind) := by
  unfold State.frameEnded
  split <;> simp

@[simp] theorem State.frameFails_sameCarriage (turn : Turn) (kind : Byte) (r : Reason) :
    s.SameCarriage (s.frameFails turn kind r) := by
  unfold State.frameFails
  split <;> simp

theorem State.frameComplete_keepsCarriage (turn : Turn) (kind : Byte) (body : List Byte) :
    s.KeepsCarriage (s.frameComplete turn kind body) := by
  unfold State.frameComplete
  dsimp only
  split
  · exact (State.dispatch_keepsCarriage _ _ _ body).after (by simp)
  · exact .same (by simp)

theorem State.takeByte_keepsCarriage (b : Byte) : s.KeepsCarriage (s.takeByte b) := by
  unfold State.takeByte
  split
  · exact .same (by simp [State.beginFrame])
  · unfold State.takeLength
    split
    · exact s.frameComplete_keepsCarriage _ _ _
    split <;> exact .same (by simp)
  · unfold State.takeBodyByte
    split
    · exact s.frameComplete_keepsCarriage _ _ _
    · exact .same (by simp)
  · exact .same (by simp)

/-- Bytes taken one after another (R172). -/
theorem State.foldl_takeByte_keepsCarriage (bytes : List Byte) (s : State) :
    s.KeepsCarriage (bytes.foldl State.takeByte s) := by
  induction bytes generalizing s with
  | nil => exact .refl s
  | cons b bytes ih => exact (s.takeByte_keepsCarriage b).trans (ih _)

theorem State.hostCommand_keepsCarriage (kind : Byte) (body : List Byte) :
    s.KeepsCarriage (s.hostCommand kind body (commandOwner kind body)) := by
  unfold State.hostCommand
  split
  · exact s.dispatch_keepsCarriage kind _ body
  · exact State.foldl_takeByte_keepsCarriage _ s

theorem inboundByte_keepsCarriage (b : Byte) (stop : Level) : s.KeepsCarriage (inboundByte b stop s) := by
  cases stop
  · exact .refl s
  · exact s.takeByte_keepsCarriage b

theorem interByteTimeout_sameCarriage : s.SameCarriage (interByteTimeout s) := by
  unfold interByteTimeout State.abandonFrame
  split <;> simp

theorem discardQuietTimeout_sameCarriage : s.SameCarriage (discardQuietTimeout s) := by
  unfold discardQuietTimeout
  split <;> simp

theorem outboundFrameEnd_sameCarriage : s.SameCarriage (outboundFrameEnd s) := by
  unfold outboundFrameEnd
  dsimp only
  repeat' split
  all_goals simp

end Frames

/-! ## Every row and every step -/

/-- Every row completes, and keeps the carriage. -/
theorem exec_keepsCarriage (s : State) (i : Instr) : ∃ t, exec i s = .next t ∧ s.KeepsCarriage t := by
  cases hframe : commandFrame i with
  | some f => exact ⟨_, exec_of_commandFrame hframe s, s.hostCommand_keepsCarriage f.1 f.2⟩
  | none =>
    cases i with
    | powerOn | resetPin =>
      obtain ⟨hcarriage, harbiter⟩ := State.powerOnValues_sound ..
      exact ⟨_, rfl, fun _ => hcarriage.options, fun _ => hcarriage, fun _ => harbiter⟩
    | outboundFrameStart => exact ⟨_, rfl, .same (by simp [outboundFrameStart])⟩
    | holdOffAssert => exact ⟨_, rfl, .same (by simp [holdOffAssert])⟩
    | holdOffDeassert => exact ⟨_, rfl, .same (by simp [holdOffDeassert])⟩
    | loadEnd => exact ⟨_, rfl, loadEnd_keepsCarriage _⟩
    | inboundByte => exact ⟨_, rfl, inboundByte_keepsCarriage s _ _⟩
    | interByteTimeout => exact ⟨_, rfl, .same (interByteTimeout_sameCarriage s)⟩
    | discardQuietTimeout => exact ⟨_, rfl, .same (discardQuietTimeout_sameCarriage s)⟩
    | outboundFrameEnd => exact ⟨_, rfl, .same (outboundFrameEnd_sameCarriage s)⟩
    | storeByte0Read => exact ⟨_, rfl, .same (storeByte0Read_sameCarriage s _)⟩
    | storeOperationEnd => exact ⟨_, rfl, .same (storeOperationEnd_sameCarriage s _ _)⟩
    | storeWritePollTimeout => exact ⟨_, rfl, .same (storeWritePollTimeout_sameCarriage s)⟩
    | rxFilteredChange => exact ⟨_, rfl, rxFilteredChange_keepsCarriage s _ _⟩
    | startSample => exact ⟨_, rfl, startSample_keepsCarriage s⟩
    | unitSample => exact ⟨_, rfl, unitSample_keepsCarriage s⟩
    | stopSample => exact ⟨_, rfl, stopSample_keepsCarriage s⟩
    | breakThreshold => exact ⟨_, rfl, breakThreshold_keepsCarriage s⟩
    | clearThreshold => exact ⟨_, rfl, clearThreshold_keepsCarriage s⟩
    | turnaroundGuardExpiry => exact ⟨_, rfl, turnaroundGuardExpiry_keepsCarriage s⟩
    | characterSent => exact ⟨_, rfl, characterSent_keepsCarriage s⟩
    | breakKeyingEnd => exact ⟨_, rfl, breakKeyingEnd_keepsCarriage s⟩
    | callRecognition => exact ⟨_, rfl, callRecognition_keepsCarriage s⟩
    | withdrawal => exact ⟨_, rfl, withdrawal_keepsCarriage s⟩
    | offerTimeout => exact ⟨_, rfl, offerTimeout_keepsCarriage s⟩
    | confirmation => exact ⟨_, rfl, confirmation_keepsCarriage s⟩
    | confirmTimeout => exact ⟨_, rfl, confirmTimeout_keepsCarriage s⟩
    | idleTimeout => exact ⟨_, rfl, idleTimeout_keepsCarriage s⟩
    | enquiryDelayExpiry => exact ⟨_, rfl, enquiryDelayExpiry_keepsCarriage s⟩
    | captureWindowExpiry => exact ⟨_, rfl, captureWindowExpiry_keepsCarriage s⟩
    | clearingEnd => exact ⟨_, rfl, clearingEnd_keepsCarriage s⟩
    | clearingTimeout => exact ⟨_, rfl, clearingTimeout_keepsCarriage s⟩
    | releasingEnd => exact ⟨_, rfl, releasingEnd_keepsCarriage s⟩
    | runUpExpiry => exact ⟨_, rfl, runUpExpiry_keepsCarriage s⟩
    | runOnExpiry => exact ⟨_, rfl, runOnExpiry_keepsCarriage s⟩
    | selectEnd => exact ⟨_, rfl, selectEnd_keepsCarriage s⟩
    | strikeEnd => exact ⟨_, rfl, strikeEnd_keepsCarriage s⟩
    | punchPulseEnd => exact ⟨_, rfl, punchPulseEnd_keepsCarriage s⟩
    | feedPulseEnd => exact ⟨_, rfl, feedPulseEnd_keepsCarriage s⟩
    | settleFixedEnd => exact ⟨_, rfl, settleFixedEnd_keepsCarriage s _⟩
    | settleSampledReading => exact ⟨_, rfl, settleSampledReading_keepsCarriage s _ _⟩
    | settleAddEnd => exact ⟨_, rfl, settleAddEnd_keepsCarriage s _⟩
    | extendedReading => exact ⟨_, rfl, extendedReading_keepsCarriage s _ _⟩
    | bellTimerExpiry => exact ⟨_, rfl, bellTimerExpiry_keepsCarriage s⟩
    | holdWaitExpiry => exact ⟨_, rfl, holdWaitExpiry_keepsCarriage s⟩
    | paperOutChange => exact ⟨_, rfl, paperOutChange_keepsCarriage s _ _⟩
    | paperRestoreExpiry => exact ⟨_, rfl, paperRestoreExpiry_keepsCarriage s⟩
    | paperLowChange => exact ⟨_, rfl, paperLowChange_keepsCarriage s _ _⟩
    | inputFilterStart => exact ⟨_, rfl, inputFilterStart_keepsCarriage s _ _⟩
    | tapeOutChange => exact ⟨_, rfl, tapeOutChange_keepsCarriage s _ _⟩
    | tapeRestoreExpiry => exact ⟨_, rfl, tapeRestoreExpiry_keepsCarriage s⟩
    | tapeLowChange => exact ⟨_, rfl, tapeLowChange_keepsCarriage s _ _⟩
    | releaseTimerExpiry => exact ⟨_, rfl, releaseTimerExpiry_keepsCarriage s⟩
    | confirmedPress => exact ⟨_, rfl, confirmedPress_keepsCarriage s _⟩
    | confirmedRelease => exact ⟨_, rfl, confirmedRelease_keepsCarriage s _⟩
    | replayCopy => exact ⟨_, rfl, replayCopy_keepsCarriage s⟩
    | unknownCommandKind | getStatus | startService | stopService | setOption | getOption | setRoute |
      getRoute | rearmRoute | submitText | clearSpool | acceptCall | declineCall | placeCall | clearCall |
      sendAnswerback | sendEnquiry | sendBreak | resumeSend | getCall | getLineQuality | listMessages |
      getMessage | fetchMessage | deleteMessage | replayMessage | cancelReplay | printerHold |
      printerRelease | printerReset | punchOn | punchOff | punchFeed | punchRelease | punchReset |
      setKeyboardMode | storeRead | storeWrite | reload | restart => cases hframe

/-- Every step keeps the options, the carriage and the arbiter. -/
theorem step_keepsCarriage {s t : State} (hstep : step s = .next t) : s.KeepsCarriage t := by
  unfold step at hstep
  split at hstep
  · next c rest _ =>
    obtain ⟨u, hexec, hkeeps⟩ := exec_keepsCarriage { s with pending := rest } c
    rw [hexec] at hstep
    cases hstep
    exact hkeeps.after (by simp)
  · cases hstep
    exact .same (by simp)

/-- Settles O7: the options change only in SET OPTION and in a load, the width with a CARRIAGE RETURN and a load, and the
choices that follow a row review the hold-wait before the printer commits or waits. -/
theorem everyStepKeepsOptionsCarriageAndArbiter : Obligations.EveryStepKeepsOptionsCarriageAndArbiter :=
  ⟨⟨fun _ _ hsound hstep => (step_keepsCarriage hstep).options hsound,
    fun _ _ hsound hstep => (step_keepsCarriage hstep).carriage hsound⟩,
    fun _ _ hsound hstep => (step_keepsCarriage hstep).arbiter hsound⟩

end Sys2Proof.Machine
end
